-- ==== Sys2Proof/Word.lean ====
section
/-! DEFINITION. The one word type of the model: a byte of a frame, a record or a payload. Powers, voltages,
currents, times and counts are natural numbers (spec/12 Table 12-1 gives only the width they travel in). -/

namespace Sys2Proof

/-- A byte of a control frame or of an accessory record. -/
abbrev Byte := BitVec 8

end Sys2Proof
end

