-- ==== Sys2Proof/Syntax.lean ====
section
/-! DEFINITION. The commands of the block: one constructor of `Instr` for each row of spec/opcode_table.json, with the
row's operands. Rows named after a host command carry the tag and the payload bytes of its frame (spec/12, Table 12-4).
Rows that are events carry the source, port, channel or line they fall on, and what arrives with them. -/

namespace Sys2Proof

/-- The three sources (spec/00, 4.2): PLATE A, PLATE B and DC IN. -/
inductive Source where
  | sa | sb | sd
  deriving DecidableEq, Repr

/-- Ports P0 to P7. -/
abbrev Port := Fin 8

/-- The sense channels of Table 2-1: 0 to 2 V_SA, V_SB, V_SD; 3 V_BUS; 4 to 11 I_P0 to I_P7; 12 I_BODY. -/
abbrev SenseChannel := Fin 13

/-- The three send channels of chapter 8. -/
abbrev SendNo := Fin 3

/-- Samples 7, 8 and 9 of one received bit, true for a high level (R124). -/
structure Vote where
  s7 : Bool
  s8 : Bool
  s9 : Bool
  deriving DecidableEq, Repr

/-- What the receiver of an accessory line takes of one character after its start bit: the votes of the eight data
bits, least significant first, of the mark bit and of the stop bit (R123, R124). -/
structure LineSamples where
  data : Vector Vote 8
  mark : Vote
  stop : Vote
  deriving DecidableEq, Repr

/-- The same of a control link character, which has no mark bit (R169). -/
structure LinkSamples where
  data : Vector Vote 8
  stop : Vote
  deriving DecidableEq, Repr

/-- One constructor for each row of spec/opcode_table.json, in the table's order. -/
inductive Instr where
  /-- POR. -/
  | por
  /-- PIN_RESET: RESET_N is held low. -/
  | pinReset
  /-- LOADING_COMPLETE. -/
  | loadingComplete
  /-- LOCK_CHANGE: the LOCK pin goes low (`true`) or high (`false`). -/
  | lockChange (low : Bool)
  /-- SAMPLE_COMPLETION: a conversion ends with a code. `selectorFirst` says which consumer of a source channel takes
  the completion first, which the manual leaves open (section 11.2; log entry 5). -/
  | sampleCompletion (ch : SenseChannel) (code : BitVec 12) (selectorFirst : Bool)
  /-- QUALIFY_EXPIRY. -/
  | qualifyExpiry (x : Source)
  /-- COMPARATOR_ASSERTS. -/
  | comparatorAsserts (x : Source)
  /-- COMPARATOR_RELEASES. -/
  | comparatorReleases (x : Source)
  /-- CHANGEOVER_END. -/
  | changeoverEnd
  /-- CHANGEOVER_BEGIN_EVENT: the engine takes it. -/
  | changeoverBeginEvent
  /-- CHANGEOVER_END_EVENT: the engine takes it. -/
  | changeoverEndEvent
  /-- NO_SOURCE_EVENT: the engine takes it. -/
  | noSourceEvent
  /-- GRACE_EXPIRY. -/
  | graceExpiry (p : Port)
  /-- RESTORE_HOLD_EXPIRY. -/
  | restoreHoldExpiry
  /-- POWER_GOOD. -/
  | powerGood (p : Port)
  /-- START_TIMEOUT. -/
  | startTimeout (p : Port)
  /-- HARD_TRIP. -/
  | hardTrip (p : Port)
  /-- TRIP_COMPARATOR_ASSERTS. -/
  | tripComparatorAsserts (p : Port)
  /-- TRIP_COMPARATOR_RELEASES. -/
  | tripComparatorReleases (p : Port)
  /-- FILTERED_TRIP. -/
  | filteredTrip (p : Port)
  /-- COOLING_EXPIRY. -/
  | coolingExpiry (p : Port)
  /-- RECLOSE_TIMEOUT. -/
  | recloseTimeout (p : Port)
  /-- CLEAN_RUN. -/
  | cleanRun (p : Port)
  /-- START_COMPLETE: the engine takes the report. -/
  | startComplete (p : Port)
  /-- START_FAIL: the engine takes the report. -/
  | startFail (p : Port)
  /-- TRIP: the engine takes the report. -/
  | trip (p : Port)
  /-- RETRY_LIMIT: the engine takes the report. -/
  | retryLimit (p : Port)
  /-- ANNOUNCE: the engine takes the record. -/
  | announce (p : Port) (typeCode : Byte) (power : BitVec 16) (identity : Vector Byte 8)
  /-- REQUEST: the engine takes the record. -/
  | request (p : Port) (power : BitVec 16)
  /-- CHARACTER_RECEIVED. -/
  | characterReceived (p : Port) (x : LineSamples)
  /-- LINE_GAP_EXPIRY. -/
  | lineGapExpiry (p : Port)
  /-- LINE_BREAK. -/
  | lineBreak (p : Port)
  /-- PENDING_RATE_IN_FORCE. -/
  | pendingRateInForce (p : Port)
  /-- BREAK_END. -/
  | breakEnd (p : Port)
  /-- RECORD_START. -/
  | recordStart (p : Port)
  /-- RECORD_SENT. -/
  | recordSent (p : Port)
  /-- COLLISION. -/
  | collision (p : Port)
  /-- BACKOFF_START. -/
  | backoffStart (p : Port)
  /-- BACKOFF_EXPIRY. -/
  | backoffExpiry (p : Port)
  /-- CHANNEL_WAIT_EXPIRY. -/
  | channelWaitExpiry (c : SendNo)
  /-- SET_MODE. -/
  | setMode (tag : Byte) (payload : List Byte)
  /-- SOURCE_CONFIGURE. -/
  | sourceConfigure (tag : Byte) (payload : List Byte)
  /-- SOURCE_QUERY. -/
  | sourceQuery (tag : Byte) (payload : List Byte)
  /-- MEASURE. -/
  | measure (tag : Byte) (payload : List Byte)
  /-- PORT_CONFIGURE. -/
  | portConfigure (tag : Byte) (payload : List Byte)
  /-- PORT_QUERY. -/
  | portQuery (tag : Byte) (payload : List Byte)
  /-- PORT_REQUEST. -/
  | portRequest (tag : Byte) (payload : List Byte)
  /-- PORT_RELEASE. -/
  | portRelease (tag : Byte) (payload : List Byte)
  /-- PORT_CLEAR. -/
  | portClear (tag : Byte) (payload : List Byte)
  /-- SET_ENVELOPE. -/
  | setEnvelope (tag : Byte) (payload : List Byte)
  /-- ALLOC_QUERY. -/
  | allocQuery (tag : Byte) (payload : List Byte)
  /-- RELAY_SEND. -/
  | relaySend (tag : Byte) (payload : List Byte)
  /-- RELAY_CANCEL. -/
  | relayCancel (tag : Byte) (payload : List Byte)
  /-- RELAY_FETCH of one port. -/
  | relayFetch (tag : Byte) (payload : List Byte)
  /-- RELAY_FETCH_ANY: RELAY_FETCH with the byte 0xFF. -/
  | relayFetchAny (tag : Byte) (payload : List Byte)
  /-- LINE_RESET. -/
  | lineReset (tag : Byte) (payload : List Byte)
  /-- PROFILE_READ. -/
  | profileRead (tag : Byte) (payload : List Byte)
  /-- PROFILE_WRITE in its PAYLOAD form. -/
  | profileWrite (tag : Byte) (payload : List Byte)
  /-- PROFILE_WRITE_LIVE: PROFILE_WRITE in its LIVE form. -/
  | profileWriteLive (tag : Byte) (payload : List Byte)
  /-- WRITE_COMPLETE. -/
  | writeComplete
  /-- PROFILE_PROTECT_MODE_MAP: PROFILE_PROTECT in its MODE_MAP form. -/
  | profileProtectModeMap (tag : Byte) (payload : List Byte)
  /-- PROFILE_PROTECT_SESSION: PROFILE_PROTECT in its SESSION form. -/
  | profileProtectSession (tag : Byte) (payload : List Byte)
  /-- PROTECTION_WRITE_COMPLETE. -/
  | protectionWriteComplete
  /-- IDENTIFY. -/
  | identify (tag : Byte) (payload : List Byte)
  /-- GET_STATUS. -/
  | getStatus (tag : Byte) (payload : List Byte)
  /-- LINK_SET. -/
  | linkSet (tag : Byte) (payload : List Byte)
  /-- NOTICE_CONFIG. -/
  | noticeConfig (tag : Byte) (payload : List Byte)
  /-- NOTICE_FETCH. -/
  | noticeFetch (tag : Byte) (payload : List Byte)
  /-- RESET_PREPARE. -/
  | resetPrepare (tag : Byte) (payload : List Byte)
  /-- RESET. -/
  | reset (tag : Byte) (payload : List Byte)
  /-- UNKNOWN_COMMAND: a command frame of a type that Table 12-4 does not list. -/
  | unknownCommand (type tag : Byte) (payload : List Byte)
  /-- LINK_CHARACTER_RECEIVED. -/
  | linkCharacterReceived (x : LinkSamples)
  /-- LINK_GAP_EXPIRY. -/
  | linkGapExpiry
  /-- LINK_BREAK. -/
  | linkBreak
  /-- FRAME_BEGIN. -/
  | frameBegin
  /-- FRAME_END. -/
  | frameEnd
  /-- RECEIVER_RATE_CHANGE. -/
  | receiverRateChange
  /-- CONVERSION_START. -/
  | conversionStart (ch : SenseChannel)
  /-- LINE_VALID_START. -/
  | lineValidStart (p : Port)
  /-- LINK_VALID_START. -/
  | linkValidStart
  /-- RESET_RELEASE. -/
  | resetRelease
  deriving DecidableEq, Repr

end Sys2Proof
end

