-- ==== Sys2Proof/Decode.lean ====
section
/-! DEFINITION. Decoding a word of the command table. spec/opcode_table.json gives no row any bits: a command comes to the
block as a frame, a record, an event of a pin or of a timer, never as a word. -/

namespace Sys2Proof

/-- The command that a word spells by the table's bits. No row gives bits, so no word spells one. -/
def decodeTableWord (_nbits _w : Nat) : Option Instr := none

end Sys2Proof
end

