-- ==== Sys2Proof/Config.lean ====
section
/-! DEFINITION. What the part fixes (constants the rules name) and the choices the manual leaves open. -/

namespace Sys2Proof.Config

/-- R1: the fixed 6,000 mV presence threshold. -/
def presence : Nat := 6000
/-- Table 1-3: a source in LOW returns to HEALTHY at the soft floor plus this many mV. -/
def lowHysteresis : Nat := 200
/-- Table 1-3: a source in UNDER leaves it above the hard floor plus this many mV. -/
def underHysteresis : Nat := 400
/-- R14: the least distance of the soft floor above the hard floor, in mV. -/
def floorSeparation : Nat := 400
/-- R7 step 2: a plate must be lower by more than this many mV to take the bus. -/
def drainMargin : Nat := 200
/-- R11: a changeover lasts 3 ms, here in µs. -/
def changeoverTime : Nat := 3000
/-- R66 step 5: the fixed allowance for the eight aux rails, in mW. -/
def auxAllowance : Nat := 2000
/-- R66 step 5, R83: the largest envelope and the largest grant, in mW. -/
def powerLimit : Nat := 250000
/-- R82: consecutive overdrawn settled samples that resolve an overdraw. -/
def overdrawLimit : Nat := 50
/-- R48: the re-close timeout, 2 ms, in µs. -/
def recloseTimeout : Nat := 2000
/-- R49: the clean run, 1,000 ms, in µs. -/
def cleanRunTime : Nat := 1000000
/-- R50: the trip count holds at this value. -/
def tripCountMax : Nat := 255
/-- R139: slots of the relay pool. -/
def poolSlots : Nat := 32
/-- R139: records of one port the relay pool holds at most. -/
def portQuota : Nat := 8
/-- R148: a send channel waits 500 ms at a target, here in µs. -/
def channelWait : Nat := 500000
/-- R173: places of the command queue. -/
def commandSlots : Nat := 4
/-- R175: places of the reply queue. -/
def replySlots : Nat := 8
/-- R177: places of the notice queue. -/
def noticeSlots : Nat := 32
/-- R133: the collision count at which an item fails. -/
def collisionLimit : Nat := 4
/-- Line and link timers count in 1/625 of a bit time, so that a microsecond is a whole number of them at every
rate (log entry 4). -/
def bitUnit : Nat := 625
/-- A character time of an accessory line, 11 bit times, in bit units. -/
def lineChar : Nat := 11 * bitUnit
/-- A character time of the control link, 10 bit times, in bit units. -/
def linkChar : Nat := 10 * bitUnit
/-- R128: the gap inside a record, 4 character times. -/
def lineGap : Nat := 4 * lineChar
/-- R130: the idle time a record waits for, 2 character times. -/
def lineIdle : Nat := 2 * lineChar
/-- R134: the break the chip sends, 22 bit times. -/
def breakTime : Nat := 22 * bitUnit
/-- R171: the gap inside a control frame, 20 character times. -/
def linkGap : Nat := 20 * linkChar

/-- FREE VALUE (log entry 9). R132: "Channels that arrive at the same moment may be placed in either order."
When one step moves several send channels on, the order in which they move is this constant's, applied to the
counter `State.choices`. It has no body: nothing can be proved of it, so a claim holds for every order. -/
opaque tieOrder : Nat → Nat

/-- FREE VALUE (log entry 35). R130 counts the time a line has been high. A row at whose end the line
is or may be low (a low stop bit, a break of either side, a collision) does not say when it rises. How long it stays low, in bit units, is this
constant's, applied to the counter `State.choices`. It has no body: nothing can be proved of it. -/
opaque lowTime : Nat → Nat

/-- FREE VALUE (log entry 46). R130: the idle time restarts at every falling edge the chip sees, and not every such edge is
the start of a character. Whether a line that is high falls in a microsecond, and how long it then stays low, in bit units,
is this constant's, applied to the counter `State.choices` and the port number. It has no body: nothing can be proved of
it. -/
opaque fallingEdge : Nat → Nat → Option Nat

/-- FREE VALUE (log entry 20). The time, in bit units, since a line last rose within the character that a row ends: the row
carries three samples of each bit and not the edges between them. It is this constant's, applied to the counter
`State.choices` and cut to what the row's samples allow. It has no body: nothing can be proved of it. -/
opaque idleSeen : Nat → Nat

end Sys2Proof.Config
end

