-- ==== Sys2Proof/Machine/Types.lean ====
section
/-! DEFINITION. The records of the ten blocks (Table 0-1), as plain data. A field that the manual calls absent in some
states is an `Option`, or stands only in the constructor of the state that has it. Times that the manual gives in
ms or µs are kept in µs where they run and in ms where they are configured. Times counted in bit or character times are
kept in bit units (`Config.bitUnit`). -/

namespace Sys2Proof.Machine

/-! ## Chapter 6: modes -/

/-- Device modes (Table 6-1). -/
inductive Mode where
  | init | standby | run | economy
  deriving DecidableEq, Repr

/-- Cause of a MODE notice (R122). -/
inductive ModeCause where
  | resetEnd | setMode | windDown
  deriving DecidableEq, Repr

/-- The stored power-up mode (R114). -/
inductive PowerUp where
  | standby | run
  deriving DecidableEq, Repr

/-! ## Chapter 1: the source selector -/

/-- Grade of a source (Table 1-1). -/
inductive SourceState where
  | disabled | absent | qualifying | healthy | low | under | over
  deriving DecidableEq, Repr

/-- Selection mode (Table 1-2). -/
inductive SelMode where
  | priority | drain
  deriving DecidableEq, Repr

/-- The configuration of one source (Table 1-1), in mV and mA. -/
structure SourceConfig where
  enable : Bool
  capacity : Nat
  softFloor : Nat
  hardFloor : Nat
  deriving DecidableEq, Repr

/-- The source record (Table 1-1) and the source's SEL pin. -/
structure SourceRec where
  config : SourceConfig
  state : SourceState
  /-- Qualify remaining in µs; present in QUALIFYING. -/
  qualify : Option Nat
  /-- Level of the OV input, true when asserted. -/
  comparator : Bool
  /-- The SEL pin, true when driven on. -/
  selPin : Bool
  deriving DecidableEq, Repr

/-- The shared selection settings (Table 1-2); the qualify time in ms. -/
structure SelSettings where
  mode : SelMode
  order : List Source
  qualifyTime : Nat
  deriving DecidableEq, Repr

/-- A changeover in progress (Table 1-2); the time remaining in µs. -/
structure Changeover where
  target : Source
  remaining : Nat
  deriving DecidableEq, Repr

/-- The source selector. `active = none` is NONE. `loaded` says that the system profile has been loaded since the last
POR or pin reset (R17). -/
structure Selector where
  sa : SourceRec
  sb : SourceRec
  sd : SourceRec
  settings : SelSettings
  active : Option Source
  changeover : Option Changeover
  loaded : Bool
  deriving DecidableEq, Repr

/-- Events from the selector to the allocation engine (R11, R13, R9). -/
inductive SelEvent where
  | changeoverBegin | changeoverEnd | noSource
  deriving DecidableEq, Repr

/-! ## Chapter 2: the sense unit -/

/-- Amplifier gain (Table 2-4). -/
inductive Gain where
  | g2 | g4 | g8 | g16
  deriving DecidableEq, Repr

/-- The channel record (Table 2-2). `gain` is absent on a voltage channel. -/
structure ChannelRec where
  raw : BitVec 12
  acc : Nat
  seeded : Bool
  settled : Bool
  saturated : Bool
  gain : Option Gain
  pendingGain : Option Gain
  deriving DecidableEq, Repr

/-- A conversion under way: its channel, and the gain it is made at (absent on a voltage channel). -/
structure Conversion where
  channel : SenseChannel
  gain : Option Gain
  deriving DecidableEq, Repr

/-- The sense unit. `nextChannel` is the channel whose conversion comes next in the round (R20). -/
structure Sense where
  channels : Vector ChannelRec 13
  converting : Option Conversion
  nextChannel : SenseChannel
  deriving DecidableEq, Repr

/-! ## Chapter 3: port switches -/

/-- Ramp times of 1, 4, 16 and 64 ms (Table 3-1). -/
inductive RampTime where
  | ms1 | ms4 | ms16 | ms64
  deriving DecidableEq, Repr

/-- Trip filter widths of 4, 16 and 64 µs (Table 3-1). -/
inductive TripFilter where
  | us4 | us16 | us64
  deriving DecidableEq, Repr

/-- Trip modes (Table 3-1). -/
inductive TripMode where
  | report | latch | retryFast | retrySlow
  deriving DecidableEq, Repr

/-- Cooling lengths of 5 ms and 100 ms (Table 3-2). -/
inductive CoolLength where
  | ms5 | ms100
  deriving DecidableEq, Repr

/-- Phases of COOLING with the cooling remaining in µs where it runs (Table 3-2). -/
inductive CoolPhase where
  | wait (remaining : Nat)
  | due
  | reclose (remaining : Nat)
  deriving DecidableEq, Repr

/-- Switch states with the fields present in each (Tables 3-2 and 3-3); times in µs. -/
inductive SwitchState where
  | opened
  | ramping (start : RampTime) (elapsed : Nat)
  | paused (start : RampTime) (elapsed : Nat)
  | closed (cleanRun : Nat)
  | cooling (phase : CoolPhase) (length : CoolLength)
  deriving DecidableEq, Repr

/-- Last fault kind (Table 3-2). -/
inductive FaultKind where
  | none | trip | hardTrip | startFail | retryLimit
  deriving DecidableEq, Repr

/-- The dynamic record of a switch (Table 3-2), with the levels of its trip and power-good comparators. -/
structure SwitchRec where
  state : SwitchState
  /-- Trip filter elapsed in µs; present while the filter is armed and the comparator asserted. -/
  filter : Option Nat
  armed : Bool
  retry : Nat
  lastFault : FaultKind
  tripCount : Nat
  /-- Level of the trip comparator (R42). -/
  tripLevel : Bool
  /-- Level of the power-good comparator (R39). -/
  powerGood : Bool
  deriving DecidableEq, Repr

/-- Cause of a start fail (Table 3-7). -/
inductive StartFailCause where
  | timeout | hardTrip
  deriving DecidableEq, Repr

/-- Outcome of a trip (Table 3-7). -/
inductive TripOutcome where
  | heldClosed | cooling | opened
  deriving DecidableEq, Repr

/-- Reports from a switch to the allocation engine (Table 3-7). -/
inductive Report where
  | startComplete
  | startFail (cause : StartFailCause)
  | trip (kind : FaultKind) (outcome : TripOutcome)
  | retryLimit
  deriving DecidableEq, Repr

/-! ## Chapters 4 and 5: the allocation engine -/

/-- Class of a port (Table 4-1). -/
inductive PortClass where
  | essential | normal | deferrable
  deriving DecidableEq, Repr

/-- Request policy (Table 4-1). -/
inductive Policy where
  | link | accessory
  deriving DecidableEq, Repr

/-- Line rates by their divisor D (Table 7-2). -/
inductive LineRate where
  | d64 | d32 | d16 | d8
  deriving DecidableEq, Repr

/-- Configuration fields of a port record (Table 4-1): powers in mW, currents in mA, the shed grace in ms. -/
structure PortConfig where
  cls : PortClass
  rank : Nat
  policy : Policy
  cap : Nat
  tripCurrent : Nat
  tripFilter : TripFilter
  tripMode : TripMode
  retryLimit : Nat
  rampTime : RampTime
  shedGrace : Nat
  parent : Option Port
  lineEnable : Bool
  lineRate : LineRate
  deriving DecidableEq, Repr

/-- Allocation states (Table 4-3). -/
inductive AllocState where
  | off | waiting | starting | held | on | shedding | shed | faulted
  deriving DecidableEq, Repr

/-- Origin of a request (Table 4-2). -/
inductive Origin where
  | link | accessory | profile
  deriving DecidableEq, Repr

/-- Shed reasons (Table 5-1). -/
inductive ShedReason where
  | envelope | noSource | mode | dependency | preempted | overdraw
  deriving DecidableEq, Repr

/-- The accessory identity (R58). -/
structure Identity where
  typeCode : Byte
  bytes : Vector Byte 8
  deriving DecidableEq, Repr

/-- A port record: configuration (Table 4-1) and dynamic fields (Tables 4-2 and 5-2); the grace remaining in µs. -/
structure PortRec where
  config : PortConfig
  alloc : AllocState
  request : Nat
  grant : Nat
  origin : Option Origin
  reason : Option ShedReason
  clamped : Bool
  overdraw : Nat
  identity : Option Identity
  grace : Option Nat
  deriving DecidableEq, Repr

/-- The engine record (Table 4-4), its two lists and its two start slots (R60 to R62). The restore hold remaining is in
µs. `pBody` is P_BODY as last used (R87). `opportunity` is the model's own: an admission opportunity has arisen in the
handling under way (R74). It is false between handlings. -/
structure Engine where
  queue : List Port
  granted : List Port
  slot0 : Option Port
  slot1 : Option Port
  envelope : Nat
  bodyReserve : Nat
  restoreMargin : Nat
  restoreHoldTime : Nat
  restoreHold : Option Nat
  overcommit : Bool
  held : Bool
  pBody : Nat
  opportunity : Bool
  deriving DecidableEq, Repr

/-! ## Chapter 7: accessory lines -/

/-- The assembly buffer (Table 7-1). -/
structure Assembly where
  kind : Byte
  length : Option Nat
  body : List Byte
  noise : Bool
  deriving DecidableEq, Repr

/-- Receiver states with the assembly buffer present in RECORD (Table 7-1). -/
inductive LineRx where
  | off
  | hunt
  | record (buffer : Assembly)
  deriving DecidableEq, Repr

/-- Transmitter states (Table 7-5). -/
inductive LineTx where
  | off | breaking | idle | sending | backoff
  deriving DecidableEq, Repr

/-- A STATE record: allocation state, grant in mW, grace in units of 50 ms (R109). -/
structure StateRecord where
  alloc : AllocState
  grant : Nat
  grace : Nat
  deriving DecidableEq, Repr

/-- The record a transmitter holds as its current item (Table 7-1). -/
inductive LineItem where
  | internal (r : StateRecord)
  | channel (c : SendNo)
  deriving DecidableEq, Repr

/-- A channel record kept back with its collision count (Table 7-1). -/
structure SetAside where
  channel : SendNo
  collisions : Nat
  deriving DecidableEq, Repr

/-- Line events (Table 7-7). -/
inductive LineEvent where
  | none | framing | gap | badCheck | unknown | breakSeen | collisionFail
  deriving DecidableEq, Repr

/-- The line record (Table 7-1). Timers are in bit units. `charInProgress` says that a character has had its valid start
and not yet its stop decision (R123). `breakRemaining` is present in BREAK. `record` holds the characters of the record
being sent, present in SENDING. `low` is the model's own: the time the line stays low after a row that left it low (log
entry 35). -/
structure LineRec where
  rate : LineRate
  pendingRate : Option LineRate
  rx : LineRx
  charInProgress : Bool
  gap : Option Nat
  tx : LineTx
  breakRemaining : Option Nat
  idle : Nat
  low : Nat
  pendingInternal : Option StateRecord
  waitList : List SendNo
  current : Option LineItem
  record : List Byte
  setAside : Option SetAside
  collisions : Nat
  backoff : Option Nat
  lastEvent : LineEvent
  noiseSeen : Bool
  deriving DecidableEq, Repr

/-- An ANNOUNCE or REQUEST record handed from a line to the engine (R129). -/
inductive AccRecord where
  | announce (typeCode : Byte) (power : BitVec 16) (identity : Vector Byte 8)
  | request (power : BitVec 16)
  deriving DecidableEq, Repr

/-! ## Chapter 8: the relay pool and the send channels -/

/-- A held record (Table 8-1). Its length is the length of its body. -/
structure HeldRecord where
  port : Port
  body : List Byte
  noise : Bool
  deriving DecidableEq, Repr

/-- The relay pool (Table 8-2). The held count of a port is computed from the arrival list (R139). -/
structure Pool where
  arrivals : List HeldRecord
  overrun : Vector Bool 8
  deriving DecidableEq, Repr

/-- Outcomes of a target (Table 8-6). -/
inductive SendOutcome where
  | delivered | collided | lineOff | timeout | cancelled
  deriving DecidableEq, Repr

/-- Stage of a channel at the target in hand, with the wait remaining in µs (Table 8-5). -/
inductive SendStage where
  | waiting (remaining : Nat)
  | onLine
  deriving DecidableEq, Repr

/-- The fields a send channel has in SENDING (Table 8-5). -/
structure Send where
  tag : Byte
  targets : List Port
  body : List Byte
  position : Port
  stage : SendStage
  outcomes : List SendOutcome
  cancelRequested : Bool
  deriving DecidableEq, Repr

/-! ## Chapter 9: the profile store -/

/-- A slot: its validity mark and its contents, the bytes of its fields as PROFILE_WRITE lays them out after its source
byte (12.2). An INVALID slot holds no contents. -/
structure Slot where
  valid : Bool
  bytes : List Byte
  deriving DecidableEq, Repr

/-- Protection mode (Table 9-5). -/
inductive ProtMode where
  | openMode | pin | fixed
  deriving DecidableEq, Repr

/-- The end the count of protected ports starts from (Table 9-5). -/
inductive Direction where
  | low | high
  deriving DecidableEq, Repr

/-- Protection settings (Table 9-5). -/
structure Protection where
  mode : ProtMode
  count : Nat
  direction : Direction
  complement : Bool
  deriving DecidableEq, Repr

/-- What a write in progress writes (Table 9-3, busy): a slot with its new contents, or the protection settings. -/
inductive WriteTarget where
  | slot (n : Fin 9) (bytes : List Byte)
  | protection (settings : Protection)
  deriving DecidableEq, Repr

/-- A write in progress: its target, its tag, and whether its reply is OK_CLAMPED (R161, R167). -/
structure StoreWrite where
  target : WriteTarget
  tag : Byte
  clamped : Bool
  deriving DecidableEq, Repr

/-- The profile store (Table 9-3): the nine slots, the two copies of the protection settings (R163; `currentB` says
which is current), the session lock, the loaded cold-start requests, and the write in progress. -/
structure Store where
  slots : Vector Slot 9
  copyA : Protection
  copyB : Protection
  currentB : Bool
  sessionLock : Bool
  coldStart : Vector Nat 8
  write : Option StoreWrite
  deriving DecidableEq, Repr

/-! ## Chapter 10: the control link -/

/-- Link divisors (Table 10-2). -/
inductive LinkDivisor where
  | d1 | d2 | d5 | d10 | d20
  deriving DecidableEq, Repr

/-- Delivery of notices (Table 10-1). -/
inductive Delivery where
  | push | held
  deriving DecidableEq, Repr

/-- A good frame without its start byte, length and CRC (Table 12-3). -/
structure Frame where
  type : Byte
  tag : Byte
  payload : List Byte
  deriving DecidableEq, Repr

/-- An entry of the reply queue. `divisor` is the pending divisor a LINK_SET reply carries (R170), `isReset` marks the
RESET reply (R182). -/
structure ReplyEntry where
  frame : Frame
  divisor : Option LinkDivisor
  isReset : Bool
  deriving DecidableEq, Repr

/-- A notice with its subject and content (Tables 10-3 and 12-6). -/
inductive Notice where
  | portState (p : Port) (alloc : AllocState) (grant request : Nat) (reason : Option ShedReason) (origin : Option Origin)
  | portFault (p : Port) (kind : FaultKind) (tripCount retry : Nat) (switch : SwitchState)
  | recordWaiting (p : Port) (held : Nat) (overrun : Bool)
  | sourceState (x : Source) (state : SourceState) (voltage : Nat) (active : Option Source) (changeover : Bool)
  | envelope (envelope committed retained : Nat) (overcommit : Bool)
  | mode (mode : Mode) (rails : Bool) (cause : ModeCause)
  deriving DecidableEq, Repr

/-- A frame on LTX: all its bytes from the start byte to the second CRC byte, and what its end brings about (R176). -/
structure Transmission where
  wire : List Byte
  divisor : Option LinkDivisor
  isReset : Bool
  deriving DecidableEq, Repr

/-- The link record (Table 10-1) with the command, reply and notice queues. `divisor` is the transmitter's,
`rxDivisor` the receiver's, which follows it (R170). `buffer = none` is HUNT, `buffer = some b` is FRAME with the bytes
after the start byte. `reserved` counts the reserved places of the reply queue (R175). The gap is in bit units. -/
structure Link where
  divisor : LinkDivisor
  rxDivisor : LinkDivisor
  buffer : Option (List Byte)
  charInProgress : Bool
  gap : Option Nat
  prepared : Bool
  delivery : Delivery
  mask : BitVec 6
  resetPending : Bool
  commands : List Frame
  replies : List ReplyEntry
  reserved : Nat
  notices : List Notice
  sending : Option Transmission
  deriving DecidableEq, Repr

end Sys2Proof.Machine
end

