-- ==== Sys2Proof/Machine/Bytes.lean ====
section
/-! DEFINITION. Bytes: little-endian numbers (R185), the two CRCs (R172, R186), and the samples of a received character
(R124, R169). -/

namespace Sys2Proof.Machine

/-- R185: the number a little-endian list of bytes stands for. -/
def leNat : List Byte → Nat
  | [] => 0
  | b :: bs => b.toNat + 256 * leNat bs

/-- R185: the `n` bytes of a number, least significant first. -/
def leBytes : Nat → Nat → List Byte
  | 0, _ => []
  | n + 1, x => BitVec.ofNat 8 x :: leBytes n (x / 256)

/-- The number in the `len` bytes from offset `off` of a payload. -/
def fieldAt (pl : List Byte) (off len : Nat) : Nat := leNat ((pl.drop off).take len)

/-- The byte at offset `off` of a payload, as a number. -/
def byteAt (pl : List Byte) (off : Nat) : Nat := (pl.getD off 0).toNat

/-- One byte holding a number of at most 255. -/
def byte (x : Nat) : Byte := BitVec.ofNat 8 x

/-- A flag byte (Table 12-1): 0 no, 1 yes. -/
def flagByte (b : Bool) : Byte := if b then 1 else 0

/-- `f` applied eight times: the eight bits of a byte. -/
def eightTimes {α : Type} (f : α → α) (x : α) : α := f (f (f (f (f (f (f (f x)))))))

/-- R172: one bit of the CRC-16, polynomial 0x1021, most significant bit first. -/
def crc16Bit (r : BitVec 16) : BitVec 16 := if r.msb then (r <<< 1) ^^^ 0x1021#16 else r <<< 1

/-- R172: one byte of the CRC-16. -/
def crc16Byte (r : BitVec 16) (b : Byte) : BitVec 16 :=
  eightTimes crc16Bit (r ^^^ ((b.setWidth 16 : BitVec 16) <<< 8))

/-- R172: the CRC-16 of a list of bytes, initial value 0xFFFF, no final XOR. -/
def crc16 (bs : List Byte) : BitVec 16 := bs.foldl crc16Byte 0xFFFF#16

/-- R186: one bit of the CRC-8, polynomial 0x07, most significant bit first. -/
def crc8Bit (r : Byte) : Byte := if r.msb then (r <<< 1) ^^^ 0x07#8 else r <<< 1

/-- R186: one byte of the CRC-8. -/
def crc8Byte (r b : Byte) : Byte := eightTimes crc8Bit (r ^^^ b)

/-- R186: the CRC-8 of a list of bytes, initial value 0x00, no final XOR. -/
def crc8 (bs : List Byte) : Byte := bs.foldl crc8Byte 0#8

/-- R185: the two CRC bytes, high byte first. -/
def crc16Bytes (r : BitVec 16) : List Byte := [(r >>> 8).setWidth 8, r.setWidth 8]

/-- Table 12-3: all bytes of a control frame, from the start byte to the second CRC byte. -/
def Frame.wire (f : Frame) : List Byte :=
  let counted := byte (f.payload.length + 2) :: f.type :: f.tag :: f.payload
  0x5A#8 :: counted ++ crc16Bytes (crc16 counted)

/-- Table 12-8: all characters of an accessory record. The first carries the mark bit, the others do not. -/
def recordChars (kind : Byte) (body : List Byte) : List Byte :=
  let counted := kind :: byte body.length :: body
  counted ++ [crc8 counted]

/-! ## Bits on the lines and on the link -/

/-- The data bits of a character, least significant first (R123, R169). -/
def dataBits (d : Byte) : List Bool :=
  [d.getLsbD 0, d.getLsbD 1, d.getLsbD 2, d.getLsbD 3, d.getLsbD 4, d.getLsbD 5, d.getLsbD 6, d.getLsbD 7]

/-- R123: the 11 bits of a line character: start bit, data bits, mark bit, stop bit. -/
def lineCharBits (mark : Bool) (d : Byte) : List Bool := false :: dataBits d ++ [mark, true]

/-- R130: the bits of a record: the kind with the mark bit set, each later character with the mark bit clear, no gap
between them. -/
def recordBits : List Byte → List Bool
  | [] => []
  | kind :: rest => lineCharBits true kind ++ rest.flatMap (lineCharBits false)

/-- R169: the 10 bits of a link character: start bit, data bits, stop bit. -/
def linkCharBits (d : Byte) : List Bool := false :: dataBits d ++ [true]

/-- R176: the bits of a frame, from its start byte to its second CRC byte. -/
def frameBits (wire : List Byte) : List Bool := wire.flatMap linkCharBits

/-! ## Received characters -/

/-- R124: the majority level of samples 7, 8 and 9. -/
def voteLevel (v : Vote) : Bool := (v.s7 && v.s8) || (v.s7 && v.s9) || (v.s8 && v.s9)

/-- R124: the three samples of a bit disagree. -/
def voteNoisy (v : Vote) : Bool := !(v.s7 == v.s8 && v.s8 == v.s9)

/-- A bit sampled at one level three times. -/
def cleanVote (b : Bool) : Vote := ⟨b, b, b⟩

/-- R123: the data byte of eight votes, least significant bit first. -/
def dataByte (d : Vector Vote 8) : Byte :=
  byte (d.toList.foldr (fun v n => (voteLevel v).toNat + 2 * n) 0)

/-- R124: one of the data votes carries noise. -/
def dataNoisy (d : Vector Vote 8) : Bool := d.toList.any voteNoisy

/-- The clean votes of a data byte. -/
def cleanData (b : Byte) : Vector Vote 8 :=
  #v[cleanVote (b.getLsbD 0), cleanVote (b.getLsbD 1), cleanVote (b.getLsbD 2), cleanVote (b.getLsbD 3), cleanVote (b.getLsbD 4),
    cleanVote (b.getLsbD 5), cleanVote (b.getLsbD 6), cleanVote (b.getLsbD 7)]

/-- The samples of a clean line character. -/
def cleanChar (b : Byte) (mark : Bool) : LineSamples := ⟨cleanData b, cleanVote mark, cleanVote true⟩

/-- The samples of a clean link character. -/
def cleanLinkChar (b : Byte) : LinkSamples := ⟨cleanData b, cleanVote true⟩

/-- R124: a line character carries a noise mark when the samples of a data bit or of the mark bit disagree. -/
def charNoise (x : LineSamples) : Bool := dataNoisy x.data || voteNoisy x.mark

/-- R169, R124: a link character carries a noise mark when the samples of a data bit disagree. The link hands the mark on
to nothing. -/
def linkNoise (x : LinkSamples) : Bool := dataNoisy x.data

/-- How many sixteenths of a bit before the decision at sample 9 the last low sample of a character lies; the votes are
those of its bits, the stop bit first, and `d` counts the sixteenths gone by. Before the first data bit stands the start
bit, whose majority is low, so its sample 8 or 9 is. -/
def sinceLow : Nat → List Vote → Nat
  | d, [] => d + 1
  | d, v :: rest => if !v.s9 then d else if !v.s8 then d + 1 else if !v.s7 then d + 2 else sinceLow (d + 16) rest

/-- R124, R130: the longest that the line can have been high, in sixteenths of a bit, at the stop decision of a character. -/
def highAtMost (x : LineSamples) : Nat := sinceLow 0 (x.stop :: x.mark :: x.data.toList.reverse)

end Sys2Proof.Machine
end

