-- ==== Sys2Proof/Machine/Factory.lean ====
section
/-! DEFINITION. Factory defaults (Tables 1-1, 1-2, 3-1, 4-1, 4-4, 9-1, 9-2, 9-5) and the value of each block after a POR,
from the reset rules R17, R33, R55, R88, R111, R112, R138, R146, R156, R168 and R184. -/

namespace Sys2Proof.Machine

/-- The system profile (Table 9-2). -/
structure SystemProfile where
  sa : SourceConfig
  sb : SourceConfig
  sd : SourceConfig
  settings : SelSettings
  bodyReserve : Nat
  restoreMargin : Nat
  restoreHoldTime : Nat
  powerUp : PowerUp
  deriving DecidableEq, Repr

/-- Factory configuration of a source (Table 1-1). -/
def factorySource : Source → SourceConfig
  | .sa => ⟨true, 10000, 13200, 11600⟩
  | .sb => ⟨true, 10000, 13200, 11600⟩
  | .sd => ⟨true, 8000, 11000, 10000⟩

/-- Factory selection settings (Table 1-2). -/
def factorySelSettings : SelSettings := ⟨.priority, [.sd, .sa, .sb], 200⟩

/-- Factory system profile (Table 9-2). -/
def factorySystem : SystemProfile where
  sa := factorySource .sa
  sb := factorySource .sb
  sd := factorySource .sd
  settings := factorySelSettings
  bodyReserve := 25000
  restoreMargin := 5000
  restoreHoldTime := 2000
  powerUp := .run

/-- Factory configuration of a port (Tables 3-1 and 4-1). -/
def factoryPort (p : Port) : PortConfig where
  cls := .normal
  rank := p.val
  policy := .link
  cap := 30000
  tripCurrent := 4000
  tripFilter := .us16
  tripMode := .retrySlow
  retryLimit := 4
  rampTime := .ms4
  shedGrace := 500
  parent := none
  lineEnable := true
  lineRate := .d16

/-- Factory protection settings (Table 9-5). -/
def factoryProtection : Protection := ⟨.openMode, 0, .low, false⟩

/-- R17: a source after POR, before the system profile is loaded: SEL pin off, no qualify timer. The manual gives the
state ABSENT for an enabled source once the profile is loaded (Table 1-1). -/
def resetSource (x : Source) : SourceRec := ⟨factorySource x, .absent, none, false, false⟩

/-- R17, R19: the selector after POR. -/
def resetSelector : Selector where
  sa := resetSource .sa
  sb := resetSource .sb
  sd := resetSource .sd
  settings := factorySelSettings
  active := none
  changeover := none
  loaded := false

/-- The gain a channel has after POR (Table 2-2): none on the voltage channels, 16 on the ports, 4 on I_BODY. -/
def resetGain (ch : SenseChannel) : Option Gain :=
  if ch.val < 4 then none else if ch.val < 12 then some .g16 else some .g4

/-- R33: a channel record after POR (Table 2-2). -/
def resetChannel (ch : SenseChannel) : ChannelRec := ⟨0, 0, false, true, false, resetGain ch, none⟩

/-- R33: the sense unit after POR. -/
def resetSense : Sense where
  channels := #v[resetChannel 0, resetChannel 1, resetChannel 2, resetChannel 3, resetChannel 4, resetChannel 5,
    resetChannel 6, resetChannel 7, resetChannel 8, resetChannel 9, resetChannel 10, resetChannel 11, resetChannel 12]
  converting := none
  nextChannel := 0

/-- R55: a switch after every reset (Table 3-10). -/
def resetSwitch : SwitchRec := ⟨.opened, none, false, 0, .none, 0, false, false⟩

/-- R88, R111: the dynamic fields of a port after every reset, over a configuration. -/
def resetPort (c : PortConfig) : PortRec := ⟨c, .off, 0, 0, none, none, false, 0, none, none⟩

/-- R88: the engine after every reset, over the three allocation settings. -/
def resetEngine (bodyReserve restoreMargin restoreHoldTime : Nat) : Engine where
  queue := []
  granted := []
  slot0 := none
  slot1 := none
  envelope := 0
  bodyReserve := bodyReserve
  restoreMargin := restoreMargin
  restoreHoldTime := restoreHoldTime
  restoreHold := none
  overcommit := false
  held := false
  pBody := 0
  opportunity := false

/-- R138: a line after every reset (Table 7-9), over the rate that stands until the profiles are loaded. -/
def resetLine (rate : LineRate) : LineRec where
  rate := rate
  pendingRate := none
  rx := .off
  charInProgress := false
  gap := none
  tx := .off
  breakRemaining := none
  idle := 0
  low := 0
  pendingInternal := none
  waitList := []
  current := none
  record := []
  setAside := none
  collisions := 0
  backoff := none
  lastEvent := .none
  noiseSeen := false

/-- R146: the relay pool after every reset. -/
def resetPool : Pool := ⟨[], Vector.replicate 8 false⟩

/-- R184: the control link after every reset (Table 10-6), with LTX high (`Link.ltx`). The rule does not name a character
under way on LRX: the model drops it, and the receiver is at divisor 10 at once (DESIGN CHOICE, log entry 44). -/
def resetLink : Link where
  divisor := .d10
  rxDivisor := .d10
  buffer := none
  charInProgress := false
  gap := none
  prepared := false
  delivery := .push
  mask := 0b111111#6
  resetPending := false
  commands := []
  replies := []
  reserved := 0
  notices := []
  sending := none

/-- A part whose slots and protection settings have never been written (R157, R163), after POR (R168). -/
def factoryStore : Store where
  slots := Vector.replicate 9 ⟨false, []⟩
  copyA := factoryProtection
  copyB := factoryProtection
  currentB := false
  sessionLock := false
  coldStart := Vector.replicate 8 0
  write := none

end Sys2Proof.Machine
end

