-- ==== Sys2Proof/Machine/Operands.lean ====
section
/-! DEFINITION. The operand forms: the codes of every enumerated field (Table 12-2), refuse and clamp (R187), and the
layouts of configuration fields, notices and records (12.2 to 12.4). `ofCode` answers `none` for a code outside
the field's set. -/

namespace Sys2Proof.Machine

/-! ## Codes (Table 12-2) -/

def sourceCode : Source → Nat
  | .sa => 0
  | .sb => 1
  | .sd => 2

def sourceOfCode : Nat → Option Source
  | 0 => some .sa
  | 1 => some .sb
  | 2 => some .sd
  | _ => none

/-- Code of the active source, 3 for NONE. -/
def activeCode : Option Source → Nat
  | none => 3
  | some x => sourceCode x

def SourceState.code : SourceState → Nat
  | .disabled => 0
  | .absent => 1
  | .qualifying => 2
  | .healthy => 3
  | .low => 4
  | .under => 5
  | .over => 6

def flagOfCode : Nat → Option Bool
  | 0 => some false
  | 1 => some true
  | _ => none

def SelMode.code : SelMode → Nat
  | .priority => 0
  | .drain => 1

def selModeOfCode : Nat → Option SelMode
  | 0 => some .priority
  | 1 => some .drain
  | _ => none

def PortClass.code : PortClass → Nat
  | .essential => 0
  | .normal => 1
  | .deferrable => 2

def classOfCode : Nat → Option PortClass
  | 0 => some .essential
  | 1 => some .normal
  | 2 => some .deferrable
  | _ => none

def Policy.code : Policy → Nat
  | .link => 0
  | .accessory => 1

def policyOfCode : Nat → Option Policy
  | 0 => some .link
  | 1 => some .accessory
  | _ => none

/-- Code of an origin, 0xFF absent. -/
def originCode : Option Origin → Nat
  | some .link => 0
  | some .accessory => 1
  | some .profile => 2
  | none => 0xFF

/-- The trip filter's code is its width in µs. -/
def TripFilter.micros : TripFilter → Nat
  | .us4 => 4
  | .us16 => 16
  | .us64 => 64

def tripFilterOfCode : Nat → Option TripFilter
  | 4 => some .us4
  | 16 => some .us16
  | 64 => some .us64
  | _ => none

/-- The ramp time's code is its length in ms. -/
def RampTime.millis : RampTime → Nat
  | .ms1 => 1
  | .ms4 => 4
  | .ms16 => 16
  | .ms64 => 64

def rampTimeOfCode : Nat → Option RampTime
  | 1 => some .ms1
  | 4 => some .ms4
  | 16 => some .ms16
  | 64 => some .ms64
  | _ => none

def TripMode.code : TripMode → Nat
  | .report => 0
  | .latch => 1
  | .retryFast => 2
  | .retrySlow => 3

def tripModeOfCode : Nat → Option TripMode
  | 0 => some .report
  | 1 => some .latch
  | 2 => some .retryFast
  | 3 => some .retrySlow
  | _ => none

/-- A port number, `none` outside 0 to 7. -/
def portOfCode (x : Nat) : Option Port := if h : x < 8 then some ⟨x, h⟩ else none

/-- Code of a parent port, 0xFF none. -/
def parentCode : Option Port → Nat
  | some p => p.val
  | none => 0xFF

/-- A parent field: `some (some p)` a port, `some none` no parent, `none` an invalid code. -/
def parentOfCode (x : Nat) : Option (Option Port) :=
  if x = 0xFF then some none else (portOfCode x).map some

/-- The line rate's code is its divisor. -/
def LineRate.divisor : LineRate → Nat
  | .d64 => 64
  | .d32 => 32
  | .d16 => 16
  | .d8 => 8

def lineRateOfCode : Nat → Option LineRate
  | 64 => some .d64
  | 32 => some .d32
  | 16 => some .d16
  | 8 => some .d8
  | _ => none

def AllocState.code : AllocState → Nat
  | .off => 0
  | .waiting => 1
  | .starting => 2
  | .held => 3
  | .on => 4
  | .shedding => 5
  | .shed => 6
  | .faulted => 7

/-- Code of a shed reason, 0 none. -/
def reasonCode : Option ShedReason → Nat
  | none => 0
  | some .envelope => 1
  | some .noSource => 2
  | some .mode => 3
  | some .dependency => 4
  | some .preempted => 5
  | some .overdraw => 6

def SwitchState.code : SwitchState → Nat
  | .opened => 0
  | .ramping _ _ => 1
  | .paused _ _ => 2
  | .closed _ => 3
  | .cooling _ _ => 4

def FaultKind.code : FaultKind → Nat
  | .none => 0
  | .trip => 1
  | .hardTrip => 2
  | .startFail => 3
  | .retryLimit => 4

def LineEvent.code : LineEvent → Nat
  | .none => 0
  | .framing => 1
  | .gap => 2
  | .badCheck => 3
  | .unknown => 4
  | .breakSeen => 5
  | .collisionFail => 6

def Mode.code : Mode → Nat
  | .init => 0
  | .standby => 1
  | .run => 2
  | .economy => 3

/-- A target of SET_MODE: INIT cannot be requested (R117). -/
def targetModeOfCode : Nat → Option Mode
  | 1 => some .standby
  | 2 => some .run
  | 3 => some .economy
  | _ => none

def ModeCause.code : ModeCause → Nat
  | .resetEnd => 0
  | .setMode => 1
  | .windDown => 2

/-- The power-up mode carries the code of its device mode. -/
def PowerUp.code : PowerUp → Nat
  | .standby => 1
  | .run => 2

def powerUpOfCode : Nat → Option PowerUp
  | 1 => some .standby
  | 2 => some .run
  | _ => none

def Delivery.code : Delivery → Nat
  | .push => 0
  | .held => 1

def deliveryOfCode : Nat → Option Delivery
  | 0 => some .push
  | 1 => some .held
  | _ => none

def SendOutcome.code : SendOutcome → Nat
  | .delivered => 1
  | .collided => 2
  | .lineOff => 3
  | .timeout => 4
  | .cancelled => 5

def ProtMode.code : ProtMode → Nat
  | .openMode => 0
  | .pin => 1
  | .fixed => 2

def protModeOfCode : Nat → Option ProtMode
  | 0 => some .openMode
  | 1 => some .pin
  | 2 => some .fixed
  | _ => none

def Direction.code : Direction → Nat
  | .low => 0
  | .high => 1

def directionOfCode : Nat → Option Direction
  | 0 => some .low
  | 1 => some .high
  | _ => none

def LinkDivisor.value : LinkDivisor → Nat
  | .d1 => 1
  | .d2 => 2
  | .d5 => 5
  | .d10 => 10
  | .d20 => 20

def linkDivisorOfCode : Nat → Option LinkDivisor
  | 1 => some .d1
  | 2 => some .d2
  | 5 => some .d5
  | 10 => some .d10
  | 20 => some .d20
  | _ => none

def sendNoOfCode (x : Nat) : Option SendNo := if h : x < 3 then some ⟨x, h⟩ else none

def slotOfCode (x : Nat) : Option (Fin 9) := if h : x < 9 then some ⟨x, h⟩ else none

/-- The gain as a number; 0 where a channel has none (R32). -/
def gainValue : Option Gain → Nat
  | none => 0
  | some .g2 => 2
  | some .g4 => 4
  | some .g8 => 8
  | some .g16 => 16

/-- Result codes (Table 12-5). -/
inductive Result where
  | ok | okClamped | queued | empty | idle | busy | mode | protected_ | badLength | badValue | conflict | noHeadroom
  | sequence | unknown
  deriving DecidableEq, Repr

def Result.code : Result → Nat
  | .ok => 0x00
  | .okClamped => 0x01
  | .queued => 0x02
  | .empty => 0x03
  | .idle => 0x04
  | .busy => 0x10
  | .mode => 0x11
  | .protected_ => 0x12
  | .badLength => 0x13
  | .badValue => 0x14
  | .conflict => 0x15
  | .noHeadroom => 0x16
  | .sequence => 0x17
  | .unknown => 0x18

/-- OK_CLAMPED in place of OK where a value was changed (R187). -/
def okOr (clamped : Bool) : Result := if clamped then .okClamped else .ok

/-- The listed commands (Table 12-4). -/
inductive Command where
  | identify | getStatus | linkSet | noticeConfig | noticeFetch | resetPrepare | reset | sourceConfigure | sourceQuery
  | measure | portConfigure | portQuery | portRequest | portRelease | portClear | setEnvelope | allocQuery | setMode
  | relaySend | relayCancel | relayFetch | lineReset | profileRead | profileWrite | profileProtect
  deriving DecidableEq, Repr

/-- Type codes of commands (Table 12-4). -/
def Command.type : Command → Byte
  | .identify => 0x01
  | .getStatus => 0x02
  | .linkSet => 0x03
  | .noticeConfig => 0x04
  | .noticeFetch => 0x05
  | .resetPrepare => 0x0E
  | .reset => 0x0F
  | .sourceConfigure => 0x10
  | .sourceQuery => 0x11
  | .measure => 0x18
  | .portConfigure => 0x20
  | .portQuery => 0x21
  | .portRequest => 0x22
  | .portRelease => 0x23
  | .portClear => 0x24
  | .setEnvelope => 0x28
  | .allocQuery => 0x29
  | .setMode => 0x30
  | .relaySend => 0x40
  | .relayCancel => 0x41
  | .relayFetch => 0x42
  | .lineReset => 0x43
  | .profileRead => 0x50
  | .profileWrite => 0x51
  | .profileProtect => 0x52

/-- The commands in the order of Table 12-4. -/
def allCommands : List Command :=
  [.identify, .getStatus, .linkSet, .noticeConfig, .noticeFetch, .resetPrepare, .reset, .sourceConfigure, .sourceQuery,
    .measure, .portConfigure, .portQuery, .portRequest, .portRelease, .portClear, .setEnvelope, .allocQuery, .setMode,
    .relaySend, .relayCancel, .relayFetch, .lineReset, .profileRead, .profileWrite, .profileProtect]

/-- The command of a type byte, `none` for a type that Table 12-4 does not list. -/
def commandOfType (t : Byte) : Option Command := allCommands.find? (fun c => c.type == t)

/-- R174 step 3 with 12.2: a payload length that matches the command's layout, by the form of the payload's own leading
fields where a layout has several. -/
def lengthMatches (c : Command) (pl : List Byte) : Bool :=
  match c with
  | .identify | .getStatus | .noticeFetch | .resetPrepare | .reset | .sourceQuery | .allocQuery => pl.length == 0
  | .linkSet | .measure | .portQuery | .portRelease | .portClear | .setMode | .relayCancel | .relayFetch | .lineReset
  | .profileRead => pl.length == 1
  | .noticeConfig => pl.length == 2
  | .sourceConfigure => pl.length == 14
  | .portConfigure => pl.length == 19
  | .portRequest => pl.length == 5
  | .setEnvelope => pl.length == 10
  | .relaySend => 1 ≤ pl.length && pl.length ≤ 61
  | .profileWrite =>
    if 2 ≤ pl.length && byteAt pl 0 ≤ 8 && byteAt pl 1 ≤ 1 then
      if byteAt pl 1 = 1 then pl.length == 2
      else if byteAt pl 0 = 8 then pl.length == 40 else pl.length == 24
    else pl.length == 2 || pl.length == 24 || pl.length == 40
  | .profileProtect =>
    if 1 ≤ pl.length && byteAt pl 0 ≤ 1 then
      if byteAt pl 0 = 1 then pl.length == 1 else pl.length == 5
    else pl.length == 1 || pl.length == 5

/-! ## Refuse or clamp (R187) -/

/-- A numeric field: clamped to the nearer end of its range, then rounded down to its step. -/
def clampStep (lo hi step x : Nat) : Nat := min hi (max lo x) / step * step

/-- A range and step with the field's width and offset in its layout. -/
structure NumField where
  off : Nat
  len : Nat
  lo : Nat
  hi : Nat
  step : Nat
  deriving DecidableEq, Repr

def NumField.get (f : NumField) (b : List Byte) : Nat := clampStep f.lo f.hi f.step (fieldAt b f.off f.len)

/-- The field holds a value that clamping or rounding changes. -/
def NumField.changed (f : NumField) (b : List Byte) : Bool := f.get b != fieldAt b f.off f.len

/-! ### Port fields: bytes 1 to 18 of the PORT_CONFIGURE layout -/

def rankField : NumField := ⟨1, 1, 0, 7, 1⟩
def capField : NumField := ⟨3, 4, 0, 120000, 1⟩
def tripCurrentField : NumField := ⟨7, 2, 200, 20000, 50⟩
def retryLimitField : NumField := ⟨11, 1, 1, 15, 1⟩
def shedGraceField : NumField := ⟨13, 2, 0, 2000, 50⟩
/-- The cold-start request after the port fields of a slot (Table 9-1). -/
def coldStartField : NumField := ⟨18, 4, 0, 120000, 1⟩

/-- Every enumerated port field holds a valid code (R84 check 2). -/
def portCodesValid (b : List Byte) : Bool :=
  (classOfCode (byteAt b 0)).isSome && (policyOfCode (byteAt b 2)).isSome && (tripFilterOfCode (byteAt b 9)).isSome &&
    (tripModeOfCode (byteAt b 10)).isSome && (rampTimeOfCode (byteAt b 12)).isSome &&
    (parentOfCode (byteAt b 15)).isSome && (flagOfCode (byteAt b 16)).isSome && (lineRateOfCode (byteAt b 17)).isSome

/-- A numeric port field is changed by clamping or rounding. -/
def portNumbersChanged (b : List Byte) : Bool :=
  rankField.changed b || capField.changed b || tripCurrentField.changed b || retryLimitField.changed b ||
    shedGraceField.changed b

/-- The port fields as R158 loads them: numbers clamped and rounded, an invalid code replaced by the default, an invalid
parent by none. For a layout whose codes are valid these are the fields R84 stores. -/
def readPortFields (d : PortConfig) (b : List Byte) : PortConfig where
  cls := (classOfCode (byteAt b 0)).getD d.cls
  rank := rankField.get b
  policy := (policyOfCode (byteAt b 2)).getD d.policy
  cap := capField.get b
  tripCurrent := tripCurrentField.get b
  tripFilter := (tripFilterOfCode (byteAt b 9)).getD d.tripFilter
  tripMode := (tripModeOfCode (byteAt b 10)).getD d.tripMode
  retryLimit := retryLimitField.get b
  rampTime := (rampTimeOfCode (byteAt b 12)).getD d.rampTime
  shedGrace := shedGraceField.get b
  parent := (parentOfCode (byteAt b 15)).getD none
  lineEnable := (flagOfCode (byteAt b 16)).getD d.lineEnable
  lineRate := (lineRateOfCode (byteAt b 17)).getD d.lineRate

/-- The 18 bytes of the port fields. -/
def writePortFields (c : PortConfig) : List Byte :=
  [byte c.cls.code, byte c.rank, byte c.policy.code] ++ leBytes 4 c.cap ++ leBytes 2 c.tripCurrent ++
    [byte c.tripFilter.micros, byte c.tripMode.code, byte c.retryLimit, byte c.rampTime.millis] ++
    leBytes 2 c.shedGrace ++ [byte (parentCode c.parent), flagByte c.lineEnable, byte c.lineRate.divisor]

/-! ### Source fields: enable, capacity, soft floor, hard floor -/

def capacityField : NumField := ⟨1, 2, 1000, 20000, 100⟩
def softFloorField : NumField := ⟨3, 2, 9000, 16000, 100⟩
def hardFloorField : NumField := ⟨5, 2, 9000, 16000, 100⟩

/-- R14, R158: the soft floor is raised to the hard floor + 400 mV where it is less. -/
def raisedSoftFloor (b : List Byte) : Nat := max (softFloorField.get b) (hardFloorField.get b + Config.floorSeparation)

def readSourceFields (d : SourceConfig) (b : List Byte) : SourceConfig where
  enable := (flagOfCode (byteAt b 0)).getD d.enable
  capacity := capacityField.get b
  softFloor := raisedSoftFloor b
  hardFloor := hardFloorField.get b

/-- A numeric source field is changed by a clamp, a rounding or the raise. -/
def sourceNumbersChanged (b : List Byte) : Bool :=
  capacityField.changed b || softFloorField.changed b || hardFloorField.changed b ||
    raisedSoftFloor b != softFloorField.get b

def writeSourceFields (c : SourceConfig) : List Byte :=
  [flagByte c.enable] ++ leBytes 2 c.capacity ++ leBytes 2 c.softFloor ++ leBytes 2 c.hardFloor

/-! ### Selection settings: selection mode, priority order, qualify time -/

def qualifyField : NumField := ⟨4, 2, 20, 2000, 10⟩

/-- A priority order that names each source once, from its three codes. -/
def orderOfCodes (a b c : Nat) : Option (List Source) :=
  match sourceOfCode a, sourceOfCode b, sourceOfCode c with
  | some x, some y, some z => if x ≠ y ∧ y ≠ z ∧ x ≠ z then some [x, y, z] else none
  | _, _, _ => none

def settingsCodesValid (b : List Byte) : Bool :=
  (selModeOfCode (byteAt b 0)).isSome && (orderOfCodes (byteAt b 1) (byteAt b 2) (byteAt b 3)).isSome

/-- The settings as R158 loads them: an order that does not name each source once loads as SD, SA, SB. -/
def readSettings (b : List Byte) : SelSettings where
  mode := (selModeOfCode (byteAt b 0)).getD .priority
  order := (orderOfCodes (byteAt b 1) (byteAt b 2) (byteAt b 3)).getD [.sd, .sa, .sb]
  qualifyTime := qualifyField.get b

def writeSettings (x : SelSettings) : List Byte :=
  [byte x.mode.code] ++ x.order.map (fun s => byte (sourceCode s)) ++ leBytes 2 x.qualifyTime

/-! ### Allocation settings: body reserve, restore margin, restore hold time -/

def bodyReserveField : NumField := ⟨0, 4, 0, 100000, 1⟩
def restoreMarginField : NumField := ⟨4, 4, 0, 20000, 1⟩
def restoreHoldField : NumField := ⟨8, 2, 500, 10000, 100⟩

def allocNumbersChanged (b : List Byte) : Bool :=
  bodyReserveField.changed b || restoreMarginField.changed b || restoreHoldField.changed b

/-! ### Slots -/

/-- The 38 bytes of slot 8 from the SA enable onward (12.2). -/
def writeSystem (x : SystemProfile) : List Byte :=
  writeSourceFields x.sa ++ writeSourceFields x.sb ++ writeSourceFields x.sd ++ writeSettings x.settings ++
    leBytes 4 x.bodyReserve ++ leBytes 4 x.restoreMargin ++ leBytes 2 x.restoreHoldTime ++ [byte x.powerUp.code]

/-- R158: slot 8 loaded field by field. R114: a power-up mode of any other code loads as STANDBY. -/
def readSystem (b : List Byte) : SystemProfile where
  sa := readSourceFields (factorySource .sa) b
  sb := readSourceFields (factorySource .sb) (b.drop 7)
  sd := readSourceFields (factorySource .sd) (b.drop 14)
  settings := readSettings (b.drop 21)
  bodyReserve := bodyReserveField.get (b.drop 27)
  restoreMargin := restoreMarginField.get (b.drop 27)
  restoreHoldTime := restoreHoldField.get (b.drop 27)
  powerUp := (powerUpOfCode (byteAt b 37)).getD .standby

/-- R160 check 2 for slot 8: every enumerated field holds a valid code. -/
def systemCodesValid (b : List Byte) : Bool :=
  (flagOfCode (byteAt b 0)).isSome && (flagOfCode (byteAt b 7)).isSome && (flagOfCode (byteAt b 14)).isSome &&
    settingsCodesValid (b.drop 21) && (powerUpOfCode (byteAt b 37)).isSome

def systemNumbersChanged (b : List Byte) : Bool :=
  sourceNumbersChanged b || sourceNumbersChanged (b.drop 7) || sourceNumbersChanged (b.drop 14) ||
    qualifyField.changed (b.drop 21) || allocNumbersChanged (b.drop 27)

/-- The 22 bytes of a port slot: the port fields and the cold-start request. -/
def writePortSlot (c : PortConfig) (coldStart : Nat) : List Byte := writePortFields c ++ leBytes 4 coldStart

/-- The system profile a slot gives at INIT (R158): factory defaults where it is INVALID. -/
def loadedSystem (x : Slot) : SystemProfile := if x.valid then readSystem x.bytes else factorySystem

/-- The port configuration a slot gives at INIT (R158). -/
def loadedPort (p : Port) (x : Slot) : PortConfig :=
  if x.valid then readPortFields (factoryPort p) x.bytes else factoryPort p

/-- The cold-start request a slot gives at INIT (R158). -/
def loadedColdStart (x : Slot) : Nat := if x.valid then coldStartField.get x.bytes else 0

/-! ### Masks of ports -/

/-- P0 to P7 in order. -/
def allPorts : List Port := [0, 1, 2, 3, 4, 5, 6, 7]

/-- The ports of a mask in ascending order (spec/00, 4.2). -/
def portsOfMask (m : Byte) : List Port := allPorts.filter (fun p => m.getLsbD p.val)

/-- The mask of the ports that satisfy `f`, P0 as the lowest bit. -/
def maskOf (f : Port → Bool) : Byte :=
  byte (allPorts.foldr (fun p n => (f p).toNat + 2 * n) 0)

/-! ### Notices (Tables 10-3 and 12-6) -/

/-- Kind code of a notice. -/
def Notice.kind : Notice → Nat
  | .portState .. => 1
  | .portFault .. => 2
  | .recordWaiting .. => 3
  | .sourceState .. => 4
  | .envelope .. => 5
  | .mode .. => 6

/-- Subject of a notice. -/
def Notice.subject : Notice → Nat
  | .portState p .. => p.val
  | .portFault p .. => p.val
  | .recordWaiting p .. => p.val
  | .sourceState x .. => sourceCode x
  | .envelope .. => 0
  | .mode .. => 0

/-- R177: two notices have the same kind and subject. -/
def Notice.sameAs (a b : Notice) : Bool := a.kind == b.kind && a.subject == b.subject

/-- The content of a notice before its padding. The rails byte of a MODE notice is 1 for on and 0 for off (DESIGN CHOICE,
log entry 50). -/
def Notice.content : Notice → List Byte
  | .portState _ a g r why o =>
    [byte a.code] ++ leBytes 4 g ++ leBytes 4 r ++ [byte (reasonCode why), byte (originCode o)]
  | .portFault _ k n r sw => [byte k.code, byte n, byte r, byte sw.code]
  | .recordWaiting _ n o => [byte n, flagByte o]
  | .sourceState _ st v a f => [byte st.code] ++ leBytes 2 v ++ [byte (activeCode a), flagByte f]
  | .envelope e c r o => leBytes 4 e ++ leBytes 4 c ++ leBytes 4 r ++ [flagByte o]
  | .mode m r c => [byte m.code, flagByte r, byte c.code]

/-- The 15 bytes of a notice frame's payload (12.3). -/
def Notice.bytes (n : Notice) : List Byte :=
  [byte n.kind, byte n.subject] ++ (n.content ++ List.replicate (13 - n.content.length) 0)

/-- R176: the notice frame. -/
def Notice.frame (n : Notice) : Frame := ⟨0x70, 0, n.bytes⟩

/-- 12.4: the characters of a STATE record. -/
def StateRecord.chars (r : StateRecord) : List Byte :=
  recordChars 0x11 ([byte r.alloc.code] ++ leBytes 4 r.grant ++ [byte r.grace])

end Sys2Proof.Machine
end

