-- ==== Sys2Proof/Machine/State.lean ====
section
/-! DEFINITION. The state of the whole chip, its value right after reset, and the reasons a step can stop. -/

namespace Sys2Proof.Machine

/-- Why the machine stops with a fault. The manual describes no condition that stops the chip, and no command of it has
an undefined effect: every command has a next state. So the type has no constructor and no step faults. This is safe:
nothing is cut off. -/
inductive Fault
  deriving DecidableEq, Repr

/-- Why a command has no meaning. -/
inductive Refusal where
  /-- Raised by `exec` for a row whose meaning is not written yet. Safe. No row is in that case. -/
  | notModelled (mnemonic : String)
  deriving DecidableEq, Repr

/-- The state of the chip. -/
structure State where
  /-- POR or RESET_N is held (from POR or PIN_RESET to RESET_RELEASE). -/
  resetHeld : Bool
  /-- The LOCK pin is low (R165). -/
  lockLow : Bool
  /-- Device mode (Table 6-1). -/
  mode : Mode
  /-- The INIT under way was entered by a link reset, so its target mode is STANDBY (R113). -/
  initByLink : Bool
  /-- The eight aux rails are driven (Table 6-1). -/
  rails : Bool
  /-- The accessory lines are turned on (Table 6-1). -/
  linesOn : Bool
  /-- Power-up mode as loaded at the last INIT (Table 6-1). -/
  powerUp : PowerUp
  /-- The source selector (chapter 1). -/
  sel : Selector
  /-- The sense unit (chapter 2). -/
  sense : Sense
  /-- The dynamic records of the eight switches (chapter 3). Their configuration stands in `ports`. -/
  switches : Vector SwitchRec 8
  /-- The allocation table (chapter 4). -/
  ports : Vector PortRec 8
  /-- The engine record, its lists and start slots (chapters 4 and 5). -/
  engine : Engine
  /-- The eight accessory lines (chapter 7). -/
  lines : Vector LineRec 8
  /-- The relay pool (chapter 8). -/
  pool : Pool
  /-- The three send channels (chapter 8); `none` is FREE. -/
  channels : Vector (Option Send) 3
  /-- The profile store (chapter 9). -/
  store : Store
  /-- The control link (chapter 10). -/
  link : Link
  /-- Events sent by the selector that the engine has not taken yet, oldest first (R64, R88). -/
  selEvents : List SelEvent
  /-- Reports sent by each switch that the engine has not taken yet, oldest first (R52). -/
  reports : Vector (List Report) 8
  /-- Records handed over by each line that the engine has not taken yet, oldest first (R129). -/
  records : Vector (List AccRecord) 8
  /-- The model's own: how many times a free value of Config has been taken. -/
  choices : Nat
  /-- The commands that wait outside the block, first in, first out. -/
  pending : List Instr
  deriving DecidableEq, Repr

/-- The chip right after power-on reset has been released: INIT, nothing loaded yet, on a part that has never been
written, with LOCK high and every comparator released (log entries 1 and 2). -/
def State.reset : State where
  resetHeld := false
  lockLow := false
  mode := .init
  initByLink := false
  rails := false
  linesOn := false
  powerUp := .run
  sel := resetSelector
  sense := resetSense
  switches := Vector.replicate 8 resetSwitch
  ports := #v[resetPort (factoryPort 0), resetPort (factoryPort 1), resetPort (factoryPort 2),
    resetPort (factoryPort 3), resetPort (factoryPort 4), resetPort (factoryPort 5), resetPort (factoryPort 6),
    resetPort (factoryPort 7)]
  engine := resetEngine 25000 5000 2000
  lines := Vector.replicate 8 (resetLine .d16)
  pool := resetPool
  channels := Vector.replicate 3 none
  store := factoryStore
  link := resetLink
  selEvents := []
  reports := Vector.replicate 8 []
  records := Vector.replicate 8 []
  choices := 0
  pending := []

end Sys2Proof.Machine
end

