-- ==== Sys2Proof/Machine/Ops.lean ====
section
/-! DEFINITION. Named reads and writes of the records, the notice queue (R177) and the reply queue (R175). -/

namespace Sys2Proof.Machine

/-- Entry `i` of a fixed table. -/
def tget {α : Type} {n : Nat} (v : Vector α n) (i : Fin n) : α := v[i.val]

/-- A fixed table with entry `i` replaced. -/
def tput {α : Type} {n : Nat} (v : Vector α n) (i : Fin n) (x : α) : Vector α n := v.set i.val x i.isLt

/-! ## Records -/

def State.port (s : State) (p : Port) : PortRec := tget s.ports p
def State.setPort (s : State) (p : Port) (r : PortRec) : State := { s with ports := tput s.ports p r }
def State.cfg (s : State) (p : Port) : PortConfig := (s.port p).config
def State.alloc (s : State) (p : Port) : AllocState := (s.port p).alloc

def State.switch (s : State) (p : Port) : SwitchRec := tget s.switches p
def State.setSwitch (s : State) (p : Port) (r : SwitchRec) : State := { s with switches := tput s.switches p r }

def State.line (s : State) (p : Port) : LineRec := tget s.lines p
def State.setLine (s : State) (p : Port) (r : LineRec) : State := { s with lines := tput s.lines p r }

def State.channel (s : State) (c : SendNo) : Option Send := tget s.channels c
def State.setChannel (s : State) (c : SendNo) (x : Option Send) : State := { s with channels := tput s.channels c x }

def State.sample (s : State) (ch : SenseChannel) : ChannelRec := tget s.sense.channels ch
def State.setSample (s : State) (ch : SenseChannel) (r : ChannelRec) : State :=
  { s with sense := { s.sense with channels := tput s.sense.channels ch r } }

def Selector.get (x : Selector) : Source → SourceRec
  | .sa => x.sa
  | .sb => x.sb
  | .sd => x.sd

def Selector.set (x : Selector) (i : Source) (r : SourceRec) : Selector :=
  match i with
  | .sa => { x with sa := r }
  | .sb => { x with sb := r }
  | .sd => { x with sd := r }

def State.source (s : State) (x : Source) : SourceRec := s.sel.get x
def State.setSource (s : State) (x : Source) (r : SourceRec) : State := { s with sel := s.sel.set x r }

def State.setEngine (s : State) (e : Engine) : State := { s with engine := e }
def State.setLink (s : State) (l : Link) : State := { s with link := l }

/-- SA, SB, SD. -/
def allSources : List Source := [.sa, .sb, .sd]

/-- The three send channels. -/
def allChannels : List SendNo := [0, 1, 2]

/-- `f` done for each element of a list in order. -/
def forEach {α : Type} (l : List α) (f : α → State → State) (s : State) : State := l.foldl (fun s x => f x s) s

/-! ## Notices (R177) -/

/-- The kind of a notice stands in the enable mask. -/
def Link.enables (l : Link) (n : Notice) : Bool := l.mask.getLsbD (n.kind - 1)

/-- R177: a notice of a kind that is not enabled is dropped; one whose kind and subject are queued replaces that content in
place; any other is appended. -/
def Link.post (l : Link) (n : Notice) : Link :=
  if l.enables n then
    if l.notices.any n.sameAs then
      { l with notices := l.notices.map (fun m => if n.sameAs m then n else m) }
    else { l with notices := l.notices ++ [n] }
  else l

/-- R177: a block posts a notice. -/
def postNotice (n : Notice) (s : State) : State := s.setLink (s.link.post n)

/-! ## Replies (R175, R185) -/

/-- R175: places of the reply queue in use. -/
def Link.placesUsed (l : Link) : Nat := l.replies.length + l.reserved

/-- R175: a free unreserved place. -/
def Link.hasPlace (l : Link) : Bool := l.placesUsed < Config.replySlots

/-- R175: the reply frame of a command: its type with 0x80 added, its tag, the result code first. -/
def replyFrame (type tag : Byte) (r : Result) (fields : List Byte) : Frame := ⟨type + 0x80, tag, byte r.code :: fields⟩

/-- R175: a reply joins the end of the queue. -/
def queueReply (e : ReplyEntry) (s : State) : State := s.setLink { s.link with replies := s.link.replies ++ [e] }

/-- The reply of a listed command. -/
def reply (c : Command) (tag : Byte) (r : Result) (fields : List Byte) (s : State) : State :=
  queueReply ⟨replyFrame c.type tag r fields, none, false⟩ s

/-- R185: a reply formed by the decoder carries the result code alone, but for PORT_REQUEST and SET_MODE, whose fields
are then 0. -/
def decoderFields (type : Byte) : List Byte :=
  if type = Command.portRequest.type then List.replicate 6 0
  else if type = Command.setMode.type then List.replicate 2 0
  else []

/-- R174, R185: a reply formed by the decoder. -/
def decoderReply (type tag : Byte) (r : Result) (s : State) : State :=
  queueReply ⟨replyFrame type tag r (decoderFields type), none, false⟩ s

/-- R174: the decoder reserves a place for a deferred reply. -/
def reservePlace (s : State) : State := s.setLink { s.link with reserved := s.link.reserved + 1 }

/-- R175: a deferred reply joins the end of the queue in its reserved place. -/
def deferredReply (c : Command) (tag : Byte) (r : Result) (fields : List Byte) (s : State) : State :=
  reply c tag r fields (s.setLink { s.link with reserved := s.link.reserved - 1 })

/-! ## Messages between blocks -/

/-- The selector sends an event to the allocation engine (R9, R11, R13). -/
def sendEvent (e : SelEvent) (s : State) : State := { s with selEvents := s.selEvents ++ [e] }

/-- R52: a switch sends a report to the allocation engine. -/
def sendReport (p : Port) (r : Report) (s : State) : State :=
  { s with reports := tput s.reports p (tget s.reports p ++ [r]) }

/-- R129: a line hands a record to the allocation engine. -/
def handRecord (p : Port) (r : AccRecord) (s : State) : State :=
  { s with records := tput s.records p (tget s.records p ++ [r]) }

end Sys2Proof.Machine
end

