-- ==== Sys2Proof/Machine/Flags.lean ====
section
/-! DEFINITION. Everything the chip computes as a flag, a mark or a level from its records: the changeover flag, scaled
readings and derived powers (R22, R23, R29), committed and retained power (R63), keys (R59), the protected set and
enforcement (R163, R165), the overrun mask (R142) and the output pins. -/

namespace Sys2Proof.Machine

/-! ## Selector -/

/-- A source is usable in HEALTHY and LOW. -/
def usableState : SourceState → Bool
  | .healthy => true
  | .low => true
  | .disabled | .absent | .qualifying | .under | .over => false

def State.usable (s : State) (x : Source) : Bool := usableState (s.source x).state

/-- The changeover flag: set while a changeover is in progress (R11, R13). -/
def State.changeoverFlag (s : State) : Bool := s.sel.changeover.isSome

/-! ## Readings -/

/-- R22: a voltage code in mV. -/
def voltageOf (code : Nat) : Nat := code * 11

/-- R23: a current code at gain `g`, in mA. Below mid-scale the subtraction gives 0. -/
def currentOf (g : Gain) (code : Nat) : Nat := (code - 2048) * 50 / gainValue (some g)

/-- The filtered code of a channel, floor(A/8). -/
def ChannelRec.filteredCode (r : ChannelRec) : Nat := r.acc / 8

/-- R28: the scaled filtered value of a channel, in mV or mA. -/
def ChannelRec.filtered (r : ChannelRec) : Nat :=
  match r.gain with
  | none => voltageOf r.filteredCode
  | some g => currentOf g r.filteredCode

/-- The sense channel of a source's voltage. -/
def sourceChannel : Source → SenseChannel
  | .sa => 0
  | .sb => 1
  | .sd => 2

/-- The sense channel of V_BUS. -/
def busChannel : SenseChannel := 3

/-- The sense channel of a port's current. -/
def portChannel (p : Port) : SenseChannel := ⟨4 + p.val, by omega⟩

/-- The sense channel of I_BODY. -/
def bodyChannel : SenseChannel := 12

/-- The filtered voltage of a source in mV. -/
def State.voltage (s : State) (x : Source) : Nat := (s.sample (sourceChannel x)).filtered

/-- R29: the power of a current channel against the filtered bus voltage, in mW. -/
def State.channelPower (s : State) (ch : SenseChannel) : Nat :=
  (s.sample busChannel).filtered * (s.sample ch).filtered / 1000

/-- R29: P_BODY in mW. -/
def State.bodyPower (s : State) : Nat := s.channelPower bodyChannel

/-- R29: P_port in mW. -/
def State.portPower (s : State) (p : Port) : Nat := s.channelPower (portChannel p)

/-! ## Allocation -/

/-- R59: a key as a number; a lower number is a higher key. Ranks are at most 7. -/
def keyOf (c : PortConfig) : Nat := c.cls.code * 8 + c.rank

def State.key (s : State) (p : Port) : Nat := keyOf (s.cfg p)

def State.essential (s : State) (p : Port) : Bool := (s.cfg p).cls == .essential

/-- The sum of the grants of a list of ports. -/
def State.grants (s : State) (l : List Port) : Nat := (l.map (fun p => (s.port p).grant)).sum

/-- R63: committed power. -/
def State.committed (s : State) : Nat := s.grants s.engine.granted

/-- R63: retained power: committed power less the grants of the ports in SHEDDING. -/
def State.retained (s : State) : Nat :=
  s.grants (s.engine.granted.filter (fun p => s.alloc p != .shedding))

/-- The allocation states held in the admission queue (Table 4-3). -/
def AllocState.queued : AllocState → Bool
  | .waiting => true
  | .shed => true
  | .off | .starting | .held | .on | .shedding | .faulted => false

/-- The allocation states held in the granted list (Table 4-3). -/
def AllocState.granted : AllocState → Bool
  | .starting => true
  | .held => true
  | .on => true
  | .shedding => true
  | .off | .waiting | .shed | .faulted => false

/-- The allocation states that hold a start slot (Table 4-3). -/
def AllocState.slotted : AllocState → Bool
  | .starting => true
  | .held => true
  | .off | .waiting | .on | .shedding | .shed | .faulted => false

/-- The port has no parent, or its parent is ON (R75, R104). -/
def State.parentOn (s : State) (p : Port) : Bool :=
  match (s.cfg p).parent with
  | none => true
  | some q => s.alloc q == .on

/-- µs as whole ms (log entry 6). -/
def millis (us : Nat) : Nat := us / 1000

/-- R109: the grace of a STATE record, floor(grace remaining in ms / 50); 0 outside SHEDDING. -/
def graceUnits (r : PortRec) : Nat :=
  if r.alloc = .shedding then millis (r.grace.getD 0) / 50 else 0

/-- R109, R110: the STATE record of a port as it stands. -/
def stateRecord (r : PortRec) : StateRecord := ⟨r.alloc, r.grant, graceUnits r⟩

/-! ## Protection -/

/-- The current copy of the protection settings (R163). -/
def Store.protection (x : Store) : Protection := if x.currentB then x.copyB else x.copyA

/-- R163, Table 9-6: the port is counted from the chosen end. -/
def Protection.counts (x : Protection) (p : Port) : Bool :=
  match x.direction with
  | .low => p.val < x.count
  | .high => 7 - p.val < x.count

/-- R163: the port is in the protected set. -/
def Protection.protects (x : Protection) (p : Port) : Bool := x.counts p != x.complement

def State.protectedPort (s : State) (p : Port) : Bool := s.store.protection.protects p

/-- R165: protection is enforced now. -/
def State.enforced (s : State) : Bool :=
  s.store.sessionLock || s.store.protection.mode == .fixed || (s.store.protection.mode == .pin && s.lockLow)

/-- The store is busy (Table 9-3). -/
def State.storeBusy (s : State) : Bool := s.store.write.isSome

/-! ## Relay pool -/

/-- R139: the held count of a port. -/
def Pool.held (x : Pool) (p : Port) : Nat := x.arrivals.countP (fun r => r.port == p)

/-- R142: the mask of the ports whose overrun marks are yes. -/
def Pool.overrunMask (x : Pool) : Byte := maskOf (fun p => tget x.overrun p)

/-! ## Lines -/

/-- The line is turned on (R126). -/
def LineRec.isOn (l : LineRec) : Bool := l.tx != .off

/-! ## Output pins -/

/-- R177: ALERT is high while the notice queue holds an entry. -/
def State.alert (s : State) : Bool := !s.link.notices.isEmpty

/-- R169, R176, R184: the level of LTX `n` bit times after the frame in `sending` began. It is high between the
characters of a frame, after its end, and whenever nothing is sent, so after a reset. -/
def Link.ltx (l : Link) (n : Nat) : Bool :=
  match l.sending with
  | none => true
  | some t => (frameBits t.wire).getD n true

/-- Table 7-5, R123, R130: what the chip does to the AL pin of a line, true for released, `n` bit times after the record in
SENDING began. -/
def LineRec.released (l : LineRec) (n : Nat) : Bool :=
  match l.tx with
  | .breaking => false
  | .sending => (recordBits l.record).getD n true
  | .off | .idle | .backoff => true

/-- Drive of a GATE pin (Table 3-3). -/
inductive GateDrive where
  | off | rampingUp | heldLevel | fullyOn
  deriving DecidableEq, Repr

/-- Table 3-3: the GATE pin of a switch. -/
def SwitchState.gate : SwitchState → GateDrive
  | .opened => .off
  | .ramping _ _ => .rampingUp
  | .paused _ _ => .heldLevel
  | .closed _ => .fullyOn
  | .cooling (.wait _) _ => .off
  | .cooling .due _ => .off
  | .cooling (.reclose _) _ => .rampingUp

end Sys2Proof.Machine
end

