-- ==== Sys2Proof/Machine/Relay.lean ====
section
/-! DEFINITION. Chapter 8: the relay pool (R139 to R146) and the send channels (R147 to R156). -/

namespace Sys2Proof.Machine

/-! ## The relay pool -/

/-- R140: the pool drops an arrival of the port. -/
def Pool.full (x : Pool) (p : Port) : Bool :=
  Config.poolSlots ≤ x.arrivals.length || Config.portQuota ≤ x.held p

def Pool.markOverrun (x : Pool) (p : Port) (b : Bool) : Pool := { x with overrun := tput x.overrun p b }

def State.setPool (s : State) (x : Pool) : State := { s with pool := x }

/-- R141: the RECORD_WAITING notice of a port as the pool stands. -/
def postWaiting (p : Port) (s : State) : State :=
  postNotice (.recordWaiting p (s.pool.held p) (tget s.pool.overrun p)) s

/-- R140: a DATA record arrives at the pool. -/
def poolArrive (p : Port) (body : List Byte) (noise : Bool) (s : State) : State :=
  if s.pool.full p then
    if tget s.pool.overrun p then s else postWaiting p (s.setPool (s.pool.markOverrun p true))
  else
    let s1 := s.setPool { s.pool with arrivals := s.pool.arrivals ++ [⟨p, body, noise⟩] }
    if s.pool.held p = 0 then postWaiting p s1 else s1

/-- R145: every record of the port is removed and its overrun mark cleared. -/
def poolClear (p : Port) (s : State) : State :=
  s.setPool { (s.pool.markOverrun p false) with arrivals := s.pool.arrivals.filter (fun r => r.port != p) }

/-- R142: the fields of an OK fetch of record `r` from the pool `x`, which leaves the pool `after`. -/
def fetchFields (x after : Pool) (r : HeldRecord) : List Byte :=
  [byte r.port.val, byte r.body.length] ++ r.body ++
    [flagByte r.noise, x.overrunMask, byte (after.held r.port), byte after.arrivals.length]

/-- R142, R143: a fetch returns record `r`, which is the first of the list that satisfies `f`. -/
def fetchRecord (tag : Byte) (r : HeldRecord) (f : HeldRecord → Bool) (s : State) : State :=
  let after : Pool := { s.pool with arrivals := s.pool.arrivals.eraseP f }
  reply .relayFetch tag .ok (fetchFields s.pool after r) (s.setPool (after.markOverrun r.port false))

/-- R142: a fetch for one port. -/
def fetchPort (tag : Byte) (p : Port) (s : State) : State :=
  match s.pool.arrivals.find? (fun r => r.port == p) with
  | some r => fetchRecord tag r (fun r => r.port == p) s
  | none =>
    reply .relayFetch tag .empty [byte p.val, 0, s.pool.overrunMask, 0, byte s.pool.arrivals.length]
      (s.setPool (s.pool.markOverrun p false))

/-- R143: a fetch for ANY. -/
def fetchAny (tag : Byte) (s : State) : State :=
  match s.pool.arrivals with
  | r :: _ => fetchRecord tag r (fun _ => true) s
  | [] => reply .relayFetch tag .empty [0xFF, 0, s.pool.overrunMask, 0, 0] s

/-- RELAY_FETCH (R142, R143). -/
def doRelayFetch (tag : Byte) (pl : List Byte) (s : State) : State :=
  if byteAt pl 0 = 0xFF then fetchAny tag s
  else
    match portOfCode (byteAt pl 0) with
    | some p => fetchPort tag p s
    | none => reply .relayFetch tag .badValue [] s

/-! ## The send channels -/

/-- R132: a channel joins the end of a line's wait list. -/
def joinLine (c : SendNo) (p : Port) (s : State) : State :=
  s.setLine p { (s.line p) with waitList := (s.line p).waitList ++ [c] }

/-- R132: a channel withdraws from a line's wait list. -/
def leaveLine (c : SendNo) (p : Port) (s : State) : State :=
  s.setLine p { (s.line p) with waitList := (s.line p).waitList.filter (fun d => d != c) }

/-- R152: the fields of the deferred reply: the target mask and the outcomes in ascending port order. -/
def sendFields (x : Send) : List Byte :=
  maskOf (fun p => x.targets.contains p) :: x.outcomes.map (fun o => byte o.code)

/-- R152: a channel ends its send: the deferred reply is handed over and the channel is FREE. -/
def endSend (c : SendNo) (x : Send) (s : State) : State :=
  deferredReply .relaySend x.tag .ok (sendFields x) (s.setChannel c none)

/-- R148: the channel reaches the first of the targets left; where none is left it ends the send. -/
def reachNext (c : SendNo) (x : Send) : List Port → State → State
  | [], s => endSend c x s
  | p :: rest, s =>
    if (s.line p).isOn then
      joinLine c p (s.setChannel c (some { x with position := p, stage := .waiting Config.channelWait }))
    else reachNext c { x with position := p, outcomes := x.outcomes ++ [.lineOff] } rest s

/-- The targets after the one in hand. -/
def Send.left (x : Send) : List Port := x.targets.filter (fun p => x.position < p)

/-- R150, R153: CANCELLED is recorded for every target left and the send ends. -/
def cancelRest (c : SendNo) (x : Send) (s : State) : State :=
  endSend c { x with outcomes := x.outcomes ++ x.left.map (fun _ => .cancelled) } s

/-- R150: an outcome of the target in hand. -/
def recordOutcome (c : SendNo) (o : SendOutcome) (s : State) : State :=
  match s.channel c with
  | none => s
  | some x =>
    let x1 := { x with outcomes := x.outcomes ++ [o] }
    if x.cancelRequested then cancelRest c x1 s else reachNext c x1 x.left s

/-- R149: the transmitter tells the channel that its record has started. -/
def sendStarted (c : SendNo) (s : State) : State :=
  match s.channel c with
  | none => s
  | some x => s.setChannel c (some { x with stage := .onLine })

/-- The body of the record a channel sends. -/
def State.sendBody (s : State) (c : SendNo) : List Byte :=
  match s.channel c with
  | none => []
  | some x => x.body

/-- R147: the lowest-numbered FREE channel. -/
def State.freeChannel (s : State) : Option SendNo := allChannels.find? (fun c => (s.channel c).isNone)

/-- R147: a fresh send from a command's tag, targets and body; `p` is its first target. -/
def newSend (tag : Byte) (targets : List Port) (p : Port) (body : List Byte) : Send :=
  ⟨tag, targets, body, p, .waiting Config.channelWait, [], false⟩

/-- RELAY_SEND after the mode check (R147). -/
def doRelaySend (tag : Byte) (pl : List Byte) (s : State) : State :=
  match portsOfMask (pl.getD 0 0), s.freeChannel with
  | [], _ => reply .relaySend tag .badValue [] s
  | _ :: _, none => reply .relaySend tag .busy [] s
  | p :: rest, some c =>
    reachNext c (newSend tag (p :: rest) p (pl.drop 1)) (p :: rest) (reservePlace s)

/-- R153: a cancel of a channel in SENDING. -/
def cancelSend (tag : Byte) (c : SendNo) (x : Send) (s : State) : State :=
  match x.stage with
  | .waiting _ =>
    reply .relayCancel tag .ok []
      (cancelRest c { x with outcomes := x.outcomes ++ [.cancelled] } (leaveLine c x.position s))
  | .onLine => reply .relayCancel tag .ok [] (s.setChannel c (some { x with cancelRequested := true }))

/-- RELAY_CANCEL (R153). -/
def doRelayCancel (tag : Byte) (pl : List Byte) (s : State) : State :=
  match sendNoOfCode (byteAt pl 0) with
  | none => reply .relayCancel tag .badValue [] s
  | some c =>
    match s.channel c with
    | none => reply .relayCancel tag .idle [] s
    | some x => cancelSend tag c x s

/-- CHANNEL_WAIT_EXPIRY (R151): the wait remaining of a channel in stage WAITING has reached 0. A channel that a LINE_OFF of
the same moment has moved to its next target has its full wait there. -/
def execChannelWaitExpiry (c : SendNo) (s : State) : Host.Outcome State Fault Refusal :=
  .next <|
    match s.channel c with
    | none => s
    | some x =>
      match x.stage with
      | .waiting 0 => recordOutcome c .timeout (leaveLine c x.position s)
      | .waiting (_ + 1) => s
      | .onLine => s

end Sys2Proof.Machine
end

