-- ==== Sys2Proof/Machine/Lines.lean ====
section
/-! DEFINITION. Chapter 7: the accessory lines. The receiver (R123 to R129), the transmitter (R130 to R133), turning a
line on and off (R134, R135), LINE_RESET (R136), and the meanings of the line events. Idle times are in bit units. -/

namespace Sys2Proof.Machine

/-! ## Receiver -/

/-- R130: the receiver takes no start candidates while the transmitter is in SENDING or BREAK. -/
def LineTx.deaf : LineTx → Bool
  | .breaking => true
  | .sending => true
  | .off | .idle | .backoff => false

/-- The receiver is listening: it is on, and the transmitter is in neither SENDING nor BREAK. -/
def LineRec.listens (l : LineRec) : Bool := l.rx != .off && !l.tx.deaf

/-- R128: the receiver returns to HUNT and discards any assembly buffer. -/
def LineRec.hunt (l : LineRec) : LineRec := { l with rx := .hunt, gap := none }

/-- R137: an event is noted. -/
def LineRec.note (e : LineEvent) (l : LineRec) : LineRec := { l with lastEvent := e }

/-- R126, R127: an assembly buffer is held, and the gap runs from this stop decision. -/
def LineRec.collect (b : Assembly) (l : LineRec) : LineRec := { l with rx := .record b, gap := some Config.lineGap }

/-- What a record complete at its check character amounts to (R129). -/
inductive LineEffect where
  | none
  | handOver (r : AccRecord)
  | deposit (body : List Byte) (noise : Bool)
  deriving DecidableEq, Repr

/-- The identity bytes of an ANNOUNCE body. -/
def identityOf (body : List Byte) : Vector Byte 8 :=
  #v[body.getD 3 0, body.getD 4 0, body.getD 5 0, body.getD 6 0, body.getD 7 0, body.getD 8 0, body.getD 9 0,
    body.getD 10 0]

/-- R129: a record with a good check is dispatched by its kind; `none` is UNKNOWN. -/
def dispatchRecord (kind : Byte) (body : List Byte) (noise : Bool) : Option LineEffect :=
  if kind = 0x01 ∧ body.length = 11 then
    some (.handOver (.announce (body.getD 0 0) (BitVec.ofNat 16 (fieldAt body 1 2)) (identityOf body)))
  else if kind = 0x02 ∧ body.length = 2 then some (.handOver (.request (BitVec.ofNat 16 (fieldAt body 0 2))))
  else if kind = 0x03 then some (.deposit body noise)
  else none

/-- R129: the check character completes a record. A good check notes nothing: R137 says that it leaves a noted fault in
place, where Table 7-4 gives the last line event NONE, and the model follows R137 (DESIGN CHOICE, log entry 39). -/
def LineRec.completeRecord (b : Assembly) (check : Byte) (l : LineRec) : LineRec × LineEffect :=
  if crc8 (b.kind :: byte b.body.length :: b.body) = check then
    match dispatchRecord b.kind b.body b.noise with
    | some e => (l.hunt, e)
    | none => (l.hunt.note .unknown, .none)
  else (l.hunt.note .badCheck, .none)

/-- R127: an unmarked character with its stop bit high in RECORD. -/
def LineRec.extend (b : Assembly) (d : Byte) (noise : Bool) (l : LineRec) : LineRec × LineEffect :=
  match b.length with
  | none =>
    if d.toNat ≤ 60 then (l.collect { b with length := some d.toNat, noise := b.noise || noise }, .none)
    else (l.hunt.note .framing, .none)
  | some n =>
    if b.body.length < n then (l.collect { b with body := b.body ++ [d], noise := b.noise || noise }, .none)
    else l.completeRecord { b with noise := b.noise || noise } d

/-- R126 to R129: the receiver takes a character with data byte `d`, mark bit and stop bit levels. -/
def LineRec.take (d : Byte) (mark stop noise : Bool) (l : LineRec) : LineRec × LineEffect :=
  match l.rx with
  | .off => (l, .none)
  | .hunt =>
    if stop then if mark then (l.collect ⟨d, none, [], noise⟩, .none) else (l, .none) else (l.note .framing, .none)
  | .record b =>
    if stop then
      if mark then ((l.note .framing).collect ⟨d, none, [], noise⟩, .none) else l.extend b d noise
    else (l.hunt.note .framing, .none)

/-- R126: the line after a character, and what it gives the other blocks. -/
def LineRec.receive (x : LineSamples) (l : LineRec) : LineRec × LineEffect :=
  { l with
    charInProgress := false
    noiseSeen := l.noiseSeen || charNoise x }.take (dataByte x.data) (voteLevel x.mark) (voteLevel x.stop) (charNoise x)

/-- R129: what a completed record brings to the engine or the pool. -/
def applyLineEffect (p : Port) (e : LineEffect) (s : State) : State :=
  match e with
  | .none => s
  | .handOver r => handRecord p r s
  | .deposit body noise => poolArrive p body noise s

/-! ## Transmitter -/

/-- R131: a STATE record is queued to a line. A current STATE record that is not in SENDING has not started, so the newer
one takes its place (log entry 16) and none stands as pending. -/
def LineRec.queueState (r : StateRecord) (l : LineRec) : LineRec :=
  match l.current with
  | some (.internal _) =>
    if l.tx = .sending then { l with pendingInternal := some r }
    else { l with current := some (.internal r), pendingInternal := none, collisions := 0 }
  | some (.channel _) => { l with pendingInternal := some r }
  | none => { l with pendingInternal := some r }

/-- R109, R110: the engine queues the STATE record of a port to its line while the line is on. -/
def queueStateRecord (p : Port) (s : State) : State :=
  if (s.line p).isOn then s.setLine p ((s.line p).queueState (stateRecord (s.port p))) else s

/-- R130: the transmitter has an item to send. -/
def LineRec.hasItem (l : LineRec) : Bool :=
  l.current.isSome || l.pendingInternal.isSome || l.setAside.isSome || !l.waitList.isEmpty

/-- R130: the pending internal record is chosen, with a collision count of 0. -/
def LineRec.chooseInternal (r : StateRecord) (l : LineRec) : LineRec :=
  { l with current := some (.internal r), pendingInternal := none, collisions := 0 }

/-- R130: the item is chosen; the second component is the channel to be told that its record has started. A STATE record
kept for a retry goes before one that was pending when it collided, as R130 has it for a current item; that it is kept at
all beside a newer one is the model's choice (DESIGN CHOICE, log entry 48). -/
def LineRec.choose (l : LineRec) : LineRec × Option SendNo :=
  match l.current, l.pendingInternal with
  | some (.channel c), some r => ({ (l.chooseInternal r) with setAside := some ⟨c, l.collisions⟩ }, none)
  | some (.channel _), none => (l, none)
  | some (.internal _), _ => (l, none)
  | none, some r => (l.chooseInternal r, none)
  | none, none =>
    match l.setAside with
    | some a => ({ l with current := some (.channel a.channel), collisions := a.collisions, setAside := none }, none)
    | none =>
      match l.waitList with
      | c :: rest => ({ l with current := some (.channel c), collisions := 0, waitList := rest }, some c)
      | [] => (l, none)

/-- R130: the characters of the current item; a channel's record is of kind 0x13 (R149). -/
def State.itemChars (s : State) (i : Option LineItem) : List Byte :=
  match i with
  | none => []
  | some (.internal r) => r.chars
  | some (.channel c) => recordChars 0x13 (s.sendBody c)

/-- R130: a record starts: in IDLE, with an item to send, the idle elapsed at 2 character times, and the receiver in HUNT
with no character in progress. -/
def LineRec.mayStart (l : LineRec) : Bool :=
  l.tx == .idle && l.hasItem && Config.lineIdle ≤ l.idle && l.rx == .hunt && !l.charInProgress

/-- R149: a channel whose record has been chosen is told so. -/
def tellStarted (c : Option SendNo) (s : State) : State :=
  match c with
  | none => s
  | some c => sendStarted c s

/-- R130: the transmitter chooses its item and goes to SENDING. -/
def startRecord (p : Port) (s : State) : State :=
  let l := (s.line p).choose
  tellStarted l.2 (s.setLine p { l.1 with tx := .sending, record := s.itemChars l.1.current, idle := 0 })

/-- The transmitter drops its current item and returns to IDLE (R130, R133). -/
def LineRec.itemDone (l : LineRec) : LineRec :=
  { l with current := none, collisions := 0, record := [], tx := .idle }

/-- R130, R133: the outcome of the current item is reported to its channel, if it is a channel record. -/
def reportItem (i : Option LineItem) (o : SendOutcome) (s : State) : State :=
  match i with
  | some (.channel c) => recordOutcome c o s
  | some (.internal _) => s
  | none => s

/-- R133, Table 7-6: the full length of a port's backoff. -/
def backoffTime (p : Port) : Nat := (4 + 2 * p.val) * Config.lineChar

/-- R130: the line stands low and the idle time stays at 0 until it rises; when that is, is the free value of
`Config.lowTime` (log entry 35). -/
def holdLow (p : Port) (s : State) : State :=
  { s.setLine p { (s.line p) with idle := 0, low := Config.lowTime s.choices } with choices := s.choices + 1 }

/-- R130: the line stands high at the end of a character, and has been high for at most `bound`. The idle time is the free
value of `Config.idleSeen`, cut to that (log entry 20). -/
def countIdle (p : Port) (bound : Nat) (s : State) : State :=
  { s.setLine p { (s.line p) with idle := min bound (Config.idleSeen s.choices), low := 0 } with choices := s.choices + 1 }

/-- R133: the line after a collision that is not the fourth. The item is kept for a retry, a STATE record too behind which a
newer one is already pending: there R131 counts the one in BACKOFF as not started and says that the line holds at most one
STATE record that has not reached it, and R133 that the item is sent again. The model follows R133 and keeps both (DESIGN
CHOICE, log entry 48). -/
def LineRec.backOff (l : LineRec) : LineRec :=
  { l with tx := .backoff, backoff := none, record := [], collisions := l.collisions + 1 }

/-- R133: a collision. The bit was read back low. -/
def collide (p : Port) (s : State) : State :=
  let l := s.line p
  if l.collisions + 1 = Config.collisionLimit then
    reportItem l.current .collided (holdLow p (s.setLine p (l.itemDone.note .collisionFail)))
  else holdLow p (s.setLine p l.backOff)

/-! ## Turning on and off -/

/-- The transmitter goes to BREAK for 22 bit times. -/
def LineRec.driveBreak (l : LineRec) : LineRec :=
  { l with tx := .breaking, breakRemaining := some Config.breakTime, idle := 0, low := 0 }

/-- R134: a turn-on order, with the STATE record of R110. -/
def turnOnLine (p : Port) (s : State) : State :=
  if (s.line p).isOn then s
  else queueStateRecord p (s.setLine p { (s.line p).driveBreak with rx := .hunt })

/-- R135: the line after a turn-off order. -/
def LineRec.off (l : LineRec) : LineRec :=
  { l with
    rate := l.pendingRate.getD l.rate
    pendingRate := none
    rx := .off
    charInProgress := false
    gap := none
    tx := .off
    breakRemaining := none
    idle := 0
    low := 0
    pendingInternal := none
    waitList := []
    current := none
    record := []
    setAside := none
    collisions := 0
    backoff := none }

/-- The channel of an item. -/
def itemChannel : Option LineItem → List SendNo
  | some (.channel c) => [c]
  | some (.internal _) => []
  | none => []

/-- The send channels a line carries or keeps waiting (R135). -/
def LineRec.channelsHeld (l : LineRec) : List SendNo :=
  itemChannel l.current ++ (l.setAside.map (fun a => a.channel)).toList ++ l.waitList

/-- The list in the order that number `k` stands for: every order has its numbers. -/
def permute {α : Type} : Nat → List α → List α
  | _, [] => []
  | k, x :: xs => (permute (k / (xs.length + 1)) xs).insertIdx (k % (xs.length + 1)) x

/-- R132: channels that move on at the same moment do so in either order: the free value of `Config.tieOrder` (log entry
9). A choice is taken only where there are two or more. -/
def inSomeOrder (l : List SendNo) (s : State) : List SendNo :=
  if 2 ≤ l.length then permute (Config.tieOrder s.choices) l else l

/-- The counter of choices after such a move. -/
def countChoice (l : List SendNo) (s : State) : State :=
  if 2 ≤ l.length then { s with choices := s.choices + 1 } else s

/-- R135: a turn-off order. Each channel on the line records LINE_OFF and moves on (R155). -/
def turnOffLine (p : Port) (s : State) : State :=
  if (s.line p).isOn then
    let cs := (s.line p).channelsHeld
    forEach (inSomeOrder cs s) (fun c => recordOutcome c .lineOff)
      (countChoice cs (s.setLine p (s.line p).off))
  else s

/-- R123: the port's line rate is set. -/
def setLineRate (p : Port) (r : LineRate) (s : State) : State :=
  s.setLine p <|
    if (s.line p).isOn then { (s.line p) with pendingRate := if r = (s.line p).rate then none else some r }
    else { (s.line p) with rate := r, pendingRate := none }

/-! ## LINE_RESET (R136) -/

/-- R136: the line after LINE_RESET. -/
def LineRec.reset (l : LineRec) : LineRec :=
  { l.hunt with charInProgress := false, record := [], backoff := none }.driveBreak

/-- LINE_RESET after the mode check (R136). -/
def doLineReset (tag : Byte) (pl : List Byte) (s : State) : State :=
  match portOfCode (byteAt pl 0) with
  | none => reply .lineReset tag .badValue [] s
  | some p =>
    if (s.line p).isOn then reply .lineReset tag .ok [] (s.setLine p (s.line p).reset)
    else reply .lineReset tag .conflict [] s

/-! ## Meanings of the line events -/

/-- R130: the line at the stop decision of a character, at sample 9 of its stop bit: high for a while, or low. -/
def idleAfterChar (p : Port) (x : LineSamples) (s : State) : State :=
  if x.stop.s9 then countIdle p (highAtMost x * Config.bitUnit / 16) s else holdLow p s

/-- The stop decision of the character in progress (R124, R126 to R130). -/
def receiveChar (p : Port) (x : LineSamples) (s : State) : State :=
  let l := (s.line p).receive x
  applyLineEffect p l.2 (idleAfterChar p x (s.setLine p l.1))

/-- CHARACTER_RECEIVED (R124, R126 to R129). Without a valid start there is no character: one that was in progress at a
collision is not received (R133). -/
def execCharacterReceived (p : Port) (x : LineSamples) (s : State) : Host.Outcome State Fault Refusal :=
  .next (if (s.line p).listens && (s.line p).charInProgress then receiveChar p x s else s)

/-- LINE_VALID_START (R123, R124, R128): a character is in progress and the gap stops. The line was high before it. -/
def execLineValidStart (p : Port) (s : State) : Host.Outcome State Fault Refusal :=
  .next <|
    if (s.line p).listens then
      s.setLine p { (s.line p) with charInProgress := true, gap := none, idle := 0, low := 0 }
    else s

/-- LINE_GAP_EXPIRY (R128): the gap remaining has reached 0. -/
def execLineGapExpiry (p : Port) (s : State) : Host.Outcome State Fault Refusal :=
  .next (if (s.line p).gap = some 0 then s.setLine p ((s.line p).hunt.note .gap) else s)

/-- LINE_BREAK (R125). -/
def execLineBreak (p : Port) (s : State) : Host.Outcome State Fault Refusal :=
  .next <|
    if (s.line p).listens then
      holdLow p (s.setLine p { ((s.line p).hunt.note .breakSeen) with charInProgress := false })
    else s

/-- PENDING_RATE_IN_FORCE (R123). -/
def execPendingRateInForce (p : Port) (s : State) : Host.Outcome State Fault Refusal :=
  .next <|
    match (s.line p).pendingRate with
    | none => s
    | some r =>
      if (s.line p).rx = .hunt ∧ (s.line p).charInProgress = false ∧ (s.line p).tx.deaf = false then
        s.setLine p
          { (s.line p) with
            rate := r
            pendingRate := none
            idle := 0
            backoff := (s.line p).backoff.map (fun _ => backoffTime p) }
      else s

/-- BREAK_END (R130, R134, R136): the 22 bit times of the break have run out. The chip releases the line, which an accessory may still hold low. -/
def execBreakEnd (p : Port) (s : State) : Host.Outcome State Fault Refusal :=
  .next <|
    if (s.line p).tx = .breaking ∧ (s.line p).breakRemaining = some 0 then
      holdLow p (s.setLine p { (s.line p) with tx := .idle, breakRemaining := none })
    else s

/-- RECORD_START (R130). -/
def execRecordStart (p : Port) (s : State) : Host.Outcome State Fault Refusal :=
  .next (if (s.line p).mayStart then startRecord p s else s)

/-- RECORD_SENT (R130). The line has been high for the stop bit at most: the mark bit before it was a 0. -/
def execRecordSent (p : Port) (s : State) : Host.Outcome State Fault Refusal :=
  .next <|
    if (s.line p).tx = .sending then
      reportItem (s.line p).current .delivered (countIdle p Config.bitUnit (s.setLine p (s.line p).itemDone))
    else s

/-- COLLISION (R133). -/
def execCollision (p : Port) (s : State) : Host.Outcome State Fault Refusal :=
  .next (if (s.line p).tx = .sending then collide p s else s)

/-- BACKOFF_START (R133): the idle elapsed has reached 2 character times. -/
def execBackoffStart (p : Port) (s : State) : Host.Outcome State Fault Refusal :=
  .next <|
    if (s.line p).tx = .backoff ∧ (s.line p).backoff = none ∧ Config.lineIdle ≤ (s.line p).idle then
      s.setLine p { (s.line p) with backoff := some (backoffTime p) }
    else s

/-- BACKOFF_EXPIRY (R133): the backoff remaining has reached 0. -/
def execBackoffExpiry (p : Port) (s : State) : Host.Outcome State Fault Refusal :=
  .next <|
    if (s.line p).tx = .backoff ∧ (s.line p).backoff = some 0 then
      s.setLine p { (s.line p) with tx := .idle, backoff := none }
    else s

end Sys2Proof.Machine
end

