-- ==== Sys2Proof/Machine/Switches.lean ====
section
/-! DEFINITION. Chapter 3: the port switches. The four orders of the allocation engine, the trips, the changes of
configuration, and the meanings of the switch events. -/

namespace Sys2Proof.Machine

/-! ## The filter and the record -/

/-- R42: the filter is armed. If the comparator is already asserted, the count begins at the moment of arming. -/
def SwitchRec.arm (w : SwitchRec) : SwitchRec := { w with armed := true, filter := if w.tripLevel then some 0 else none }

/-- R42: the filter is disarmed and its count discarded. -/
def SwitchRec.disarm (w : SwitchRec) : SwitchRec := { w with armed := false, filter := none }

/-- R39, R48: entry to CLOSED: the clean run starts at 0 and the filter is armed. -/
def SwitchRec.close (w : SwitchRec) : SwitchRec := { w with state := .closed 0, powerGood := true }.arm

/-- The GATE drive is turned off and the switch goes to `st`, OPEN or COOLING WAIT. The output falls, so the power-good
level is low from here (log entry 7). -/
def SwitchRec.gateOff (w : SwitchRec) (st : SwitchState) : SwitchRec := { w with state := st, powerGood := false }.disarm

/-- R50: the trip count rises by 1 and holds at 255. -/
def SwitchRec.countTrip (w : SwitchRec) : SwitchRec :=
  { w with tripCount := if w.tripCount < Config.tripCountMax then w.tripCount + 1 else w.tripCount }

/-- R51: the PORT_FAULT notice of a port as its record stands. -/
def faultNotice (p : Port) (w : SwitchRec) : Notice := .portFault p w.lastFault w.tripCount w.retry w.state

/-- R50, R51: a fault record update: the switch takes its new record and posts its PORT_FAULT notice. -/
def faultUpdate (p : Port) (w : SwitchRec) (s : State) : State := postNotice (faultNotice p w) (s.setSwitch p w)

/-- R52: a fault record update followed by a report. -/
def faultReport (p : Port) (w : SwitchRec) (r : Report) (s : State) : State := sendReport p r (faultUpdate p w s)

/-! ## Orders (R35 to R38) -/

/-- R35: a switch on order. -/
def switchOn (p : Port) (s : State) : State :=
  match (s.switch p).state with
  | .opened =>
    s.setSwitch p { (s.switch p) with state := .ramping (s.cfg p).rampTime 0, powerGood := false }.disarm
  | .ramping _ _ | .paused _ _ | .closed _ | .cooling _ _ => s

/-- R36: a pause order. -/
def pauseSwitch (p : Port) (s : State) : State :=
  match (s.switch p).state with
  | .ramping r e => s.setSwitch p { (s.switch p) with state := .paused r e }
  | .opened | .paused _ _ | .closed _ | .cooling _ _ => s

/-- R39: power good is taken in RAMPING: CLOSED, and start complete is reported. -/
def takePowerGood (p : Port) (s : State) : State :=
  sendReport p .startComplete (s.setSwitch p (s.switch p).close)

/-- R37: a resume order. A switch that shows power good at the resume takes it at once. -/
def resumeSwitch (p : Port) (s : State) : State :=
  match (s.switch p).state with
  | .paused r e =>
    if (s.switch p).powerGood then takePowerGood p s
    else s.setSwitch p { (s.switch p) with state := .ramping r e }
  | .opened | .ramping _ _ | .closed _ | .cooling _ _ => s

/-- R38: a switch off order. -/
def switchOff (p : Port) (s : State) : State :=
  match (s.switch p).state with
  | .opened => s
  | .ramping _ _ | .paused _ _ | .closed _ | .cooling _ _ => s.setSwitch p ((s.switch p).gateOff .opened)

/-! ## Trips (R41 to R48) -/

/-- Cooling length in µs. -/
def CoolLength.micros : CoolLength → Nat
  | .ms5 => 5000
  | .ms100 => 100000

/-- R46, R48: a retry trip of kind `k` with cooling length `len`. `counted` is no for a re-close timeout (R50). -/
def retryTrip (p : Port) (k : FaultKind) (len : CoolLength) (counted : Bool) (s : State) : State :=
  let limit := (s.cfg p).retryLimit
  let w0 := if counted then (s.switch p).countTrip else s.switch p
  let w := { w0 with retry := if w0.retry < limit then w0.retry + 1 else w0.retry }
  if w.retry < limit then
    faultReport p { w.gateOff (.cooling (.wait len.micros) len) with lastFault := k } (.trip k .cooling) s
  else faultReport p { w.gateOff .opened with lastFault := .retryLimit } .retryLimit s

/-- R45: a trip that opens the switch in LATCH mode, or a hard trip in REPORT mode (R44). -/
def latchTrip (p : Port) (k : FaultKind) (s : State) : State :=
  faultReport p { (s.switch p).countTrip.gateOff .opened with lastFault := k } (.trip k .opened) s

/-- R44: a filtered trip in REPORT mode. -/
def reportTrip (p : Port) (s : State) : State :=
  faultReport p { (s.switch p).countTrip.disarm with state := .closed 0, lastFault := .trip } (.trip .trip .heldClosed) s

/-- R44 to R46, Table 3-5: a filtered trip while CLOSED, by the trip mode. -/
def filteredTripClosed (p : Port) (s : State) : State :=
  match (s.cfg p).tripMode with
  | .report => reportTrip p s
  | .latch => latchTrip p .trip s
  | .retryFast => retryTrip p .trip .ms5 true s
  | .retrySlow => retryTrip p .trip .ms100 true s

/-- R44 to R46, Table 3-5: a hard trip while CLOSED, by the trip mode. -/
def hardTripClosed (p : Port) (s : State) : State :=
  match (s.cfg p).tripMode with
  | .report => latchTrip p .hardTrip s
  | .latch => latchTrip p .hardTrip s
  | .retryFast => retryTrip p .hardTrip .ms5 true s
  | .retrySlow => retryTrip p .hardTrip .ms100 true s

/-- R41: a hard trip during a start. -/
def hardTripStart (p : Port) (s : State) : State :=
  faultReport p { (s.switch p).countTrip.gateOff .opened with lastFault := .hardTrip } (.startFail .hardTrip) s

/-- R47: the phase a cooling enters when its wait expires. -/
def phaseAfterWait (flag : Bool) : CoolPhase := if flag then .due else .reclose Config.recloseTimeout

/-- R47: when the changeover flag clears, a switch in phase DUE enters RECLOSE. -/
def SwitchRec.flagClears (w : SwitchRec) : SwitchRec :=
  match w.state with
  | .cooling .due len => { w with state := .cooling (.reclose Config.recloseTimeout) len }
  | .opened | .ramping _ _ | .paused _ _ | .closed _ | .cooling (.wait _) _ | .cooling (.reclose _) _ => w

/-- R47 for every switch. -/
def dueReclose (s : State) : State := { s with switches := s.switches.map SwitchRec.flagClears }

/-! ## Configuration (R53) and PORT_CLEAR (R54) -/

/-- R53: the effect of new configuration fields on the dynamic record of a switch, before a count that has already
reached a new filter width fires. -/
def SwitchRec.reconfigure (old new : PortConfig) (w : SwitchRec) : SwitchRec :=
  let w1 := if old.tripCurrent ≠ new.tripCurrent ∧ w.armed then w.arm else w
  let w2 :=
    match w1.state with
    | .closed _ => if new.tripMode ≠ .report ∧ w1.armed = false then w1.arm else w1
    | .opened | .ramping _ _ | .paused _ _ | .cooling _ _ => w1
  if old.retryLimit ≠ new.retryLimit then
    { w2 with
      retry :=
        if w2.lastFault = .retryLimit then min w2.retry new.retryLimit
        else if new.retryLimit ≤ w2.retry then new.retryLimit - 1 else w2.retry }
  else w2

/-- R42, R53: a count running in CLOSED has reached the filter width configured. -/
def SwitchRec.widthReached (c : PortConfig) (w : SwitchRec) : Bool :=
  match w.state, w.filter with
  | .closed _, some e => c.tripFilter.micros ≤ e
  | .closed _, none => false
  | .opened, _ => false
  | .ramping _ _, _ => false
  | .paused _ _, _ => false
  | .cooling _ _, _ => false

/-- R53: a switch takes the configuration fields now stored for its port; `old` are those it had. Where one command gives
a filter width that a running count has already reached and also another trip mode or retry limit, the rule does not say
by which of them the trip that fires at once acts: the model takes the new mode, the new limit and the adjusted retry
counter (DESIGN CHOICE, log entry 45). -/
def reconfigureSwitch (p : Port) (old : PortConfig) (s : State) : State :=
  let s1 := s.setSwitch p ((s.switch p).reconfigure old (s.cfg p))
  if old.tripFilter ≠ (s.cfg p).tripFilter ∧ (s1.switch p).widthReached (s.cfg p) then filteredTripClosed p s1 else s1

/-- R54: the switch clears its fault record and its retry counter. -/
def clearFaults (p : Port) (s : State) : State :=
  faultUpdate p { (s.switch p) with lastFault := .none, tripCount := 0, retry := 0 } s

/-! ## Meanings of the switch events -/

/-- POWER_GOOD (R36, R39, R48). -/
def execPowerGood (p : Port) (s : State) : Host.Outcome State Fault Refusal :=
  .next <|
    match (s.switch p).state with
    | .ramping _ _ => takePowerGood p s
    | .paused _ _ => s.setSwitch p { (s.switch p) with powerGood := true }
    | .cooling (.reclose _) _ => s.setSwitch p (s.switch p).close
    | .opened | .closed _ | .cooling (.wait _) _ | .cooling .due _ => s

/-- R40: the start timeout, twice the start ramp time, in µs. -/
def RampTime.timeout (r : RampTime) : Nat := 2 * r.millis * 1000

/-- START_TIMEOUT (R40): the ramp elapsed has reached the start timeout. -/
def execStartTimeout (p : Port) (s : State) : Host.Outcome State Fault Refusal :=
  .next <|
    match (s.switch p).state with
    | .ramping r e =>
      if r.timeout ≤ e then
        faultReport p { (s.switch p).gateOff .opened with lastFault := .startFail } (.startFail .timeout) s
      else s
    | .opened | .paused _ _ | .closed _ | .cooling _ _ => s

/-- HARD_TRIP (R41, R43 to R46, R48). Where a switch in RECLOSE shows power good and the hard comparator asserts at one
moment and power good is taken first, R48 says that the later one is not acted on and R43 that CLOSED acts on it: the
model follows R43 (DESIGN CHOICE, log entry 37). -/
def execHardTrip (p : Port) (s : State) : Host.Outcome State Fault Refusal :=
  .next <|
    match (s.switch p).state with
    | .ramping _ _ => hardTripStart p s
    | .paused _ _ => hardTripStart p s
    | .closed _ => hardTripClosed p s
    | .cooling (.reclose _) len => retryTrip p .hardTrip len true s
    | .opened | .cooling (.wait _) _ | .cooling .due _ => s

/-- TRIP_COMPARATOR_ASSERTS (R42): an armed filter starts counting. -/
def execTripComparatorAsserts (p : Port) (s : State) : Host.Outcome State Fault Refusal :=
  let w := s.switch p
  .next (s.setSwitch p
    { w with tripLevel := true, filter := if w.armed && !w.tripLevel then some 0 else w.filter })

/-- TRIP_COMPARATOR_RELEASES (R42, R44): the count is discarded; a filter that a REPORT-mode trip disarmed is armed
again. R42 speaks of a release before the count reaches the width. One at that very moment discards it too where its row
is taken first (DESIGN CHOICE, log entry 49). -/
def execTripComparatorReleases (p : Port) (s : State) : Host.Outcome State Fault Refusal :=
  let w := { (s.switch p) with tripLevel := false, filter := none }
  .next <|
    match w.state with
    | .closed _ => s.setSwitch p { w with armed := true }
    | .opened | .ramping _ _ | .paused _ _ | .cooling _ _ => s.setSwitch p w

/-- FILTERED_TRIP (R42, R44 to R46): acted on in CLOSED while the filter is armed and its count has reached the width. A
count that a command of the same moment has restarted, or left below a wider width (R53), has not. -/
def execFilteredTrip (p : Port) (s : State) : Host.Outcome State Fault Refusal :=
  .next (if (s.switch p).armed && (s.switch p).widthReached (s.cfg p) then filteredTripClosed p s else s)

/-- COOLING_EXPIRY (R47): the wait of the cooling has reached 0. -/
def execCoolingExpiry (p : Port) (s : State) : Host.Outcome State Fault Refusal :=
  .next <|
    match (s.switch p).state with
    | .cooling (.wait 0) len =>
      s.setSwitch p { (s.switch p) with state := .cooling (phaseAfterWait s.changeoverFlag) len }
    | .cooling (.wait (_ + 1)) _ => s
    | .opened | .ramping _ _ | .paused _ _ | .closed _ | .cooling .due _ | .cooling (.reclose _) _ => s

/-- RECLOSE_TIMEOUT (R48): the 2 ms of the re-close have run out: a retry trip of kind TRIP that the trip count does not
count (R50). -/
def execRecloseTimeout (p : Port) (s : State) : Host.Outcome State Fault Refusal :=
  .next <|
    match (s.switch p).state with
    | .cooling (.reclose 0) len => retryTrip p .trip len false s
    | .cooling (.reclose (_ + 1)) _ => s
    | .opened | .ramping _ _ | .paused _ _ | .closed _ | .cooling (.wait _) _ | .cooling .due _ => s

/-- CLEAN_RUN (R49): the clean-run elapsed has reached its end. A count that a trip of the same moment has restarted (R44)
has not. -/
def execCleanRun (p : Port) (s : State) : Host.Outcome State Fault Refusal :=
  .next <|
    match (s.switch p).state with
    | .closed n => if Config.cleanRunTime ≤ n then s.setSwitch p { (s.switch p) with retry := 0 } else s
    | .opened | .ramping _ _ | .paused _ _ | .cooling _ _ => s

end Sys2Proof.Machine
end

