-- ==== Sys2Proof/Machine/Allocation.lean ====
section
/-! DEFINITION. Chapters 4 and 5: the operations of the allocation engine. The lists and slots (R60 to R62), entering SHED
(R90, R92), the shed order (R91, R105, R106), the shed check (R96), cancellation (R99, R100), the envelope (R65 to R67),
and the admission pass (R75 to R77). A key is a number: a lower number is a higher key. -/

namespace Sys2Proof.Machine

/-- A change of one port record. -/
def State.mapPort (s : State) (p : Port) (f : PortRec → PortRec) : State := s.setPort p (f (s.port p))

/-- A change of the engine record. -/
def State.mapEngine (s : State) (f : Engine → Engine) : State := s.setEngine (f s.engine)

/-- R74: an admission opportunity arises. -/
def opportunity (s : State) : State := s.mapEngine (fun e => { e with opportunity := true })

/-! ## Lists and slots -/

/-- R60: a port enters the queue after every entry of the same key. -/
def insertAfter (key : Port → Nat) (p : Port) (l : List Port) : List Port :=
  l.takeWhile (fun q => key q ≤ key p) ++ p :: l.dropWhile (fun q => key q ≤ key p)

/-- R60: a port enters the queue before every entry of the same key. -/
def insertBefore (key : Port → Nat) (p : Port) (l : List Port) : List Port :=
  l.takeWhile (fun q => key q < key p) ++ p :: l.dropWhile (fun q => key q < key p)

/-- The list without one port. -/
def without (p : Port) (l : List Port) : List Port := l.filter (fun q => q != p)

/-- R62: a start slot the port holds is freed. -/
def Engine.freeSlot (p : Port) (e : Engine) : Engine :=
  { e with
    slot0 := if e.slot0 = some p then none else e.slot0
    slot1 := if e.slot1 = some p then none else e.slot1 }

/-- R62: a start slot is free. -/
def Engine.hasSlot (e : Engine) : Bool := e.slot0.isNone || e.slot1.isNone

/-- R76: the port takes a free start slot, the lower cell first (log entry 14). -/
def Engine.takeSlot (p : Port) (e : Engine) : Engine :=
  if e.slot0.isNone then { e with slot0 := some p } else { e with slot1 := some p }

/-- R61, R62: the port leaves the granted list and its slot. -/
def Engine.leaveGranted (p : Port) (e : Engine) : Engine :=
  { e.freeSlot p with granted := without p e.granted }

/-- The port leaves both lists and its slot. -/
def Engine.leaveLists (p : Port) (e : Engine) : Engine :=
  { e.leaveGranted p with queue := without p e.queue }

/-- R82: a changed grant sets the overdraw count to 0. -/
def PortRec.withGrant (g : Nat) (r : PortRec) : PortRec :=
  { r with grant := g, overdraw := if g = r.grant then r.overdraw else 0 }

/-- R60: a port enters WAITING. -/
def enterWaiting (p : Port) (s : State) : State :=
  (s.mapPort p (fun r => { r with alloc := .waiting })).mapEngine
    (fun e => { e with queue := insertAfter s.key p e.queue })

/-! ## Leaving the granted list -/

/-- R104: the children of a port in the granted list, in order of admission. -/
def State.childrenOf (s : State) (p : Port) : List Port :=
  s.engine.granted.filter (fun q => (s.cfg q).parent == some p)

/-- R90: the record of a port that enters SHED. R102 has the queue hold no request of 0 mW, so a port of the granted list
whose request has been cut to 0 mW goes to OFF in its place (DEDUCED, log entry 23). -/
def PortRec.drop (why : ShedReason) (r : PortRec) : PortRec :=
  if r.request = 0 then
    { r with alloc := .off, grant := 0, origin := none, reason := none, grace := none, overdraw := 0 }
  else { r with alloc := .shed, grant := 0, reason := some why, grace := none, overdraw := 0 }

/-- R90: a port enters SHED, but for its place in the queue, which `requeue` gives it by R92. -/
def dropToShed (why : ShedReason) (p : Port) (s : State) : State :=
  opportunity (switchOff p ((s.mapPort p (PortRec.drop why)).mapEngine (fun e => e.leaveGranted p)))

/-- R106: the reason a child takes when its parent leaves the granted list. -/
def childReason (r : PortRec) : ShedReason :=
  if r.alloc = .shedding then r.reason.getD .dependency else .dependency

/-- R106: the children of a port that has left the granted list enter SHED, and their children with them. A chain of
parents is at most seven steps long (R107), so `n` is 8. -/
def dropChildren : Nat → Port → State → State
  | 0, _, s => s
  | n + 1, p, s =>
    forEach (s.childrenOf p)
      (fun q s => if (s.alloc q).granted then dropChildren n q (dropToShed (childReason (s.port q)) q s) else s) s

/-- R90, R106: a port enters SHED with its dependants. -/
def dropTree (why : ShedReason) (p : Port) (s : State) : State := dropChildren 8 p (dropToShed why p s)

/-- R92: the ports that entered SHED in this step are inserted in the queue, latest admitted first; `order` is the granted
list at the start of the step. -/
def requeue (order : List Port) (s : State) : State :=
  forEach order.reverse
    (fun p s =>
      if s.alloc p = .shed ∧ p ∉ s.engine.queue then
        s.mapEngine (fun e => { e with queue := insertBefore s.key p e.queue })
      else s) s

/-- A step of the engine that may send ports into SHED (R92). -/
def inOneStep (f : State → State) (s : State) : State := requeue s.engine.granted (f s)

/-- R91: a port in ON with a grace above 0 goes to SHEDDING. -/
def startGrace (why : ShedReason) (p : Port) (s : State) : State :=
  s.mapPort p fun r =>
    { r with alloc := .shedding, reason := some why, grace := some (r.config.shedGrace * 1000) }

/-- R91, R105: the shed order. The order passes down the chain of children, at most seven steps, so `n` is 8. -/
def shedOrder : Nat → ShedReason → Port → State → State
  | 0, _, _, s => s
  | n + 1, why, p, s =>
    match s.alloc p with
    | .on =>
      if (s.cfg p).shedGrace = 0 then dropTree why p s
      else forEach (s.childrenOf p) (shedOrder n .dependency) (startGrace why p s)
    | .starting => dropTree why p s
    | .held => dropTree why p s
    | .shedding => if why = .mode then s.mapPort p (fun r => { r with reason := some .mode }) else s
    | .off => s
    | .waiting => s
    | .shed => s
    | .faulted => s

/-- R91 as one step. -/
def shed (why : ShedReason) (p : Port) (s : State) : State := inOneStep (shedOrder 8 why p) s

/-- R106: the children of a port that has just left the granted list for OFF or FAULTED. -/
def dropDependants (p : Port) (s : State) : State := dropChildren 8 p s

/-- R101: the restore hold starts, or restarts at its full time. -/
def startHold (s : State) : State :=
  s.mapEngine (fun e => { e with restoreHold := some (e.restoreHoldTime * 1000) })

/-! ## The shed check (R96) -/

/-- R96: the lowest-keyed port of a list in order of admission, the latest admitted among equal keys. -/
def lowestKeyed (key : Port → Nat) (l : List Port) : Option Port :=
  l.foldl
    (fun best p =>
      match best with
      | none => some p
      | some b => if key b ≤ key p then some p else some b) none

/-- R96: the ports a shed check may select. -/
def State.victims (s : State) : List Port :=
  s.engine.granted.filter (fun p => s.alloc p != .shedding && !s.essential p)

/-- R96, R97: the shed check. Each selection takes a port out of the choice, so `n` is 8. -/
def shedCheck : Nat → State → State
  | 0, s => s
  | n + 1, s =>
    if s.retained ≤ s.engine.envelope then s
    else
      match lowestKeyed s.key s.victims with
      | none => s
      | some p => shedCheck n (startHold (shed .envelope p s))

/-! ## Cancellation (R99, R100) -/

/-- Ports in order of key, highest first, in their own order among equal keys. -/
def byKey (key : Port → Nat) (l : List Port) : List Port := l.foldl (fun acc p => insertAfter key p acc) []

/-- The port's parent is in the list. -/
def State.parentIn (s : State) (l : List Port) (p : Port) : Bool :=
  match (s.cfg p).parent with
  | none => false
  | some q => l.contains q

/-- R100: the port may belong to the group of a parent. -/
def State.cancellable (s : State) (p : Port) : Bool :=
  s.alloc p == .shedding && ((s.port p).reason == some .envelope || (s.port p).reason == some .dependency)

/-- Ports of `l` reached from `start` down the chain of children through ports that satisfy `f`; `n` rounds. -/
def closure (s : State) (f : Port → Bool) (l : List Port) : Nat → List Port → List Port
  | 0, found => found
  | n + 1, found => closure s f l n (l.filter (fun q => found.contains q || (f q && s.parentIn found q)))

/-- R100: the group of a port. -/
def State.group (s : State) (p : Port) : List Port := closure s s.cancellable s.engine.granted 8 [p]

/-- R100: a port is cancelled to ON. Entry into ON is an opportunity for its children (R104). -/
def cancelPort (p : Port) (s : State) : State :=
  opportunity (s.mapPort p (fun r => { r with alloc := .on, grace := none, reason := none, overdraw := 0 }))

/-- R99: the walk over the ports in SHEDDING with reason ENVELOPE. -/
def cancelWalk : List Port → State → State
  | [], s => s
  | p :: rest, s =>
    if s.alloc p = .shedding ∧ s.parentOn p then
      if s.retained + s.grants (s.group p) ≤ s.engine.envelope then cancelWalk rest (forEach (s.group p) cancelPort s)
      else s
    else cancelWalk rest s

/-- R99: the ports the walk visits, most important first. -/
def State.cancelOrder (s : State) : List Port :=
  byKey s.key
    (s.engine.granted.filter (fun p => s.alloc p == .shedding && (s.port p).reason == some .envelope))

/-! ## The envelope (R65 to R67) -/

/-- R66 steps 2 and 3: the derated power of a source configuration at voltage `v`. -/
def derated (c : SourceConfig) (v : Nat) : Nat :=
  let raw := v * c.capacity / 1000
  if c.softFloor ≤ v then raw
  else if c.hardFloor < v then raw * (v - c.hardFloor) / (c.softFloor - c.hardFloor)
  else 0

/-- R66 steps 4 and 5. -/
def envelopeOf (derated bodyReserve bodyPower : Nat) : Nat :=
  min Config.powerLimit (derated - max bodyReserve bodyPower - Config.auxAllowance)

/-- R66: the envelope by the latest filtered values. -/
def State.newEnvelope (s : State) : Nat :=
  match s.sel.active with
  | none => 0
  | some x => envelopeOf (derated (s.source x).config (s.voltage x)) s.engine.bodyReserve s.bodyPower

/-- R66, R87: the new envelope is stored, with P_BODY as used. -/
def storeEnvelope (s : State) : State :=
  s.mapEngine fun e =>
    { e with envelope := s.newEnvelope, pBody := if s.sel.active.isSome then s.bodyPower else e.pBody }

/-- R67: the follow-on steps of a recomputation; `old` is the envelope before it. -/
def afterRecompute (old : Nat) (s : State) : State :=
  let s1 := shedCheck 8 s
  if old < s.engine.envelope then opportunity (cancelWalk s1.cancelOrder s1) else s1

/-- R65 to R67: a recomputation of the envelope. -/
def recompute (s : State) : State := afterRecompute s.engine.envelope (storeEnvelope s)

/-- R65: while held is yes the envelope is frozen. -/
def recomputeUnlessHeld (s : State) : State := if s.engine.held then s else recompute s

/-! ## The admission pass (R75 to R77) -/

/-- R75: the mode forbids the entry. -/
def modeForbids (m : Mode) (essential : Bool) : Bool :=
  match m with
  | .init => true
  | .standby => true
  | .economy => !essential
  | .run => false

/-- R75, R101: the restore hold holds an entry back, unless its class is ESSENTIAL. Table 6-2's text (R118) says that
MODE-shed ports are not held back by it: the model takes that as an exception to R75 and R101 (DEDUCED, log entry 38). -/
def State.holdsBack (s : State) (p : Port) : Bool :=
  s.engine.restoreHold.isSome && !s.essential p && !(s.alloc p == .shed && (s.port p).reason == some .mode)

/-- R75: the entry is skipped. -/
def State.skips (s : State) (p : Port) : Bool :=
  !s.parentOn p || modeForbids s.mode (s.essential p) || s.holdsBack p

/-- R75: the reasons that ask for the restore margin. -/
def needsMargin : Option ShedReason → Bool
  | some .envelope => true
  | some .noSource => true
  | some .overdraw => true
  | some .mode => false
  | some .dependency => false
  | some .preempted => false
  | none => false

/-- R75: the candidate's need. -/
def State.need (s : State) (p : Port) : Nat :=
  (s.port p).request +
    (if s.alloc p = .shed ∧ needsMargin (s.port p).reason then s.engine.restoreMargin else 0)

/-- R75: the candidate fits. -/
def State.fits (s : State) (p : Port) : Bool := s.committed + s.need p ≤ s.engine.envelope

/-- R76: the candidate is admitted. -/
def admitPort (p : Port) (s : State) : State :=
  let s1 := s.mapPort p fun r =>
    { r with alloc := .starting, grant := r.request, reason := none, overdraw := 0 }
  switchOn p (s1.mapEngine (fun e =>
    { e.takeSlot p with queue := without p e.queue, granted := e.granted ++ [p] }))

/-- R77: the victim pool of a candidate. -/
def State.bumpPool (s : State) (cand : Port) : List Port :=
  s.engine.granted.filter (fun p => s.alloc p != .shedding && !s.essential p && s.key cand < s.key p)

/-- R77: the pool with the dependants it brings, each port once. -/
def State.bumpRoom (s : State) (cand : Port) : List Port :=
  closure s (fun q => s.alloc q != .shedding) s.engine.granted 8 (s.bumpPool cand)

/-- R77: victims are taken one at a time until the need fits; `need` is the candidate's. -/
def takeVictims (cand : Port) (need : Nat) : Nat → State → State
  | 0, s => s
  | n + 1, s =>
    if s.retained + need ≤ s.engine.envelope then s
    else
      match lowestKeyed s.key (s.bumpPool cand) with
      | none => s
      | some v => takeVictims cand need n (shed .preempted v s)

/-- R77: bumping. -/
def bump (cand : Port) (s : State) : State :=
  if s.retained + s.need cand ≤ s.engine.envelope then s
  else if s.retained + s.need cand ≤ s.engine.envelope + s.grants (s.bumpRoom cand) then
    takeVictims cand (s.need cand) 8 s
  else s

/-- R75: the walk of the pass. -/
def passWalk : List Port → State → State
  | [], s => s
  | p :: rest, s =>
    if s.skips p then passWalk rest s
    else if s.engine.hasSlot then if s.fits p then passWalk rest (admitPort p s) else bump p s
    else s

/-- R75: an admission pass. -/
def admissionPass (s : State) : State := passWalk s.engine.queue s

/-- R74: the opportunities of a handling run one pass at its end, but not while held is yes or in INIT. -/
def runOpportunity (s : State) : State :=
  if s.engine.opportunity then
    (if s.engine.held ∨ s.mode = .init then s else admissionPass s).mapEngine
      (fun e => { e with opportunity := false })
  else s

/-! ## The end of a handling -/

/-- R98: the ENVELOPE notice. -/
def envelopeNotice (s : State) : Notice := .envelope s.engine.envelope s.committed s.retained s.engine.overcommit

/-- R98: overcommit is set, with a notice where it changes. -/
def updateOvercommit (s : State) : State :=
  let o : Bool := s.engine.envelope < s.retained
  if o = s.engine.overcommit then s
  else
    let s1 := s.mapEngine (fun e => { e with overcommit := o })
    postNotice (envelopeNotice s1) s1

/-- R64: the PORT_STATE notice of a port as it stands. -/
def portStateNotice (p : Port) (r : PortRec) : Notice := .portState p r.alloc r.grant r.request r.reason r.origin

/-- R64: the allocation state or the grant of a port differs from that of an earlier record. -/
def PortRec.changedFrom (r old : PortRec) : Bool := r.alloc != old.alloc || r.grant != old.grant

/-- R64, R109: the PORT_STATE notice and the STATE record of a port. -/
def announcePort (p : Port) (s : State) : State :=
  queueStateRecord p (postNotice (portStateNotice p (s.port p)) s)

/-- R64, R109: notices and STATE records of the ports that changed since the start of the handling, in port order (log
entry 13). -/
def announceChanges (s0 s : State) : State :=
  forEach allPorts (fun p s => if (s.port p).changedFrom (s0.port p) then announcePort p s else s) s

/-- R116: the rails and the lines are turned off. -/
def turnRailsOff (s : State) : State :=
  { forEach allPorts turnOffLine s with rails := false, linesOn := false }

/-- R116: the wind-down of STANDBY ends. -/
def windDown (s : State) : State :=
  if s.mode = .standby ∧ s.rails ∧ s.engine.granted = [] then
    let s1 := turnRailsOff s
    postNotice (.mode s1.mode s1.rails .windDown) s1
  else s

/-- R64, R74, R98, R109, R116: the end of a handling that started in `s0`: admission pass, overcommit, notices and STATE
records, wind-down. -/
def finish (s0 s : State) : State := windDown (announceChanges s0 (updateOvercommit (runOpportunity s)))

end Sys2Proof.Machine
end

