-- ==== Sys2Proof/Machine/Selection.lean ====
section
/-! DEFINITION. Chapter 1: the source selector. Grading (R1 to R5), selection (R6 to R10), changeover (R11 to R13), and
the meanings of its events. -/

namespace Sys2Proof.Machine

/-! ## Selection (R6, R7) -/

/-- R6: the first usable source of the priority order. -/
def prioritySelection (usable : Source → Bool) (order : List Source) : Option Source := order.find? usable

/-- R7: selection in DRAIN mode against a reference source. -/
def drainSelection (usable : Source → Bool) (v : Source → Nat) (ref : Option Source) : Option Source :=
  let alone : Option Source :=
    match usable .sa, usable .sb with
    | true, true => some (if v .sb < v .sa then .sb else .sa)
    | true, false => some .sa
    | false, true => some .sb
    | false, false => none
  if usable .sd then some .sd
  else
    match ref with
    | some .sa =>
      if usable .sa then
        if usable .sb && v .sb + Config.drainMargin < v .sa then some .sb else some .sa
      else alone
    | some .sb =>
      if usable .sb then
        if usable .sa && v .sa + Config.drainMargin < v .sb then some .sa else some .sb
      else alone
    | some .sd => alone
    | none => alone

/-- R6, R7: the selection result with a reference source. -/
def selection (ref : Option Source) (s : State) : Option Source :=
  match s.sel.settings.mode with
  | .priority => prioritySelection s.usable s.sel.settings.order
  | .drain => drainSelection s.usable s.voltage ref

/-! ## Notices, pins and changeovers -/

/-- R16: a SOURCE_STATE notice for a source as it stands at the moment of posting. -/
def postSourceState (x : Source) (s : State) : State :=
  postNotice (.sourceState x (s.source x).state (s.voltage x) s.sel.active s.changeoverFlag) s

/-- A SEL pin is driven. -/
def driveSel (x : Source) (on : Bool) (s : State) : State := s.setSource x { (s.source x) with selPin := on }

/-- A SEL pin is driven for the active source, if there is one. -/
def driveActive (a : Option Source) (on : Bool) (s : State) : State :=
  match a with
  | none => s
  | some x => driveSel x on s

/-- R16: a notice for a source that was active, if it was not NONE. -/
def postActive (a : Option Source) (s : State) : State :=
  match a with
  | none => s
  | some x => postSourceState x s

def State.setChangeover (s : State) (c : Option Changeover) : State := { s with sel := { s.sel with changeover := c } }

def State.setActive (s : State) (a : Option Source) : State := { s with sel := { s.sel with active := a } }

/-- R11: a changeover to `t` that is not continued begins. -/
def beginChangeover (t : Source) (s : State) : State :=
  sendEvent .changeoverBegin
    ((driveActive s.sel.active false s).setChangeover (some ⟨t, Config.changeoverTime⟩))

/-- R9: the active source becomes NONE at once. -/
def loseSource (a : Source) (s : State) : State :=
  postSourceState a (sendEvent .noSource ((driveSel a false s).setActive none))

/-- R8, R9: an evaluation. During a changeover it is not made: the changeover's end makes it. -/
def evaluate (s : State) : State :=
  if s.changeoverFlag then s
  else
    match selection s.sel.active s, s.sel.active with
    | some t, some a => if t = a then s else beginChangeover t s
    | some t, none => beginChangeover t s
    | none, some a => loseSource a s
    | none, none => s

/-! ## State changes (R1, R4, R5) -/

/-- A source takes a state: entry to QUALIFYING starts the qualify timer, any other state has none (R1). -/
def enterSourceState (x : Source) (st : SourceState) (s : State) : State :=
  s.setSource x
    { (s.source x) with
      state := st
      qualify := if st = .qualifying then some (s.sel.settings.qualifyTime * 1000) else none }

/-- R5: a change of state posts a notice and evaluates the selection. An equal state is no change. -/
def changeSource (x : Source) (st : SourceState) (s : State) : State :=
  if st = (s.source x).state then s else evaluate (postSourceState x (enterSourceState x st s))

/-- R1, Table 1-3: the grade of a source after a sample of filtered voltage `v`. -/
def grade (c : SourceConfig) (st : SourceState) (v : Nat) : SourceState :=
  match st with
  | .disabled => .disabled
  | .over => .over
  | .absent => if v < Config.presence then .absent else if v ≤ c.hardFloor then .under else .qualifying
  | .qualifying => if v < Config.presence then .absent else if v ≤ c.hardFloor then .under else .qualifying
  | .healthy =>
    if v < Config.presence then .absent else if v ≤ c.hardFloor then .under
    else if v < c.softFloor then .low else .healthy
  | .low =>
    if v < Config.presence then .absent else if v ≤ c.hardFloor then .under
    else if c.softFloor + Config.lowHysteresis ≤ v then .healthy else .low
  | .under =>
    if v < Config.presence then .absent
    else if c.hardFloor + Config.underHysteresis < v then .qualifying else .under

/-- The sample completion of a source channel reaches the selector (R1, R8, R30). -/
def selectorSample (x : Source) (s : State) : State :=
  if s.sel.loaded then
    let s1 := changeSource x (grade (s.source x).config (s.source x).state (s.voltage x)) s
    if s.sel.settings.mode = .drain ∧ x ≠ .sd then evaluate s1 else s1
  else s

/-- R4: an enable takes effect on a source's state. -/
def applyEnable (x : Source) (on : Bool) (s : State) : State :=
  let s0 := s.setSource x { (s.source x) with config := { (s.source x).config with enable := on } }
  if on then
    if (s.source x).state = .disabled then
      let s1 := changeSource x .absent s0
      if (s.source x).comparator then changeSource x .over s1 else s1
    else s0
  else changeSource x .disabled s0

/-! ## Meanings of the selector's events -/

/-- R2: the source is in QUALIFYING and its qualify timer has reached 0. -/
def SourceRec.qualified (r : SourceRec) : Bool := r.state == .qualifying && r.qualify == some 0

/-- QUALIFY_EXPIRY (R2): the source goes to HEALTHY or LOW. -/
def execQualifyExpiry (x : Source) (s : State) : Host.Outcome State Fault Refusal :=
  .next <|
    if s.sel.loaded ∧ (s.source x).qualified then
      changeSource x (if (s.source x).config.softFloor ≤ s.voltage x then .healthy else .low) s
    else s

/-- COMPARATOR_ASSERTS (R3, R17). -/
def execComparatorAsserts (x : Source) (s : State) : Host.Outcome State Fault Refusal :=
  let s1 := s.setSource x { (s.source x) with comparator := true }
  .next (if s.sel.loaded ∧ (s.source x).state ≠ .disabled then changeSource x .over s1 else s1)

/-- COMPARATOR_RELEASES (R3, R17). -/
def execComparatorReleases (x : Source) (s : State) : Host.Outcome State Fault Refusal :=
  let s1 := s.setSource x { (s.source x) with comparator := false }
  .next (if s.sel.loaded ∧ (s.source x).state = .over then changeSource x .qualifying s1 else s1)

/-- R13: the end of a changeover whose target is usable. When the flag clears, switches in DUE re-close (R47). -/
def closeChangeover (t : Source) (s : State) : State :=
  let left := s.sel.active
  let s1 := dueReclose (((driveSel t true s).setActive (some t)).setChangeover none)
  evaluate (postActive left (postSourceState t (sendEvent .changeoverEnd s1)))

/-- R13: the end of a changeover whose target is not usable and no source is left. -/
def failChangeover (s : State) : State :=
  let left := s.sel.active
  let s1 := dueReclose ((s.setActive none).setChangeover none)
  postActive left (sendEvent .noSource s1)

/-- R13: the 3 ms of a changeover to `t` have run out: the target is closed if it is usable; else the changeover is
continued to the selection result with the reference taken as NONE; else the active source becomes NONE. -/
def finishChangeover (t : Source) (s : State) : State :=
  if s.usable t then closeChangeover t s
  else
    match selection none s with
    | some u => s.setChangeover (some ⟨u, Config.changeoverTime⟩)
    | none => failChangeover s

/-- CHANGEOVER_END (R13): the time remaining of the changeover in progress has reached 0. -/
def execChangeoverEnd (s : State) : Host.Outcome State Fault Refusal :=
  .next <|
    match s.sel.changeover with
    | none => s
    | some c => if c.remaining = 0 then finishChangeover c.target s else s

end Sys2Proof.Machine
end

