-- ==== Sys2Proof/Machine/Sensing.lean ====
section
/-! DEFINITION. Chapter 2: the sense unit. Gain choice (R25), conversions (R20), the filter (R26, R27), the marks (R21,
R24) and the MEASURE entries (R32). -/

namespace Sys2Proof.Machine

/-! ## Gain (R25) -/

/-- Table 2-4: the full scale of a gain, in mA. -/
def fullScale (g : Gain) : Nat := currentOf g 4095

/-- R25: the highest gain whose full scale is at or above the trip current. -/
def gainFor (trip : Nat) : Gain :=
  if trip ≤ fullScale .g16 then .g16 else if trip ≤ fullScale .g8 then .g8
  else if trip ≤ fullScale .g4 then .g4 else .g2

/-- A conversion at the pending gain is under way on the channel (R25). -/
def State.seedingUnderWay (s : State) (ch : SenseChannel) : Bool :=
  match s.sense.converting with
  | none => false
  | some c => c.channel == ch && c.gain != (s.sample ch).gain

/-- R25: the gain chosen is taken as the pending gain, unless it is the gain in force. -/
def ChannelRec.choose (g : Gain) (r : ChannelRec) : ChannelRec :=
  { r with pendingGain := if r.gain = some g then none else some g }

/-- R25: the gain of a port's channel is chosen from the trip current the port now has. -/
def chooseGain (p : Port) (s : State) : State :=
  if s.seedingUnderWay (portChannel p) then s
  else s.setSample (portChannel p) ((s.sample (portChannel p)).choose (gainFor (s.cfg p).tripCurrent))

/-! ## Completions (R20) -/

/-- The gain a conversion that starts now is made at: the pending gain if there is one (R25). -/
def ChannelRec.nextGain (r : ChannelRec) : Option Gain := if r.pendingGain.isSome then r.pendingGain else r.gain

/-- R20: the conversion under way, if it is on the channel. -/
def State.conversionOn (s : State) (ch : SenseChannel) : Option Conversion :=
  s.sense.converting.filter (fun c => c.channel == ch)

/-- R20 steps 1 to 3: the record of a channel after a completion with code `code` at gain `g`; `settled` says that the
changeover flag is clear. -/
def ChannelRec.complete (code : BitVec 12) (g : Option Gain) (settled : Bool) (r : ChannelRec) : ChannelRec :=
  { r with
    raw := code
    settled := settled
    saturated := r.gain.isSome && code == 4095#12
    acc := if r.seeded = false ∨ r.gain ≠ g then 8 * code.toNat else r.acc - r.acc / 8 + code.toNat
    seeded := true
    gain := g
    pendingGain := if r.gain = g then r.pendingGain else none }

/-- The port of a port current channel. -/
def channelPort (ch : SenseChannel) : Option Port :=
  if h : 4 ≤ ch.val ∧ ch.val < 12 then some ⟨ch.val - 4, by omega⟩ else none

/-- The source of a source voltage channel. -/
def channelSource (ch : SenseChannel) : Option Source :=
  if ch.val = 0 then some .sa else if ch.val = 1 then some .sb else if ch.val = 2 then some .sd else none

/-- R25: after the seeding completion of a gain change the gain of a port channel is chosen again. -/
def rechooseGain (ch : SenseChannel) (changed : Bool) (s : State) : State :=
  match channelPort ch with
  | none => s
  | some p => if changed then chooseGain p s else s

/-- R20: the sense unit's part of the completion of a conversion made at gain `g`. -/
def completeSample (ch : SenseChannel) (code : BitVec 12) (g : Option Gain) (s : State) : State :=
  let s1 := s.setSample ch ((s.sample ch).complete code g (!s.changeoverFlag))
  rechooseGain ch ((s.sample ch).gain != g) { s1 with sense := { s1.sense with converting := none } }

/-- The channel after `ch` in the round of R20. -/
def followingChannel (ch : SenseChannel) : SenseChannel := if h : ch.val < 12 then ⟨ch.val + 1, by omega⟩ else 0

/-- R20: the round has come to the channel, and no conversion is under way. -/
def Sense.mayStart (x : Sense) (ch : SenseChannel) : Bool := x.converting.isNone && x.nextChannel == ch

/-- R20, R25: a conversion starts on a channel, at the pending gain if there is one. -/
def startConversion (ch : SenseChannel) (s : State) : State :=
  { s with
    sense := { s.sense with converting := some ⟨ch, (s.sample ch).nextGain⟩, nextChannel := followingChannel ch } }

/-- CONVERSION_START (R20, R25, R33). The channels are converted in the order of Table 2-1, one at a time, and none while
a reset is held. -/
def execConversionStart (ch : SenseChannel) (s : State) : Host.Outcome State Fault Refusal :=
  .next (if !s.resetHeld && s.sense.mayStart ch then startConversion ch s else s)

/-! ## MEASURE (R32) -/

/-- R32: the derived power of an entry; 0 for a voltage channel. -/
def State.entryPower (s : State) (ch : SenseChannel) : Nat :=
  if (s.sample ch).gain.isSome then s.channelPower ch else 0

/-- 12.3: the 14 bytes of a MEASURE entry. -/
def measureEntry (s : State) (ch : SenseChannel) : List Byte :=
  let r := s.sample ch
  [byte ch.val] ++ leBytes 2 r.raw.toNat ++ leBytes 2 r.filtered ++
    [flagByte r.settled, flagByte r.seeded, flagByte r.saturated, byte (gainValue r.gain),
      byte (gainValue r.pendingGain)] ++ leBytes 4 (s.entryPower ch)

/-- A channel number of MEASURE. -/
def channelOfCode (x : Nat) : Option SenseChannel := if h : x < 13 then some ⟨x, h⟩ else none

/-- The thirteen sense channels in order. -/
def allSenseChannels : List SenseChannel := [0, 1, 2, 3, 4, 5, 6, 7, 8, 9, 10, 11, 12]

/-- R32: MEASURE of one channel or of all. -/
def doMeasure (tag : Byte) (pl : List Byte) (s : State) : State :=
  if byteAt pl 0 = 0xFF then reply .measure tag .ok (allSenseChannels.flatMap (measureEntry s)) s
  else
    match channelOfCode (byteAt pl 0) with
    | some ch => reply .measure tag .ok (measureEntry s ch) s
    | none => reply .measure tag .badValue [] s

end Sys2Proof.Machine
end

