-- ==== Sys2Proof/Machine/Requests.lean ====
section
/-! DEFINITION. Chapters 4 and 5: the events the allocation engine handles. Requests and releases (R69 to R72), faults
(R78, R79), overdraw (R82, R83), the selector's events (R80, R81, R103), timers (R93, R101), and the accessory records
(R71). -/

namespace Sys2Proof.Machine

/-! ## Requests (R70, R102) -/

/-- R69: the request as cut to the cap. -/
def cutTo (cap asked : Nat) : Nat := min asked cap

/-- R69: the request is above the cap. -/
def overCap (cap asked : Nat) : Bool := cap < asked

/-- R70: committed power has room for the increase of a port's grant to `req`. -/
def State.roomFor (s : State) (p : Port) (req : Nat) : Bool :=
  s.committed + (req - (s.port p).grant) ≤ s.engine.envelope

/-- R102: a request cut to 0 mW takes a port outside the granted list to OFF. -/
def emptyRequest (p : Port) (s : State) : State :=
  opportunity ((s.mapPort p fun r =>
    { r with alloc := .off, request := 0, origin := none, reason := none, clamped := true }).mapEngine
      (fun e => { e with queue := without p e.queue }))

/-- Table 4-8, state OFF. -/
def requestOff (p : Port) (req : Nat) (cut : Bool) (o : Origin) (s : State) : State :=
  if req = 0 then emptyRequest p s
  else
    opportunity (enterWaiting p (s.mapPort p (fun r => { r with request := req, clamped := cut, origin := some o })))

/-- Table 4-8, states WAITING and SHED. -/
def requestQueued (p : Port) (req : Nat) (cut : Bool) (o : Origin) (s : State) : State :=
  if req = 0 then emptyRequest p s
  else opportunity (s.mapPort p (fun r => { r with request := req, clamped := cut, origin := some o }))

/-- Table 4-8, states STARTING, HELD and ON. An increase that does not fit changes the origin alone (log entry 15). -/
def requestGranted (p : Port) (req : Nat) (cut : Bool) (o : Origin) (s : State) : State :=
  let taken := s.mapPort p fun r => { r.withGrant req with request := req, clamped := cut, origin := some o }
  if req < (s.port p).grant then opportunity taken
  else if req = (s.port p).grant ∨ s.roomFor p req then taken
  else s.mapPort p (fun r => { r with origin := some o })

/-- R70: the effect of an accepted request of `asked` mW. -/
def acceptRequest (p : Port) (asked : Nat) (o : Origin) (s : State) : State :=
  let req := cutTo (s.cfg p).cap asked
  let cut := overCap (s.cfg p).cap asked
  match s.alloc p with
  | .off => requestOff p req cut o s
  | .waiting => requestQueued p req cut o s
  | .shed => requestQueued p req cut o s
  | .starting => requestGranted p req cut o s
  | .held => requestGranted p req cut o s
  | .on => requestGranted p req cut o s
  | .shedding => s
  | .faulted => s

/-- Table 4-8: the result code of an accepted PORT_REQUEST, from the states before and after the handling. -/
def requestResult (p : Port) (asked : Nat) (before after : State) : Result :=
  let req := cutTo (before.cfg p).cap asked
  let cut := overCap (before.cfg p).cap asked
  if (before.alloc p).granted then
    if req ≤ (before.port p).grant ∨ before.roomFor p req then okOr cut else .noHeadroom
  else if req = 0 then .okClamped
  else if before.alloc p = .off ∧ (after.alloc p).granted then okOr cut
  else .queued

/-! ## Releases (R72) -/

/-- R72: the port goes to OFF. -/
def goOff (p : Port) (s : State) : State :=
  let s1 := s.mapPort p fun r =>
    { r with alloc := .off, grant := 0, request := 0, reason := none, grace := none, overdraw := 0 }
  switchOff p (s1.mapEngine (fun e => e.leaveLists p))

/-- R72: the release of a port in WAITING, STARTING, HELD, ON, SHEDDING or SHED. -/
def release (p : Port) (s : State) : State :=
  if (s.alloc p).granted then inOneStep (fun s => opportunity (dropDependants p (goOff p s))) s else goOff p s

/-- R71, R72: a release from the accessory or the host: nothing for a port in OFF or FAULTED. -/
def releaseIfHeld (p : Port) (s : State) : State :=
  match s.alloc p with
  | .off => s
  | .faulted => s
  | .waiting => release p s
  | .starting => release p s
  | .held => release p s
  | .on => release p s
  | .shedding => release p s
  | .shed => release p s

/-! ## Reports (R78, R79) -/

/-- R78: a port in STARTING or HELD goes to ON. -/
def startCompletes (p : Port) (s : State) : State :=
  opportunity ((s.mapPort p (fun r => { r with alloc := .on, overdraw := 0 })).mapEngine (fun e => e.freeSlot p))

/-- R78, R79: the port record and the lists at a fault. -/
def goFaulted (p : Port) (s : State) : State :=
  let s1 := s.mapPort p fun r =>
    { r with alloc := .faulted, grant := 0, request := 0, reason := none, grace := none, overdraw := 0 }
  switchOff p (s1.mapEngine (fun e => e.leaveGranted p))

/-- R78, R79: a port of the granted list goes to FAULTED. -/
def faultPort (p : Port) (s : State) : State := inOneStep (fun s => opportunity (dropDependants p (goFaulted p s))) s

/-- R78: the switch is in CLOSED or COOLING, as a start complete needs. -/
def SwitchState.started : SwitchState → Bool
  | .closed _ => true
  | .cooling _ _ => true
  | .opened => false
  | .ramping _ _ => false
  | .paused _ _ => false

/-- R78: the switch is OPEN. -/
def SwitchState.isOpen : SwitchState → Bool
  | .opened => true
  | .closed _ => false
  | .cooling _ _ => false
  | .ramping _ _ => false
  | .paused _ _ => false

/-- R78: a start complete is taken. -/
def takeStartComplete (p : Port) (s : State) : State :=
  if (s.switch p).state.started ∧ (s.alloc p).slotted then startCompletes p s else s

/-- R78: a start fail is taken. -/
def takeStartFail (p : Port) (s : State) : State :=
  if (s.switch p).state.isOpen ∧ (s.alloc p).slotted then faultPort p s else s

/-- R79: a trip report with outcome OPENED or a retry limit report is taken. -/
def takeOpened (p : Port) (s : State) : State :=
  if (s.switch p).state.isOpen ∧ (s.alloc p).granted then faultPort p s else s

/-- R79: a trip report is taken. HELD_CLOSED and COOLING change nothing in the engine. -/
def takeTrip (p : Port) (o : TripOutcome) (s : State) : State :=
  match o with
  | .heldClosed => s
  | .cooling => s
  | .opened => takeOpened p s

/-- The reports of a switch that the engine has not taken. -/
def State.reportsOf (s : State) (p : Port) : List Report := tget s.reports p

def State.setReports (s : State) (p : Port) (l : List Report) : State := { s with reports := tput s.reports p l }

/-! ## Overdraw (R82, R83) -/

/-- R82: the tolerance over a grant. -/
def tolerance (grant : Nat) : Nat := max (grant / 8) 500

/-- R83: the power rounded up to a multiple of 250 mW, at most 250,000 mW. -/
def regrantPower (power : Nat) : Nat := min Config.powerLimit ((power + 249) / 250 * 250)

/-- R83: the port is regranted. -/
def regrant (p : Port) (g : Nat) (s : State) : State :=
  s.mapPort p (fun r => { r with grant := g, request := g, clamped := false, overdraw := 0 })

/-- R83: an overdraw is resolved. -/
def resolveOverdraw (p : Port) (power : Nat) (s : State) : State :=
  let g := regrantPower power
  if s.committed - (s.port p).grant + g ≤ s.engine.envelope then regrant p g s
  else if s.essential p then shedCheck 8 (regrant p g s)
  else startHold (shed .overdraw p s)

/-- R82: a settled sample of a port channel, with power `power`. -/
def overdrawSample (p : Port) (power : Nat) (s : State) : State :=
  if s.alloc p = .on then
    if (s.port p).grant + tolerance (s.port p).grant < power then
      if (s.port p).overdraw + 1 = Config.overdrawLimit then
        (resolveOverdraw p power s).mapPort p (fun r => { r with overdraw := 0 })
      else s.mapPort p (fun r => { r with overdraw := r.overdraw + 1 })
    else s.mapPort p (fun r => { r with overdraw := 0 })
  else s

/-! ## Selector events (R80, R81, R103) -/

/-- R80: a port in STARTING goes to HELD with a pause order. -/
def holdPort (p : Port) (s : State) : State :=
  if s.alloc p = .starting then pauseSwitch p (s.mapPort p (fun r => { r with alloc := .held })) else s

/-- R80: the changeover begin event. -/
def beginHold (s : State) : State :=
  if s.engine.held then s
  else forEach allPorts holdPort (s.mapEngine (fun e => { e with held := true }))

/-- R81: a port in HELD goes to STARTING with a resume order. -/
def resumePort (p : Port) (s : State) : State :=
  if s.alloc p = .held then resumeSwitch p (s.mapPort p (fun r => { r with alloc := .starting })) else s

/-- R81: the changeover end event. -/
def endHold (s : State) : State :=
  opportunity (recompute (forEach allPorts resumePort (s.mapEngine (fun e => { e with held := false }))))

/-- R103: the no-source event. -/
def noSource (s : State) : State :=
  let s1 := s.mapEngine (fun e => { e with held := false, envelope := 0 })
  opportunity (startHold (inOneStep (fun s => forEach s.engine.granted.reverse (dropToShed .noSource) s) s1))

/-- R64, R88: the engine takes an event at the head of what the selector sent, but not in INIT. -/
def takeEvent (e : SelEvent) (f : State → State) (s : State) : State :=
  match s.selEvents with
  | [] => s
  | h :: rest =>
    if h = e ∧ s.mode ≠ .init ∧ s.resetHeld = false then
      let s0 := { s with selEvents := rest }
      finish s0 (f s0)
    else s

/-- CHANGEOVER_BEGIN_EVENT (R80). -/
def execChangeoverBeginEvent (s : State) : Host.Outcome State Fault Refusal := .next (takeEvent .changeoverBegin beginHold s)

/-- CHANGEOVER_END_EVENT (R81). -/
def execChangeoverEndEvent (s : State) : Host.Outcome State Fault Refusal := .next (takeEvent .changeoverEnd endHold s)

/-- NO_SOURCE_EVENT (R103). -/
def execNoSourceEvent (s : State) : Host.Outcome State Fault Refusal := .next (takeEvent .noSource noSource s)

/-! ## Timers -/

/-- GRACE_EXPIRY (R93): the grace of a port in SHEDDING has reached 0. -/
def execGraceExpiry (p : Port) (s : State) : Host.Outcome State Fault Refusal :=
  .next <|
    if s.alloc p = .shedding ∧ (s.port p).grace = some 0 then
      finish s (inOneStep (dropTree ((s.port p).reason.getD .envelope) p) s)
    else s

/-- RESTORE_HOLD_EXPIRY (R101): the hold stops when its time remaining has reached 0. One that a shed of the same moment
has restarted at its full time has not. -/
def execRestoreHoldExpiry (s : State) : Host.Outcome State Fault Refusal :=
  .next <|
    if s.engine.restoreHold = some 0 then
      finish s (opportunity (s.mapEngine (fun e => { e with restoreHold := none })))
    else s

/-! ## Reports taken -/

/-- R52: the engine takes the oldest report of a switch. -/
def takeReport (p : Port) (rest : List Report) (f : State → State) (s : State) : State :=
  let s0 := s.setReports p rest
  finish s0 (f s0)

/-- START_COMPLETE (R78). -/
def execStartComplete (p : Port) (s : State) : Host.Outcome State Fault Refusal :=
  .next <|
    match s.reportsOf p with
    | .startComplete :: rest => takeReport p rest (takeStartComplete p) s
    | .startFail _ :: _ => s
    | .trip _ _ :: _ => s
    | .retryLimit :: _ => s
    | [] => s

/-- START_FAIL (R78). -/
def execStartFail (p : Port) (s : State) : Host.Outcome State Fault Refusal :=
  .next <|
    match s.reportsOf p with
    | .startFail _ :: rest => takeReport p rest (takeStartFail p) s
    | .startComplete :: _ => s
    | .trip _ _ :: _ => s
    | .retryLimit :: _ => s
    | [] => s

/-- TRIP (R79). -/
def execTrip (p : Port) (s : State) : Host.Outcome State Fault Refusal :=
  .next <|
    match s.reportsOf p with
    | .trip _ o :: rest => takeReport p rest (takeTrip p o) s
    | .startComplete :: _ => s
    | .startFail _ :: _ => s
    | .retryLimit :: _ => s
    | [] => s

/-- RETRY_LIMIT (R79). -/
def execRetryLimit (p : Port) (s : State) : Host.Outcome State Fault Refusal :=
  .next <|
    match s.reportsOf p with
    | .retryLimit :: rest => takeReport p rest (takeOpened p) s
    | .startComplete :: _ => s
    | .startFail _ :: _ => s
    | .trip _ _ :: _ => s
    | [] => s

/-! ## Accessory records (R71) -/

/-- R71: a request from a record under the ACCESSORY policy. -/
def recordRequest (p : Port) (power : Nat) (s : State) : State :=
  match (s.cfg p).policy with
  | .link => s
  | .accessory => if power = 0 then releaseIfHeld p s else acceptRequest p power .accessory s

/-- R71: the effect of a record. -/
def actOnRecord (p : Port) (r : AccRecord) (s : State) : State :=
  match r with
  | .announce t w i => recordRequest p w.toNat (s.mapPort p (fun r => { r with identity := some ⟨t, i⟩ }))
  | .request w => recordRequest p w.toNat s

/-- The records of a port that the engine has not taken. -/
def State.recordsOf (s : State) (p : Port) : List AccRecord := tget s.records p

def State.setRecords (s : State) (p : Port) (l : List AccRecord) : State := { s with records := tput s.records p l }

/-- R129: a record can reach the engine: the line is on, and the chip is out of INIT, where no record arrives (R112). -/
def State.recordsArrive (s : State) (p : Port) : Bool := (s.line p).isOn && s.mode != .init

/-- R64, R71: the engine takes a record. One that heads the port's inbox is taken from it; one that is not waiting there is
handed over now, which needs the line on, and waits behind those that are (log entry 10). R71 says that records reach the
engine only while the port's line is enabled, and not what becomes of one that was handed over before the line was disabled
or went OFF and has not been taken: the model lets the engine take it (DESIGN CHOICE, log entry 47). -/
def takeRecord (p : Port) (r : AccRecord) (s : State) : State :=
  match s.recordsOf p with
  | [] => if s.recordsArrive p then finish s (actOnRecord p r s) else s
  | h :: rest =>
    if h = r ∧ s.mode ≠ .init then
      let s0 := s.setRecords p rest
      finish s0 (actOnRecord p r s0)
    else if s.recordsArrive p then handRecord p r s else s

/-- ANNOUNCE (R71, R129). -/
def execAnnounce (p : Port) (typeCode : Byte) (power : BitVec 16) (identity : Vector Byte 8) (s : State) :
    Host.Outcome State Fault Refusal :=
  .next (takeRecord p (.announce typeCode power identity) s)

/-- REQUEST (R71, R129). -/
def execRequest (p : Port) (power : BitVec 16) (s : State) : Host.Outcome State Fault Refusal :=
  .next (takeRecord p (.request power) s)

/-! ## Sample completions (R20, R30, R31) -/

/-- R31: the completion is of the active source's channel, of V_BUS or of I_BODY. -/
def State.envelopeChannel (s : State) (ch : SenseChannel) : Bool :=
  ch == busChannel || ch == bodyChannel ||
    (match s.sel.active with
      | none => false
      | some x => ch == sourceChannel x)

/-- R65: the completion recomputes the envelope: it is settled, held is no, the engine is out of INIT, and no event of the
selector is still to be taken (log entry 11). -/
def State.recomputes (s : State) (ch : SenseChannel) : Bool :=
  (s.sample ch).settled && !s.engine.held && s.mode != .init && s.selEvents.isEmpty && s.envelopeChannel ch

/-- R65, R80, R82: what the engine does with a completion. While held is yes overdraw does not count. -/
def engineSample (ch : SenseChannel) (s : State) : State :=
  match channelPort ch with
  | some p =>
    if (s.sample ch).settled ∧ s.engine.held = false ∧ s.mode ≠ .init then
      finish s (overdrawSample p (s.portPower p) s)
    else s
  | none => if s.recomputes ch then finish s (recompute s) else s

/-- R30: what the selector does with a completion. -/
def selectorPart (ch : SenseChannel) (s : State) : State :=
  match channelSource ch with
  | none => s
  | some x => selectorSample x s

/-- A completion as all its consumers take it; section 11.2 leaves the order of the selector and the engine open. -/
def takeSample (ch : SenseChannel) (selectorFirst : Bool) (s : State) : State :=
  if selectorFirst then engineSample ch (selectorPart ch s) else selectorPart ch (engineSample ch s)

/-- SAMPLE_COMPLETION (R20): the conversion under way on the channel ends. One that a POR or pin reset has discarded (R33)
does not. -/
def execSampleCompletion (ch : SenseChannel) (code : BitVec 12) (selectorFirst : Bool) (s : State) :
    Host.Outcome State Fault Refusal :=
  .next <|
    match s.conversionOn ch with
    | none => s
    | some c => takeSample ch selectorFirst (completeSample ch code c.gain s)

end Sys2Proof.Machine
end

