-- ==== Sys2Proof/Machine/Ports.lean ====
section
/-! DEFINITION. The commands of the allocation engine: PORT_REQUEST (R69), PORT_RELEASE (R72), PORT_CLEAR (R54, R73),
SET_ENVELOPE (R68), PORT_CONFIGURE (R84, R85), PORT_QUERY (R86) and ALLOC_QUERY (R87), after the decoder's checks. -/

namespace Sys2Proof.Machine

/-! ## PORT_REQUEST -/

/-- R69: the fields of every PORT_REQUEST reply of a valid port. -/
def requestFields (p : Port) (s : State) : List Byte :=
  [flagByte (s.port p).clamped, byte (s.alloc p).code] ++ leBytes 4 (s.port p).grant

/-- A PORT_REQUEST reply. -/
def replyRequest (p : Port) (tag : Byte) (r : Result) (s : State) : State :=
  reply .portRequest tag r (requestFields p s) s

/-- R69 checks 3 to 5, then R70. -/
def requestFor (p : Port) (tag : Byte) (asked : Nat) (s : State) : State :=
  if asked = 0 then replyRequest p tag .badValue s
  else if (s.cfg p).policy = .accessory ∨ s.alloc p = .faulted then replyRequest p tag .conflict s
  else if s.alloc p = .shedding then replyRequest p tag .busy s
  else
    let s1 := finish s (acceptRequest p asked .link s)
    replyRequest p tag (requestResult p asked s s1) s1

/-- PORT_REQUEST (R69). -/
def doPortRequest (tag : Byte) (pl : List Byte) (s : State) : State :=
  match portOfCode (byteAt pl 0) with
  | none => reply .portRequest tag .badValue (List.replicate 6 0) s
  | some p => requestFor p tag (fieldAt pl 1 4) s

/-! ## PORT_RELEASE -/

/-- R72 for a port number in range. -/
def releaseFor (p : Port) (tag : Byte) (s : State) : State :=
  if s.enforced ∧ s.protectedPort p then reply .portRelease tag .protected_ [] s
  else if s.alloc p = .faulted then reply .portRelease tag .conflict [] s
  else reply .portRelease tag .ok [] (finish s (releaseIfHeld p s))

/-- PORT_RELEASE (R72). -/
def doPortRelease (tag : Byte) (pl : List Byte) (s : State) : State :=
  match portOfCode (byteAt pl 0) with
  | none => reply .portRelease tag .badValue [] s
  | some p => releaseFor p tag s

/-! ## PORT_CLEAR -/

/-- R73: the engine acts on the clear. -/
def clearFaulted (p : Port) (s : State) : State :=
  if s.alloc p = .faulted then
    s.mapPort p (fun r => { r with alloc := .off, request := 0, grant := 0, origin := none })
  else s

/-- R54 for a port number in range. -/
def clearFor (p : Port) (tag : Byte) (s : State) : State :=
  if s.enforced ∧ s.protectedPort p then reply .portClear tag .protected_ [] s
  else reply .portClear tag .ok [] (finish s (clearFaulted p (clearFaults p s)))

/-- PORT_CLEAR (R54, R73). -/
def doPortClear (tag : Byte) (pl : List Byte) (s : State) : State :=
  match portOfCode (byteAt pl 0) with
  | none => reply .portClear tag .badValue [] s
  | some p => clearFor p tag s

/-! ## SET_ENVELOPE -/

/-- R68: the three values as clamped and rounded. -/
def storeAllocSettings (b : List Byte) (s : State) : State :=
  s.mapEngine fun e =>
    { e with
      bodyReserve := bodyReserveField.get b
      restoreMargin := restoreMarginField.get b
      restoreHoldTime := restoreHoldField.get b }

/-- SET_ENVELOPE (R68). -/
def doSetEnvelope (tag : Byte) (pl : List Byte) (s : State) : State :=
  if s.enforced then reply .setEnvelope tag .protected_ [] s
  else
    reply .setEnvelope tag (okOr (allocNumbersChanged pl)) []
      (finish s (recomputeUnlessHeld (storeAllocSettings pl s)))

/-! ## PORT_CONFIGURE -/

/-- R84, R108: following parents from `q` for `n` steps leads to `target`. -/
def leadsTo (parent : Port → Option Port) (target : Port) : Nat → Port → Bool
  | 0, _ => false
  | n + 1, q =>
    match parent q with
    | none => false
    | some r => r == target || leadsTo parent target n r

/-- The live parents. -/
def State.parentOf (s : State) (p : Port) : Option Port := (s.cfg p).parent

/-- R84 check 4: the parent is the port itself, or its chain of parents leads back to the port. -/
def State.parentCloses (s : State) (p : Port) (parent : Option Port) : Bool :=
  match parent with
  | none => false
  | some q => q == p || leadsTo s.parentOf p 8 q

/-- R84, R123, R134, R135: the line takes its rate and its enable. The manual does not order the two: the model sets the
rate first, so the enable break of a line that was OFF runs at the new rate (DESIGN CHOICE, log entry 42). -/
def applyLineConfig (p : Port) (c : PortConfig) (s : State) : State :=
  let s1 := setLineRate p c.lineRate s
  if s1.linesOn then if c.lineEnable then turnOnLine p s1 else turnOffLine p s1 else s1

/-- R84, R145: a disabled line clears the accessory identity and the port's records in the pool. -/
def applyDisable (p : Port) (c : PortConfig) (s : State) : State :=
  if c.lineEnable then s else poolClear p (s.mapPort p (fun r => { r with identity := none }))

/-- R84: the fields are stored and handed to the switch, the sense unit and the line. -/
def storeConfig (p : Port) (c : PortConfig) (s : State) : State :=
  let old := s.cfg p
  let s1 := s.mapPort p (fun r => { r with config := c })
  applyDisable p c (applyLineConfig p c (chooseGain p (reconfigureSwitch p old s1)))

/-- R85 step 1 with R102: the request is cut to a lower cap. -/
def applyCap (p : Port) (s : State) : State :=
  if (s.cfg p).cap < (s.port p).request then
    if (s.cfg p).cap = 0 ∧ (s.alloc p).queued then emptyRequest p s
    else
      let lowered := (s.alloc p).granted && decide ((s.cfg p).cap < (s.port p).grant)
      let s1 := s.mapPort p fun r =>
        { r.withGrant (if lowered then (s.cfg p).cap else r.grant) with request := (s.cfg p).cap, clamped := true }
      if lowered then opportunity s1 else s1
  else s

/-- R85 step 2: a port of the queue whose key changed is inserted again. -/
def applyKey (p : Port) (old : PortConfig) (s : State) : State :=
  if keyOf old ≠ s.key p ∧ (s.alloc p).queued then
    s.mapEngine (fun e => { e with queue := insertAfter s.key p (without p e.queue) })
  else s

/-- R107: the effect of a new parent on a port of the granted list. -/
def applyParent (p : Port) (old : PortConfig) (s : State) : State :=
  if old.parent ≠ (s.cfg p).parent ∧ (s.alloc p).granted then
    match (s.cfg p).parent with
    | none => s
    | some q =>
      match s.alloc q with
      | .on => s
      | .shedding => shed .dependency p s
      | .off => inOneStep (dropTree .dependency p) s
      | .waiting => inOneStep (dropTree .dependency p) s
      | .starting => inOneStep (dropTree .dependency p) s
      | .held => inOneStep (dropTree .dependency p) s
      | .shed => inOneStep (dropTree .dependency p) s
      | .faulted => inOneStep (dropTree .dependency p) s
  else s

/-- R85: the effects of the fields now stored; `old` are those they replaced. -/
def applyConfig (p : Port) (old : PortConfig) (s : State) : State :=
  opportunity (shedCheck 8 (applyParent p old (applyKey p old (applyCap p s))))

/-- R84 for a port number in range. -/
def configureFor (p : Port) (tag : Byte) (b : List Byte) (s : State) : State :=
  let c := readPortFields (factoryPort p) b
  if portCodesValid b = false then reply .portConfigure tag .badValue [] s
  else if s.enforced ∧ s.protectedPort p then reply .portConfigure tag .protected_ [] s
  else if s.parentCloses p c.parent then reply .portConfigure tag .conflict [] s
  else
    reply .portConfigure tag (okOr (portNumbersChanged b)) []
      (finish s (applyConfig p (s.cfg p) (storeConfig p c s)))

/-- PORT_CONFIGURE (R84, R85). -/
def doPortConfigure (tag : Byte) (pl : List Byte) (s : State) : State :=
  match portOfCode (byteAt pl 0) with
  | none => reply .portConfigure tag .badValue [] s
  | some p => configureFor p tag (pl.drop 1) s

/-! ## Queries -/

/-- The place of a port in a list, 0xFF for none. -/
def placeIn (l : List Port) (p : Port) : Byte :=
  match l.findIdx? (fun q => q == p) with
  | some i => byte i
  | none => 0xFF

/-- R86: the list a port stands in and its place: 0 none, 1 admission queue, 2 granted list. -/
def listFields (e : Engine) (p : Port) : List Byte :=
  if e.queue.contains p then [1, placeIn e.queue p]
  else if e.granted.contains p then [2, placeIn e.granted p]
  else [0, 0xFF]

/-- R62: the port holds a start slot. -/
def Engine.holdsSlot (e : Engine) (p : Port) : Bool := e.slot0 == some p || e.slot1 == some p

/-- R86: the accessory identity, 0 when absent. -/
def identityFields : Option Identity → List Byte
  | none => List.replicate 10 0
  | some i => 1 :: i.typeCode :: i.bytes.toList

/-- Table 12-7: the 54 bytes after the result code. -/
def queryFields (p : Port) (s : State) : List Byte :=
  let r := s.port p
  let w := s.switch p
  let l := s.line p
  [byte p.val] ++ writePortFields r.config ++ [byte r.alloc.code] ++ leBytes 4 r.request ++ leBytes 4 r.grant ++
    [byte (originCode r.origin), byte (reasonCode r.reason), flagByte r.clamped, byte r.overdraw] ++
    leBytes 2 (millis (r.grace.getD 0)) ++ identityFields r.identity ++
    [byte w.state.code, byte w.retry, byte w.lastFault.code, byte w.tripCount] ++ listFields s.engine p ++
    [flagByte (s.engine.holdsSlot p), byte l.lastEvent.code, flagByte l.noiseSeen, byte (s.pool.held p)]

/-- R86, R137: the line status has been read. -/
def LineRec.statusRead (l : LineRec) : LineRec := { l with lastEvent := .none, noiseSeen := false }

/-- PORT_QUERY (R86). -/
def doPortQuery (tag : Byte) (pl : List Byte) (s : State) : State :=
  match portOfCode (byteAt pl 0) with
  | none => reply .portQuery tag .badValue [] s
  | some p => reply .portQuery tag .ok (queryFields p s) (s.setLine p (s.line p).statusRead)

/-- R87: one entry of the admission queue. -/
def queueEntry (s : State) (p : Port) : List Byte :=
  let r := s.port p
  [byte p.val, byte r.alloc.code, byte r.config.cls.code, byte r.config.rank] ++ leBytes 4 r.request ++
    [byte (reasonCode r.reason)]

/-- R87: one entry of the granted list. -/
def grantedEntry (s : State) (p : Port) : List Byte :=
  [byte p.val, byte (s.alloc p).code] ++ leBytes 4 (s.port p).grant

/-- A start slot, 0xFF when unused. -/
def slotByte : Option Port → Byte
  | none => 0xFF
  | some p => byte p.val

/-- R87: the fields of the ALLOC_QUERY reply. -/
def allocFields (s : State) : List Byte :=
  let e := s.engine
  leBytes 4 e.envelope ++ leBytes 4 s.committed ++ leBytes 4 s.retained ++ leBytes 4 e.bodyReserve ++
    leBytes 4 e.pBody ++ leBytes 4 e.restoreMargin ++ leBytes 2 e.restoreHoldTime ++
    leBytes 2 (millis (e.restoreHold.getD 0)) ++ [flagByte e.overcommit, flagByte e.held] ++
    [byte e.queue.length] ++ e.queue.flatMap (queueEntry s) ++ [byte e.granted.length] ++
    e.granted.flatMap (grantedEntry s) ++ [slotByte e.slot0, slotByte e.slot1]

/-- ALLOC_QUERY (R87). -/
def doAllocQuery (tag : Byte) (s : State) : State := reply .allocQuery tag .ok (allocFields s) s

end Sys2Proof.Machine
end

