-- ==== Sys2Proof/Machine/Modes.lean ====
section
/-! DEFINITION. Chapter 6: mode control. The rails and the lines (R115), SET_MODE (R117 to R120), and the end of INIT
(R113) with what each block does there (R17, R18, R33, R57, R89, R108, R158). -/

namespace Sys2Proof.Machine

/-! ## Rails and lines (R115) -/

/-- R115: the rails are driven, and the line of each port whose line enable is yes is turned on. -/
def turnRailsOn (s : State) : State :=
  forEach allPorts (fun p s => if (s.cfg p).lineEnable then turnOnLine p s else s)
    { s with rails := true, linesOn := true }

/-! ## SET_MODE -/

/-- R119: the ports a change of mode sheds, in order of admission. -/
def State.modeAffected (s : State) (dst : Mode) : List Port :=
  match s.mode, dst with
  | .run, .economy => s.engine.granted.filter (fun p => !s.essential p)
  | .run, .standby => s.engine.granted
  | .economy, .standby => s.engine.granted
  | .run, .run => []
  | .run, .init => []
  | .economy, .init => []
  | .economy, .run => []
  | .economy, .economy => []
  | .standby, _ => []
  | .init, _ => []

/-- R120: the affected ports with their dependants, without those that are MODE-shed already. -/
def State.modeTested (s : State) (dst : Mode) : List Port :=
  (closure s (fun _ => true) s.engine.granted 8 (s.modeAffected dst)).filter
    (fun p => !(s.alloc p == .shedding && (s.port p).reason == some .mode))

/-- R118: the rails at the end of a change of mode. The wind-down posts its own notice (R122). -/
def railsAfter (dst : Mode) (s : State) : Bool := dst != .standby || s.rails

/-- R118: the mode field takes the new value, and a MODE notice is posted as things stand at the end of the handling. -/
def enterMode (dst : Mode) (s : State) : State :=
  postNotice (.mode dst (railsAfter dst s) .setMode) { s with mode := dst }

/-- R118: a mode other than STANDBY has the rails on and gives an admission opportunity. -/
def powerUpMode (dst : Mode) (s : State) : State :=
  if dst = .standby then s else opportunity (if s.rails then s else turnRailsOn s)

/-- R118, R119: an accepted change of mode, as one handling. The ports to shed are chosen by the mode left; the orders
go latest admitted first. -/
def changeMode (dst : Mode) (s : State) : State :=
  let affected := s.modeAffected dst
  finish s (powerUpMode dst
    (inOneStep (fun s => forEach affected.reverse (shedOrder 8 .mode) s) (enterMode dst s)))

/-- R117: the fields of every SET_MODE reply. Table 12-2 gives no code for rails on and off: the model sends 1 and 0, as
for a flag (DESIGN CHOICE, log entry 50). -/
def modeFields (s : State) : List Byte := [byte s.mode.code, flagByte s.rails]

/-- A SET_MODE reply. -/
def replyMode (tag : Byte) (r : Result) (s : State) : State := reply .setMode tag r (modeFields s) s

/-- SET_MODE (R117). -/
def doSetMode (tag : Byte) (pl : List Byte) (s : State) : State :=
  match targetModeOfCode (byteAt pl 0) with
  | none => replyMode tag .badValue s
  | some dst =>
    if s.enforced ∧ (s.modeTested dst).any s.protectedPort then replyMode tag .protected_ s
    else if dst = s.mode then replyMode tag .ok s
    else replyMode tag .ok (changeMode dst s)

/-! ## Loading (R113) -/

/-- The source configuration of a system profile. -/
def SystemProfile.source (x : SystemProfile) : Source → SourceConfig
  | .sa => x.sa
  | .sb => x.sb
  | .sd => x.sd

/-- R17 step 1, R18: a source takes its floors and capacity; its enable is applied apart. -/
def loadSourceNumbers (c : SourceConfig) (r : SourceRec) : SourceRec :=
  { r with config := { c with enable := r.config.enable } }

/-- R17 steps 1 and 2: a source after POR or pin reset takes its configuration and its first state. -/
def firstSource (c : SourceConfig) (r : SourceRec) : SourceRec :=
  { r with config := c, state := if c.enable then .absent else .disabled, qualify := none }

/-- R17 step 3: an enabled source whose comparator is asserted goes to OVER. -/
def firstOver (x : Source) (s : State) : State :=
  if (s.source x).config.enable ∧ (s.source x).comparator then changeSource x .over s else s

/-- R17: the selector's first load after POR or pin reset. Step 3 names no order of the sources that go to OVER: the
model takes SA, SB, SD (DESIGN CHOICE, log entry 27). -/
def loadSelectorFirst (x : SystemProfile) (s : State) : State :=
  let s1 := forEach allSources (fun i s => s.setSource i (firstSource (x.source i) (s.source i)))
    { s with sel := { s.sel with settings := x.settings, loaded := true } }
  evaluate (forEach allSources firstOver s1)

/-- R18: the selector's reload after a link reset. The rule names no order of the three enables, each of which brings its
own evaluation: the model applies SA, SB, SD (DESIGN CHOICE, log entry 27). -/
def loadSelectorAgain (x : SystemProfile) (s : State) : State :=
  let s1 := forEach allSources (fun i s => s.setSource i (loadSourceNumbers (x.source i) (s.source i)))
    { s with sel := { s.sel with settings := x.settings } }
  evaluate (forEach allSources (fun i s => applyEnable i (x.source i).enable s) s1)

/-- R17, R18: the selector takes the system profile. -/
def loadSelector (x : SystemProfile) (s : State) : State :=
  if s.sel.loaded then loadSelectorAgain x s else loadSelectorFirst x s

/-- The slot of a port. -/
def portSlot (p : Port) : Fin 9 := ⟨p.val, by omega⟩

/-- R57, R53, R25, R138: a port takes its profile: the record, the switch, the gain and the line's rate. -/
def loadPort (p : Port) (s : State) : State :=
  let old := s.cfg p
  let c := loadedPort p (tget s.store.slots (portSlot p))
  let s1 := s.mapPort p (fun r => { r with config := c })
  setLineRate p c.lineRate (chooseGain p (reconfigureSwitch p old s1))

/-- R108: a port whose chain of parents leads back to itself loses its parent. -/
def breakCycle (p : Port) (s : State) : State :=
  if leadsTo s.parentOf p 8 p then
    s.mapPort p (fun r => { r with config := { r.config with parent := none } })
  else s

/-- R158: the loaded cold-start requests. -/
def loadedColdStarts (s : State) : Vector Nat 8 :=
  Vector.ofFn (fun p => loadedColdStart (tget s.store.slots (portSlot p)))

/-- R88, R114, R158: the allocation settings, the power-up mode and the cold-start requests. -/
def loadSettings (x : SystemProfile) (s : State) : State :=
  { s with
    powerUp := x.powerUp
    store := { s.store with coldStart := loadedColdStarts s }
    engine :=
      { s.engine with
        bodyReserve := x.bodyReserve
        restoreMargin := x.restoreMargin
        restoreHoldTime := x.restoreHoldTime } }

/-- R89 step 2, R102: the cold start of one port. Where the cap is 0 mW the port stays OFF; the manual does not say whether
the clamped mark is set then, and the model leaves it no (DESIGN CHOICE, log entry 41). -/
def coldStartPort (p : Port) (s : State) : State :=
  let asked := tget s.store.coldStart p
  let req := cutTo (s.cfg p).cap asked
  if req = 0 then s
  else
    enterWaiting p (s.mapPort p fun r =>
      { r with request := req, origin := some .profile, clamped := overCap r.config.cap asked })

/-- R89 step 1: held is read from the changeover flag; otherwise the envelope is recomputed. -/
def firstEnvelope (s : State) : State :=
  if s.changeoverFlag then s.mapEngine (fun e => { e with held := true }) else recompute s

/-- R89: the engine prepares its state; step 3 posts a PORT_STATE notice for each port enqueued. -/
def prepareEngine (s : State) : State :=
  let s1 := forEach allPorts coldStartPort (firstEnvelope s)
  forEach allPorts
    (fun p s => if s.alloc p = .waiting then postNotice (portStateNotice p (s.port p)) s else s) s1

/-- R113 step 1: the blocks apply the loaded configuration. -/
def applyProfiles (s : State) : State :=
  let x := loadedSystem (tget s.store.slots 8)
  let s1 := forEach allPorts loadPort (loadSelector x s)
  prepareEngine (forEach allPorts breakCycle (loadSettings x s1))

/-- R113 step 2: the target mode. -/
def State.targetMode (s : State) : Mode :=
  if s.initByLink then .standby
  else
    match s.powerUp with
    | .standby => .standby
    | .run => .run

/-- R113 steps 2 to 4: the mode leaves INIT, the rails come up in RUN, and a MODE notice is posted. -/
def leaveInit (s : State) : State :=
  let dst := s.targetMode
  let s1 := { s with mode := dst, initByLink := false }
  let s2 := if dst = .run then opportunity (turnRailsOn s1) else s1
  postNotice (.mode s2.mode s2.rails .resetEnd) s2

/-- R113: the end of INIT as one handling. -/
def endInit (s : State) : State := finish s (leaveInit (applyProfiles s))

/-- LOADING_COMPLETE (R113). -/
def execLoadingComplete (s : State) : Host.Outcome State Fault Refusal :=
  .next (if s.mode = .init ∧ s.resetHeld = false then endInit s else s)

end Sys2Proof.Machine
end

