-- ==== Sys2Proof/Machine/Profiles.lean ====
section
/-! DEFINITION. Chapter 9: the profile store. PROFILE_READ (R159), PROFILE_WRITE (R160, R161), PROFILE_PROTECT (R167), the
two completions, and what a reset cuts off (R162, R167, R168). -/

namespace Sys2Proof.Machine

/-- The port of a slot 0 to 7; `none` for slot 8. -/
def slotPort (n : Fin 9) : Option Port := if h : n.val < 8 then some ⟨n.val, h⟩ else none

/-! ## PROFILE_READ -/

/-- Table 9-1, Table 9-2: the factory defaults of a slot, laid out. -/
def factorySlotBytes (n : Fin 9) : List Byte :=
  match slotPort n with
  | some p => writePortSlot (factoryPort p) 0
  | none => writeSystem factorySystem

/-- R159: the slot number, the validity and the fields of a slot. -/
def slotFields (n : Fin 9) (x : Slot) : List Byte :=
  [byte n.val, flagByte x.valid] ++ (if x.valid then x.bytes else factorySlotBytes n)

/-- R159: the fields for 0xFF: the protection settings with validity VALID, and the session lock. The manual gives them no
slot number: the model sends 0xFF, the byte that asked for them (DESIGN CHOICE, log entry 43). -/
def protectionFields (x : Store) : List Byte :=
  [0xFF, 1, byte x.protection.mode.code, byte x.protection.count, byte x.protection.direction.code,
    flagByte x.protection.complement, flagByte x.sessionLock]

/-- PROFILE_READ (R159). -/
def doProfileRead (tag : Byte) (pl : List Byte) (s : State) : State :=
  if byteAt pl 0 = 0xFF then reply .profileRead tag .ok (protectionFields s.store) s
  else
    match slotOfCode (byteAt pl 0) with
    | some n => reply .profileRead tag .ok (slotFields n (tget s.store.slots n)) s
    | none => reply .profileRead tag .badValue [] s

/-! ## PROFILE_WRITE -/

/-- R160: the live values of a slot. -/
def liveSlotBytes (n : Fin 9) (s : State) : List Byte :=
  match slotPort n with
  | some p => writePortSlot (s.cfg p) (tget s.store.coldStart p)
  | none =>
    writeSystem
      { sa := s.sel.sa.config
        sb := s.sel.sb.config
        sd := s.sel.sd.config
        settings := s.sel.settings
        bodyReserve := s.engine.bodyReserve
        restoreMargin := s.engine.restoreMargin
        restoreHoldTime := s.engine.restoreHoldTime
        powerUp := s.powerUp }

/-- R160: the fields of a PAYLOAD form as they are to be written, clamped and rounded. -/
def payloadSlotBytes (n : Fin 9) (b : List Byte) : List Byte :=
  match slotPort n with
  | some p => writePortSlot (readPortFields (factoryPort p) b) (coldStartField.get b)
  | none => writeSystem (readSystem b)

/-- R160: a field of the PAYLOAD form is changed by a clamp, a rounding or the raise. -/
def payloadChanged (n : Fin 9) (b : List Byte) : Bool :=
  match slotPort n with
  | some _ => portNumbersChanged b || coldStartField.changed b
  | none => systemNumbersChanged b

/-- R160 check 2: every enumerated field of the PAYLOAD form holds a valid code. -/
def payloadValid (n : Fin 9) (b : List Byte) : Bool :=
  match slotPort n with
  | some _ => portCodesValid b
  | none => systemCodesValid b

/-- R160 check 4: the slot is guarded while protection is enforced. -/
def State.guardsSlot (s : State) (n : Fin 9) : Bool :=
  match slotPort n with
  | some p => s.protectedPort p
  | none => true

/-- R160 check 5: the parent of a port profile is its own port. -/
def ownParent (n : Fin 9) (b : List Byte) : Bool :=
  match slotPort n with
  | some p => byteAt b 15 = p.val
  | none => false

/-- R161, R167: a write begins; its reply is deferred. -/
def beginWrite (w : StoreWrite) (s : State) : State :=
  reservePlace { s with store := { s.store with write := some w } }

/-- R160 checks 2 to 5 of the PAYLOAD form. -/
def writePayload (n : Fin 9) (tag : Byte) (b : List Byte) (s : State) : State :=
  if payloadValid n b = false then reply .profileWrite tag .badValue [] s
  else if s.storeBusy then reply .profileWrite tag .busy [] s
  else if s.enforced ∧ s.guardsSlot n then reply .profileWrite tag .protected_ [] s
  else if ownParent n b then reply .profileWrite tag .conflict [] s
  else beginWrite ⟨.slot n (payloadSlotBytes n b), tag, payloadChanged n b⟩ s

/-- R160 checks 3 and 4 of the LIVE form. -/
def writeLive (n : Fin 9) (tag : Byte) (s : State) : State :=
  if s.storeBusy then reply .profileWrite tag .busy [] s
  else if s.enforced ∧ s.guardsSlot n then reply .profileWrite tag .protected_ [] s
  else beginWrite ⟨.slot n (liveSlotBytes n s), tag, false⟩ s

/-- PROFILE_WRITE (R160): source 0 is PAYLOAD, 1 is LIVE. -/
def doProfileWrite (tag : Byte) (pl : List Byte) (s : State) : State :=
  match slotOfCode (byteAt pl 0), flagOfCode (byteAt pl 1) with
  | some n, some false => writePayload n tag (pl.drop 2) s
  | some n, some true => writeLive n tag s
  | some _, none => reply .profileWrite tag .badValue [] s
  | none, _ => reply .profileWrite tag .badValue [] s

/-- R161: the write of a slot completes. -/
def completeSlot (n : Fin 9) (bytes : List Byte) (w : StoreWrite) (s : State) : State :=
  deferredReply .profileWrite w.tag (okOr w.clamped) [byte n.val]
    { s with store := { s.store with slots := tput s.store.slots n ⟨true, bytes⟩, write := none } }

/-- WRITE_COMPLETE (R161). -/
def execWriteComplete (s : State) : Host.Outcome State Fault Refusal :=
  .next <|
    match s.store.write with
    | none => s
    | some w =>
      match w.target with
      | .slot n bytes => completeSlot n bytes w s
      | .protection _ => s

/-! ## PROFILE_PROTECT -/

/-- R167: the count k. -/
def countField : NumField := ⟨2, 1, 0, 8, 1⟩

/-- R167: the settings of the MODE_MAP form; `none` for an invalid code. -/
def readProtection (b : List Byte) : Option Protection :=
  match protModeOfCode (byteAt b 1), directionOfCode (byteAt b 3), flagOfCode (byteAt b 4) with
  | some m, some d, some c => some ⟨m, countField.get b, d, c⟩
  | _, _, _ => none

/-- R167 checks 3 and 4 of the MODE_MAP form. -/
def protectMap (tag : Byte) (x : Protection) (clamped : Bool) (s : State) : State :=
  if s.storeBusy then reply .profileProtect tag .busy [] s
  else if s.enforced then reply .profileProtect tag .protected_ [] s
  else beginWrite ⟨.protection x, tag, clamped⟩ s

/-- R167: the SESSION form. -/
def protectSession (tag : Byte) (s : State) : State :=
  if s.storeBusy then reply .profileProtect tag .busy [] s
  else reply .profileProtect tag .ok [] { s with store := { s.store with sessionLock := true } }

/-- PROFILE_PROTECT (R167): form 0 is MODE_MAP, 1 is SESSION. -/
def doProfileProtect (tag : Byte) (pl : List Byte) (s : State) : State :=
  match flagOfCode (byteAt pl 0) with
  | some true => protectSession tag s
  | some false =>
    match readProtection pl with
    | some x => protectMap tag x (countField.changed pl) s
    | none => reply .profileProtect tag .badValue [] s
  | none => reply .profileProtect tag .badValue [] s

/-- R163: new settings go to the other copy, which becomes current. -/
def Store.takeProtection (v : Protection) (x : Store) : Store :=
  if x.currentB then { x with copyA := v, currentB := false } else { x with copyB := v, currentB := true }

/-- R167: the write of the protection settings completes. -/
def completeProtection (v : Protection) (w : StoreWrite) (s : State) : State :=
  deferredReply .profileProtect w.tag (okOr w.clamped) []
    { s with store := { s.store.takeProtection v with write := none } }

/-- PROTECTION_WRITE_COMPLETE (R167). -/
def execProtectionWriteComplete (s : State) : Host.Outcome State Fault Refusal :=
  .next <|
    match s.store.write with
    | none => s
    | some w =>
      match w.target with
      | .protection v => completeProtection v w s
      | .slot _ _ => s

/-! ## Resets -/

/-- R162, R167: a reset ends a write without completion: a slot is INVALID and its contents are lost; the protection
settings stay those of the current copy. -/
def Store.cutOff (x : Store) : Store :=
  match x.write with
  | none => x
  | some w =>
    match w.target with
    | .slot n _ => { x with slots := tput x.slots n ⟨false, []⟩, write := none }
    | .protection _ => { x with write := none }

end Sys2Proof.Machine
end

