-- ==== Sys2Proof/Machine/ControlLink.lean ====
section
/-! DEFINITION. Chapter 10: the control link. The receiver (R169, R171, R172), the command queue and the decoder (R173,
R174), the transmitter (R176), and the commands the link and the selector own (R14, R15, R170, R178 to R182). -/

namespace Sys2Proof.Machine

/-! ## Commands of the source selector -/

/-- R14: every enumerated field of SOURCE_CONFIGURE after the source holds a valid code. -/
def sourceCodesValid (pl : List Byte) : Bool := (flagOfCode (byteAt pl 1)).isSome && settingsCodesValid (pl.drop 8)

/-- R14: a numeric field of SOURCE_CONFIGURE is changed by a clamp, a rounding or the raise. -/
def sourceConfigureChanged (pl : List Byte) : Bool :=
  sourceNumbersChanged (pl.drop 1) || qualifyField.changed (pl.drop 8)

/-- R14 step 1: the numeric settings and the selection settings are stored. -/
def storeSourceSettings (x : Source) (c : SourceConfig) (g : SelSettings) (s : State) : State :=
  let s1 := s.setSource x (loadSourceNumbers c (s.source x))
  { s1 with sel := { s1.sel with settings := g } }

/-- R14: an accepted SOURCE_CONFIGURE. -/
def configureSource (x : Source) (pl : List Byte) (s : State) : State :=
  let c := readSourceFields (s.source x).config (pl.drop 1)
  evaluate (applyEnable x c.enable (storeSourceSettings x c (readSettings (pl.drop 8)) s))

/-- SOURCE_CONFIGURE (R14). -/
def doSourceConfigure (tag : Byte) (pl : List Byte) (s : State) : State :=
  match sourceOfCode (byteAt pl 0) with
  | none => reply .sourceConfigure tag .badValue [] s
  | some x =>
    if sourceCodesValid pl = false then reply .sourceConfigure tag .badValue [] s
    else if s.enforced then reply .sourceConfigure tag .protected_ [] s
    else reply .sourceConfigure tag (okOr (sourceConfigureChanged pl)) [] (configureSource x pl s)

/-- R15: the fields of one source. Table 12-2 gives the comparator level no code: the model sends it as a flag byte, 1 for
asserted and 0 for released (DESIGN CHOICE, log entry 40). -/
def sourceEntry (s : State) (x : Source) : List Byte :=
  let r := s.source x
  [flagByte r.config.enable, byte r.state.code] ++ leBytes 2 (s.voltage x) ++ [flagByte r.comparator] ++
    leBytes 2 r.config.capacity ++ leBytes 2 r.config.softFloor ++ leBytes 2 r.config.hardFloor ++
    leBytes 2 (millis (r.qualify.getD 0))

/-- R15: the changeover flag, the target and the time remaining in µs, 0 when no changeover is in progress. -/
def changeoverFields : Option Changeover → List Byte
  | none => [0, 0] ++ leBytes 2 0
  | some c => [1, byte (sourceCode c.target)] ++ leBytes 2 c.remaining

/-- R15: the fields of the SOURCE_QUERY reply. -/
def sourceFields (s : State) : List Byte :=
  allSources.flatMap (sourceEntry s) ++ writeSettings s.sel.settings ++ [byte (activeCode s.sel.active)] ++
    changeoverFields s.sel.changeover

/-- SOURCE_QUERY (R15). -/
def doSourceQuery (tag : Byte) (s : State) : State := reply .sourceQuery tag .ok (sourceFields s) s

/-! ## Commands of the link -/

/-- Table 10-5 in the layout of 12.3. -/
def identifyFields : List Byte := leBytes 2 0x0A17 ++ leBytes 2 6208 ++ [0x41, 8, 3, 3, 32, 8, 2, 32, 248, 60]

/-- IDENTIFY (R180). -/
def doIdentify (tag : Byte) (s : State) : State := reply .identify tag .ok identifyFields s

/-- R181: the fields of the GET_STATUS reply. -/
def statusFields (s : State) : List Byte :=
  [byte s.mode.code, byte (activeCode s.sel.active), flagByte s.changeoverFlag] ++ leBytes 4 s.engine.envelope ++
    leBytes 4 s.committed ++ leBytes 4 s.retained ++
    [flagByte s.engine.overcommit, flagByte s.engine.restoreHold.isSome, flagByte s.storeBusy,
      byte s.link.notices.length, byte s.link.delivery.code, flagByte s.store.sessionLock, flagByte s.enforced]

/-- GET_STATUS (R181). -/
def doGetStatus (tag : Byte) (s : State) : State := reply .getStatus tag .ok (statusFields s) s

/-- LINK_SET (R170): the reply carries its pending divisor. -/
def doLinkSet (tag : Byte) (pl : List Byte) (s : State) : State :=
  match linkDivisorOfCode (byteAt pl 0) with
  | some d => queueReply ⟨replyFrame Command.linkSet.type tag .ok [], some d, false⟩ s
  | none => reply .linkSet tag .badValue [] s

/-- R178: mask and delivery mode are stored, and the entries of kinds the mask excludes are removed. -/
def Link.configure (m : BitVec 6) (d : Delivery) (l : Link) : Link :=
  let l1 := { l with mask := m, delivery := d }
  { l1 with notices := l.notices.filter l1.enables }

/-- NOTICE_CONFIG (R178). -/
def doNoticeConfig (tag : Byte) (pl : List Byte) (s : State) : State :=
  match deliveryOfCode (byteAt pl 1) with
  | none => reply .noticeConfig tag .badValue [] s
  | some d =>
    if byteAt pl 0 < 64 then
      reply .noticeConfig tag .ok [] (s.setLink (s.link.configure (BitVec.ofNat 6 (byteAt pl 0)) d))
    else reply .noticeConfig tag .badValue [] s

/-- NOTICE_FETCH (R179). -/
def doNoticeFetch (tag : Byte) (s : State) : State :=
  match s.link.notices with
  | [] => reply .noticeFetch tag .empty (List.replicate 16 0) s
  | n :: rest => reply .noticeFetch tag .ok (n.bytes ++ [byte rest.length]) (s.setLink { s.link with notices := rest })

/-- RESET_PREPARE (R182); the decoder sets prepared. -/
def doResetPrepare (tag : Byte) (s : State) : State := reply .resetPrepare tag .ok [] s

/-- RESET (R182). -/
def doReset (tag : Byte) (s : State) : State :=
  if s.link.prepared = false then reply .reset tag .sequence [] s
  else if s.storeBusy then reply .reset tag .busy [] s
  else
    queueReply ⟨replyFrame Command.reset.type tag .ok [], none, true⟩ (s.setLink { s.link with resetPending := true })

/-! ## The decoder (R174) -/

/-- The commands refused MODE in STANDBY (R121). -/
def Command.needsLines : Command → Bool
  | .relaySend => true
  | .lineReset => true
  | .identify | .getStatus | .linkSet | .noticeConfig | .noticeFetch | .resetPrepare | .reset | .sourceConfigure
  | .sourceQuery | .measure | .portConfigure | .portQuery | .portRequest | .portRelease | .portClear | .setEnvelope
  | .allocQuery | .setMode | .relayCancel | .relayFetch | .profileRead | .profileWrite | .profileProtect => false

/-- R174: a command that has passed the decoder's checks goes to its owner. -/
def carryOut (c : Command) (tag : Byte) (pl : List Byte) (s : State) : State :=
  match c with
  | .identify => doIdentify tag s
  | .getStatus => doGetStatus tag s
  | .linkSet => doLinkSet tag pl s
  | .noticeConfig => doNoticeConfig tag pl s
  | .noticeFetch => doNoticeFetch tag s
  | .resetPrepare => doResetPrepare tag s
  | .reset => doReset tag s
  | .sourceConfigure => doSourceConfigure tag pl s
  | .sourceQuery => doSourceQuery tag s
  | .measure => doMeasure tag pl s
  | .portConfigure => doPortConfigure tag pl s
  | .portQuery => doPortQuery tag pl s
  | .portRequest => doPortRequest tag pl s
  | .portRelease => doPortRelease tag pl s
  | .portClear => doPortClear tag pl s
  | .setEnvelope => doSetEnvelope tag pl s
  | .allocQuery => doAllocQuery tag s
  | .setMode => doSetMode tag pl s
  | .relaySend => doRelaySend tag pl s
  | .relayCancel => doRelayCancel tag pl s
  | .relayFetch => doRelayFetch tag pl s
  | .lineReset => doLineReset tag pl s
  | .profileRead => doProfileRead tag pl s
  | .profileWrite => doProfileWrite tag pl s
  | .profileProtect => doProfileProtect tag pl s

/-- R182: prepared after a command's handling. -/
def setPrepared (b : Bool) (s : State) : State := s.setLink { s.link with prepared := b }

/-- R174 checks 3 and 4 for a listed command. -/
def decodeListed (c : Command) (f : Frame) (s : State) : State :=
  if lengthMatches c f.payload = false then setPrepared false (decoderReply f.type f.tag .badLength s)
  else if s.mode = .standby ∧ c.needsLines then setPrepared false (reply c f.tag .mode [] s)
  else setPrepared (c == .resetPrepare) (carryOut c f.tag f.payload s)

/-- R174: the decoder handles a command. -/
def decodeFrame (f : Frame) (s : State) : State :=
  if s.mode = .init then setPrepared false (decoderReply f.type f.tag .busy s)
  else
    match commandOfType f.type with
    | none => setPrepared false (decoderReply f.type f.tag .unknown s)
    | some c => decodeListed c f s

/-- R173: a good frame is taken into the command queue, answered BUSY or dropped. -/
def handGoodFrame (f : Frame) (s : State) : State :=
  if s.link.commands.length < Config.commandSlots then
    s.setLink { s.link with commands := s.link.commands ++ [f] }
  else if s.link.hasPlace then decoderReply f.type f.tag .busy s
  else s

/-- R174, R182: the decoder can take a command. -/
def Link.ready (l : Link) : Bool := l.hasPlace && !l.resetPending

/-- R173: the frames `rest` of the command queue, kept in order behind whatever it holds. -/
def keepWaiting (rest : List Frame) (s : State) : State :=
  s.setLink { s.link with commands := s.link.commands ++ rest }

/-- R174: the decoder takes the entry at the head of the command queue when it can, and handles it as it would with no
other frame in the queue; the rest of the queue stays in order. -/
def takeHead (s : State) : State :=
  match s.link.commands with
  | [] => s
  | f :: rest =>
    if s.link.ready then keepWaiting rest (decodeFrame f (s.setLink { s.link with commands := [] })) else s

/-- A command row: the frame is at the head of the command queue, or it arrives now, and the decoder takes the head (log
entry 8). A frame that arrives behind others waits, and so does one that the decoder cannot take yet. -/
def offerFrame (f : Frame) (s : State) : State :=
  if s.resetHeld then s
  else
    match s.link.commands with
    | [] => takeHead (handGoodFrame f s)
    | h :: _ => if h = f then takeHead s else handGoodFrame f s

/-! ## Receiver -/

/-- R171: the receiver returns to HUNT. -/
def Link.hunt (l : Link) : Link := { l with buffer := none, gap := none }

/-- R171: the receiver stays in FRAME, and the gap runs from this stop decision. -/
def Link.collect (b : List Byte) (l : Link) : Link := { l with buffer := some b, gap := some Config.linkGap }

/-- The frame of a complete buffer: length, type, tag, payload, two CRC bytes. -/
def frameOf (b : List Byte) : Frame := ⟨b.getD 1 0, b.getD 2 0, (b.take (b.length - 2)).drop 3⟩

/-- R172: the two CRC bytes of a complete buffer match. -/
def crcGood (b : List Byte) : Bool := b.drop (b.length - 2) == crc16Bytes (crc16 (b.take (b.length - 2)))

/-- R172: the second CRC byte completes a frame. -/
def completeFrame (b : List Byte) (s : State) : State :=
  let s1 := s.setLink s.link.hunt
  if crcGood b then handGoodFrame (frameOf b) s1 else s1

/-- R171: a byte in FRAME; `b` is the buffer with it. -/
def frameByte (b : List Byte) (s : State) : State :=
  let n := byteAt b 0
  if n < 2 ∨ 250 < n then s.setLink s.link.hunt
  else if b.length = n + 3 then completeFrame b s
  else s.setLink (s.link.collect b)

/-- R171: a received byte with no framing error. -/
def linkByte (d : Byte) (s : State) : State :=
  match s.link.buffer with
  | none => if d = 0x5A then s.setLink (s.link.collect []) else s
  | some b => frameByte (b ++ [d]) s

/-- The data byte of a link character. -/
def linkDataByte (x : LinkSamples) : Byte := dataByte x.data

/-- R169, R171: the stop decision of the character in progress. -/
def receiveLinkChar (x : LinkSamples) (s : State) : State :=
  let s1 := s.setLink { s.link with charInProgress := false }
  if voteLevel x.stop then linkByte (linkDataByte x) s1 else s1.setLink s1.link.hunt

/-- LINK_CHARACTER_RECEIVED (R169, R171, R172). Without a valid start there is no character. -/
def execLinkCharacterReceived (x : LinkSamples) (s : State) : Host.Outcome State Fault Refusal :=
  .next (if s.link.charInProgress then receiveLinkChar x s else s)

/-- LINK_VALID_START (R171): a character is in progress and the gap stops. -/
def execLinkValidStart (s : State) : Host.Outcome State Fault Refusal :=
  .next (if s.resetHeld then s else s.setLink { s.link with charInProgress := true, gap := none })

/-- LINK_GAP_EXPIRY (R171): the gap remaining has reached 0. -/
def execLinkGapExpiry (s : State) : Host.Outcome State Fault Refusal :=
  .next (if s.link.gap = some 0 then s.setLink s.link.hunt else s)

/-- LINK_BREAK (R171). A break in HUNT changes nothing. -/
def execLinkBreak (s : State) : Host.Outcome State Fault Refusal :=
  .next (if s.link.buffer.isSome then s.setLink s.link.hunt else s)

/-- RECEIVER_RATE_CHANGE (R170): the receiver takes the rate of the transmitter. -/
def execReceiverRateChange (s : State) : Host.Outcome State Fault Refusal :=
  .next (if s.link.charInProgress then s else s.setLink { s.link with rxDivisor := s.link.divisor })

/-! ## Transmitter -/

/-- R176: the transmitter begins the reply at the head of the reply queue. -/
def Link.beginReply (e : ReplyEntry) (rest : List ReplyEntry) (l : Link) : Link :=
  { l with replies := rest, sending := some ⟨e.frame.wire, e.divisor, e.isReset⟩ }

/-- R176: the transmitter begins a notice frame. -/
def Link.beginNotice (n : Notice) (rest : List Notice) (l : Link) : Link :=
  { l with notices := rest, sending := some ⟨n.frame.wire, none, false⟩ }

/-- R176, R183: notices may be sent. -/
def Link.pushes (l : Link) : Bool := l.delivery == .push && !l.resetPending

/-- R176: the transmitter, free to begin a frame, begins a reply, else a notice in PUSH delivery. -/
def Link.begin (l : Link) : Link :=
  match l.replies, l.notices with
  | e :: rest, _ => l.beginReply e rest
  | [], n :: rest => if l.pushes then l.beginNotice n rest else l
  | [], [] => l

/-- FRAME_BEGIN (R176). -/
def execFrameBegin (s : State) : Host.Outcome State Fault Refusal :=
  .next (if s.link.sending.isSome then s else s.setLink s.link.begin)

end Sys2Proof.Machine
end

