-- ==== Sys2Proof/Machine/Commands.lean ====
section
/-! DEFINITION. The meanings of the host commands: each offers its frame to the decoder (`offerFrame`), which checks it
and hands it to its owner (`carryOut`). -/

namespace Sys2Proof.Machine

/-- A frame of a listed command. -/
def offerCommand (c : Command) (tag : Byte) (payload : List Byte) (s : State) : State :=
  offerFrame ⟨c.type, tag, payload⟩ s

/-- SET_MODE (R174, R117). -/
def execSetMode (tag : Byte) (payload : List Byte) (s : State) : Host.Outcome State Fault Refusal :=
  .next (offerCommand .setMode tag payload s)

/-- SOURCE_CONFIGURE (R174, R14). -/
def execSourceConfigure (tag : Byte) (payload : List Byte) (s : State) : Host.Outcome State Fault Refusal :=
  .next (offerCommand .sourceConfigure tag payload s)

/-- SOURCE_QUERY (R174, R15). -/
def execSourceQuery (tag : Byte) (payload : List Byte) (s : State) : Host.Outcome State Fault Refusal :=
  .next (offerCommand .sourceQuery tag payload s)

/-- MEASURE (R174, R32). -/
def execMeasure (tag : Byte) (payload : List Byte) (s : State) : Host.Outcome State Fault Refusal :=
  .next (offerCommand .measure tag payload s)

/-- PORT_CONFIGURE (R174, R84). -/
def execPortConfigure (tag : Byte) (payload : List Byte) (s : State) : Host.Outcome State Fault Refusal :=
  .next (offerCommand .portConfigure tag payload s)

/-- PORT_QUERY (R174, R86). -/
def execPortQuery (tag : Byte) (payload : List Byte) (s : State) : Host.Outcome State Fault Refusal :=
  .next (offerCommand .portQuery tag payload s)

/-- PORT_REQUEST (R174, R69). -/
def execPortRequest (tag : Byte) (payload : List Byte) (s : State) : Host.Outcome State Fault Refusal :=
  .next (offerCommand .portRequest tag payload s)

/-- PORT_RELEASE (R174, R72). -/
def execPortRelease (tag : Byte) (payload : List Byte) (s : State) : Host.Outcome State Fault Refusal :=
  .next (offerCommand .portRelease tag payload s)

/-- PORT_CLEAR (R174, R54). -/
def execPortClear (tag : Byte) (payload : List Byte) (s : State) : Host.Outcome State Fault Refusal :=
  .next (offerCommand .portClear tag payload s)

/-- SET_ENVELOPE (R174, R68). -/
def execSetEnvelope (tag : Byte) (payload : List Byte) (s : State) : Host.Outcome State Fault Refusal :=
  .next (offerCommand .setEnvelope tag payload s)

/-- ALLOC_QUERY (R174, R87). -/
def execAllocQuery (tag : Byte) (payload : List Byte) (s : State) : Host.Outcome State Fault Refusal :=
  .next (offerCommand .allocQuery tag payload s)

/-- RELAY_SEND (R174, R147). -/
def execRelaySend (tag : Byte) (payload : List Byte) (s : State) : Host.Outcome State Fault Refusal :=
  .next (offerCommand .relaySend tag payload s)

/-- RELAY_CANCEL (R174, R153). -/
def execRelayCancel (tag : Byte) (payload : List Byte) (s : State) : Host.Outcome State Fault Refusal :=
  .next (offerCommand .relayCancel tag payload s)

/-- RELAY_FETCH of one port (R174, R142). -/
def execRelayFetch (tag : Byte) (payload : List Byte) (s : State) : Host.Outcome State Fault Refusal :=
  .next (offerCommand .relayFetch tag payload s)

/-- RELAY_FETCH with the byte 0xFF (R174, R143). -/
def execRelayFetchAny (tag : Byte) (payload : List Byte) (s : State) : Host.Outcome State Fault Refusal :=
  .next (offerCommand .relayFetch tag payload s)

/-- LINE_RESET (R174, R136). -/
def execLineReset (tag : Byte) (payload : List Byte) (s : State) : Host.Outcome State Fault Refusal :=
  .next (offerCommand .lineReset tag payload s)

/-- PROFILE_READ (R174, R159). -/
def execProfileRead (tag : Byte) (payload : List Byte) (s : State) : Host.Outcome State Fault Refusal :=
  .next (offerCommand .profileRead tag payload s)

/-- PROFILE_WRITE, PAYLOAD form (R174, R160). -/
def execProfileWrite (tag : Byte) (payload : List Byte) (s : State) : Host.Outcome State Fault Refusal :=
  .next (offerCommand .profileWrite tag payload s)

/-- PROFILE_WRITE, LIVE form (R174, R160). -/
def execProfileWriteLive (tag : Byte) (payload : List Byte) (s : State) : Host.Outcome State Fault Refusal :=
  .next (offerCommand .profileWrite tag payload s)

/-- PROFILE_PROTECT, MODE_MAP form (R174, R167). -/
def execProfileProtectModeMap (tag : Byte) (payload : List Byte) (s : State) : Host.Outcome State Fault Refusal :=
  .next (offerCommand .profileProtect tag payload s)

/-- PROFILE_PROTECT, SESSION form (R174, R167). -/
def execProfileProtectSession (tag : Byte) (payload : List Byte) (s : State) : Host.Outcome State Fault Refusal :=
  .next (offerCommand .profileProtect tag payload s)

/-- IDENTIFY (R174, R180). -/
def execIdentify (tag : Byte) (payload : List Byte) (s : State) : Host.Outcome State Fault Refusal :=
  .next (offerCommand .identify tag payload s)

/-- GET_STATUS (R174, R181). -/
def execGetStatus (tag : Byte) (payload : List Byte) (s : State) : Host.Outcome State Fault Refusal :=
  .next (offerCommand .getStatus tag payload s)

/-- LINK_SET (R174, R170). -/
def execLinkSet (tag : Byte) (payload : List Byte) (s : State) : Host.Outcome State Fault Refusal :=
  .next (offerCommand .linkSet tag payload s)

/-- NOTICE_CONFIG (R174, R178). -/
def execNoticeConfig (tag : Byte) (payload : List Byte) (s : State) : Host.Outcome State Fault Refusal :=
  .next (offerCommand .noticeConfig tag payload s)

/-- NOTICE_FETCH (R174, R179). -/
def execNoticeFetch (tag : Byte) (payload : List Byte) (s : State) : Host.Outcome State Fault Refusal :=
  .next (offerCommand .noticeFetch tag payload s)

/-- RESET_PREPARE (R174, R182). -/
def execResetPrepare (tag : Byte) (payload : List Byte) (s : State) : Host.Outcome State Fault Refusal :=
  .next (offerCommand .resetPrepare tag payload s)

/-- RESET (R174, R182). -/
def execReset (tag : Byte) (payload : List Byte) (s : State) : Host.Outcome State Fault Refusal :=
  .next (offerCommand .reset tag payload s)

/-- UNKNOWN_COMMAND (R174 check 2): a frame whose type Table 12-4 does not list. -/
def execUnknownCommand (type tag : Byte) (payload : List Byte) (s : State) : Host.Outcome State Fault Refusal :=
  .next (offerFrame ⟨type, tag, payload⟩ s)

end Sys2Proof.Machine
end

