-- ==== Sys2Proof/Machine/Resets.lean ====
section
/-! DEFINITION. The resets: POR and pin reset, held until RESET_RELEASE, and the link reset at the end of the RESET reply
(R17, R18, R33, R34, R55, R88, R111, R112, R138, R146, R156, R168, R183, R184); the LOCK pin (R165). -/

namespace Sys2Proof.Machine

/-- R17: a source at a reset that is held; the comparator field follows its pin. -/
def heldSource (x : Source) (s : State) : SourceRec := { resetSource x with comparator := (s.source x).comparator }

/-- R55: a switch at a reset; the level of its trip comparator is kept. -/
def SwitchRec.atReset (w : SwitchRec) : SwitchRec := { resetSwitch with tripLevel := w.tripLevel }

/-- R168: the store at POR or pin reset. -/
def Store.atReset (lock : Bool) (x : Store) : Store :=
  { x.cutOff with sessionLock := lock, coldStart := factoryStore.coldStart }

/-- POR or pin reset: every block at its reset value, and the reset held. What survives are the profile store, the levels
of the input pins, and the model's own counter and queue. `lock` is the session lock afterwards (R164). -/
def hardReset (lock : Bool) (s : State) : State :=
  { State.reset with
    resetHeld := true
    lockLow := s.lockLow
    sel := { resetSelector with sa := heldSource .sa s, sb := heldSource .sb s, sd := heldSource .sd s }
    switches := s.switches.map SwitchRec.atReset
    store := s.store.atReset lock
    choices := s.choices
    pending := s.pending }

/-- POR (R112, R164). -/
def execPor (s : State) : Host.Outcome State Fault Refusal := .next (hardReset false s)

/-- PIN_RESET (R112, R164). -/
def execPinReset (s : State) : Host.Outcome State Fault Refusal := .next (hardReset s.store.sessionLock s)

/-- RESET_RELEASE (R20, R33, R184): sampling, the link's receiver and loading begin. -/
def execResetRelease (s : State) : Host.Outcome State Fault Refusal := .next { s with resetHeld := false }

/-- LOCK_CHANGE (R165). -/
def execLockChange (low : Bool) (s : State) : Host.Outcome State Fault Refusal := .next { s with lockLow := low }

/-- R88: a port at a link reset. -/
def PortRec.atReset (r : PortRec) : PortRec := resetPort r.config

/-- R138: a line at a link reset; its rate stands until the profiles are loaded. -/
def LineRec.atReset (l : LineRec) : LineRec := resetLine l.rate

/-- R183: the link reset. The selector (R18), the sense unit (R34) and the profile store (R168) go on. -/
def linkReset (s : State) : State :=
  { s with
    mode := .init
    initByLink := true
    rails := false
    linesOn := false
    switches := s.switches.map SwitchRec.atReset
    ports := s.ports.map PortRec.atReset
    engine := resetEngine s.engine.bodyReserve s.engine.restoreMargin s.engine.restoreHoldTime
    lines := s.lines.map LineRec.atReset
    pool := resetPool
    channels := Vector.replicate 3 none
    store := { s.store with write := none }
    link := resetLink
    selEvents := []
    reports := Vector.replicate 8 []
    records := Vector.replicate 8 [] }

/-- R176, R170: the frame has been sent; a LINK_SET reply puts its divisor in force. -/
def Link.endFrame (t : Transmission) (l : Link) : Link :=
  { l with sending := none, divisor := t.divisor.getD l.divisor }

/-- FRAME_END (R170, R176, R183). -/
def execFrameEnd (s : State) : Host.Outcome State Fault Refusal :=
  .next <|
    match s.link.sending with
    | none => s
    | some t => if t.isReset then linkReset s else s.setLink (s.link.endFrame t)

end Sys2Proof.Machine
end

