-- ==== Sys2Proof/Machine/Dispatch.lean ====
section
/-! DEFINITION. The dispatch: one arm for each constructor of `Instr`, each one call of its meaning. -/

namespace Sys2Proof.Machine

/-- The effect of a command on everything but the queue. -/
def exec (i : Instr) (s : State) : Host.Outcome State Fault Refusal :=
  match i with
  | .por => Sys2Proof.Machine.execPor s
  | .pinReset => Sys2Proof.Machine.execPinReset s
  | .loadingComplete => Sys2Proof.Machine.execLoadingComplete s
  | .lockChange low => Sys2Proof.Machine.execLockChange low s
  | .sampleCompletion ch code selectorFirst => Sys2Proof.Machine.execSampleCompletion ch code selectorFirst s
  | .qualifyExpiry x => Sys2Proof.Machine.execQualifyExpiry x s
  | .comparatorAsserts x => Sys2Proof.Machine.execComparatorAsserts x s
  | .comparatorReleases x => Sys2Proof.Machine.execComparatorReleases x s
  | .changeoverEnd => Sys2Proof.Machine.execChangeoverEnd s
  | .changeoverBeginEvent => Sys2Proof.Machine.execChangeoverBeginEvent s
  | .changeoverEndEvent => Sys2Proof.Machine.execChangeoverEndEvent s
  | .noSourceEvent => Sys2Proof.Machine.execNoSourceEvent s
  | .graceExpiry p => Sys2Proof.Machine.execGraceExpiry p s
  | .restoreHoldExpiry => Sys2Proof.Machine.execRestoreHoldExpiry s
  | .powerGood p => Sys2Proof.Machine.execPowerGood p s
  | .startTimeout p => Sys2Proof.Machine.execStartTimeout p s
  | .hardTrip p => Sys2Proof.Machine.execHardTrip p s
  | .tripComparatorAsserts p => Sys2Proof.Machine.execTripComparatorAsserts p s
  | .tripComparatorReleases p => Sys2Proof.Machine.execTripComparatorReleases p s
  | .filteredTrip p => Sys2Proof.Machine.execFilteredTrip p s
  | .coolingExpiry p => Sys2Proof.Machine.execCoolingExpiry p s
  | .recloseTimeout p => Sys2Proof.Machine.execRecloseTimeout p s
  | .cleanRun p => Sys2Proof.Machine.execCleanRun p s
  | .startComplete p => Sys2Proof.Machine.execStartComplete p s
  | .startFail p => Sys2Proof.Machine.execStartFail p s
  | .trip p => Sys2Proof.Machine.execTrip p s
  | .retryLimit p => Sys2Proof.Machine.execRetryLimit p s
  | .announce p typeCode power identity => Sys2Proof.Machine.execAnnounce p typeCode power identity s
  | .request p power => Sys2Proof.Machine.execRequest p power s
  | .characterReceived p x => Sys2Proof.Machine.execCharacterReceived p x s
  | .lineGapExpiry p => Sys2Proof.Machine.execLineGapExpiry p s
  | .lineBreak p => Sys2Proof.Machine.execLineBreak p s
  | .pendingRateInForce p => Sys2Proof.Machine.execPendingRateInForce p s
  | .breakEnd p => Sys2Proof.Machine.execBreakEnd p s
  | .recordStart p => Sys2Proof.Machine.execRecordStart p s
  | .recordSent p => Sys2Proof.Machine.execRecordSent p s
  | .collision p => Sys2Proof.Machine.execCollision p s
  | .backoffStart p => Sys2Proof.Machine.execBackoffStart p s
  | .backoffExpiry p => Sys2Proof.Machine.execBackoffExpiry p s
  | .channelWaitExpiry c => Sys2Proof.Machine.execChannelWaitExpiry c s
  | .setMode tag payload => Sys2Proof.Machine.execSetMode tag payload s
  | .sourceConfigure tag payload => Sys2Proof.Machine.execSourceConfigure tag payload s
  | .sourceQuery tag payload => Sys2Proof.Machine.execSourceQuery tag payload s
  | .measure tag payload => Sys2Proof.Machine.execMeasure tag payload s
  | .portConfigure tag payload => Sys2Proof.Machine.execPortConfigure tag payload s
  | .portQuery tag payload => Sys2Proof.Machine.execPortQuery tag payload s
  | .portRequest tag payload => Sys2Proof.Machine.execPortRequest tag payload s
  | .portRelease tag payload => Sys2Proof.Machine.execPortRelease tag payload s
  | .portClear tag payload => Sys2Proof.Machine.execPortClear tag payload s
  | .setEnvelope tag payload => Sys2Proof.Machine.execSetEnvelope tag payload s
  | .allocQuery tag payload => Sys2Proof.Machine.execAllocQuery tag payload s
  | .relaySend tag payload => Sys2Proof.Machine.execRelaySend tag payload s
  | .relayCancel tag payload => Sys2Proof.Machine.execRelayCancel tag payload s
  | .relayFetch tag payload => Sys2Proof.Machine.execRelayFetch tag payload s
  | .relayFetchAny tag payload => Sys2Proof.Machine.execRelayFetchAny tag payload s
  | .lineReset tag payload => Sys2Proof.Machine.execLineReset tag payload s
  | .profileRead tag payload => Sys2Proof.Machine.execProfileRead tag payload s
  | .profileWrite tag payload => Sys2Proof.Machine.execProfileWrite tag payload s
  | .profileWriteLive tag payload => Sys2Proof.Machine.execProfileWriteLive tag payload s
  | .writeComplete => Sys2Proof.Machine.execWriteComplete s
  | .profileProtectModeMap tag payload => Sys2Proof.Machine.execProfileProtectModeMap tag payload s
  | .profileProtectSession tag payload => Sys2Proof.Machine.execProfileProtectSession tag payload s
  | .protectionWriteComplete => Sys2Proof.Machine.execProtectionWriteComplete s
  | .identify tag payload => Sys2Proof.Machine.execIdentify tag payload s
  | .getStatus tag payload => Sys2Proof.Machine.execGetStatus tag payload s
  | .linkSet tag payload => Sys2Proof.Machine.execLinkSet tag payload s
  | .noticeConfig tag payload => Sys2Proof.Machine.execNoticeConfig tag payload s
  | .noticeFetch tag payload => Sys2Proof.Machine.execNoticeFetch tag payload s
  | .resetPrepare tag payload => Sys2Proof.Machine.execResetPrepare tag payload s
  | .reset tag payload => Sys2Proof.Machine.execReset tag payload s
  | .unknownCommand type tag payload => Sys2Proof.Machine.execUnknownCommand type tag payload s
  | .linkCharacterReceived x => Sys2Proof.Machine.execLinkCharacterReceived x s
  | .linkGapExpiry => Sys2Proof.Machine.execLinkGapExpiry s
  | .linkBreak => Sys2Proof.Machine.execLinkBreak s
  | .frameBegin => Sys2Proof.Machine.execFrameBegin s
  | .frameEnd => Sys2Proof.Machine.execFrameEnd s
  | .receiverRateChange => Sys2Proof.Machine.execReceiverRateChange s
  | .conversionStart ch => Sys2Proof.Machine.execConversionStart ch s
  | .lineValidStart p => Sys2Proof.Machine.execLineValidStart p s
  | .linkValidStart => Sys2Proof.Machine.execLinkValidStart s
  | .resetRelease => Sys2Proof.Machine.execResetRelease s

end Sys2Proof.Machine
end

