-- ==== Sys2Proof/Machine/Time.lean ====
section
/-! DEFINITION. One microsecond of the chip's own time (log entry 3): every timer that runs moves by 1 µs, or by the bit
units of a microsecond where it counts bit times. A timer stands still at its end: the event of its end is a command of
its own. -/

namespace Sys2Proof.Machine

/-- A timer that counts down. -/
def tickDown (units : Nat) (t : Option Nat) : Option Nat := t.map (fun n => n - units)

/-- R2: the qualify timer of a source. -/
def tickSource (r : SourceRec) : SourceRec := { r with qualify := tickDown 1 r.qualify }

/-- R11: the selector's timers. -/
def tickSelector (x : Selector) : Selector :=
  { x with
    sa := tickSource x.sa
    sb := tickSource x.sb
    sd := tickSource x.sd
    changeover := x.changeover.map (fun c => { c with remaining := c.remaining - 1 }) }

/-- R36, R40, R47 to R49: the time a switch state counts. -/
def tickSwitchState (x : SwitchState) : SwitchState :=
  match x with
  | .opened => .opened
  | .ramping r e => .ramping r (min (e + 1) r.timeout)
  | .paused r e => .paused r e
  | .closed c => .closed (min (c + 1) Config.cleanRunTime)
  | .cooling (.wait n) l => .cooling (.wait (n - 1)) l
  | .cooling .due l => .cooling .due l
  | .cooling (.reclose n) l => .cooling (.reclose (n - 1)) l

/-- R42: the trip filter counts to its widest width. -/
def tickSwitch (w : SwitchRec) : SwitchRec :=
  { w with state := tickSwitchState w.state, filter := w.filter.map (fun n => min (n + 1) 64) }

/-- R93: the grace of a port. -/
def tickPort (r : PortRec) : PortRec := { r with grace := tickDown 1 r.grace }

/-- R101: the restore hold. -/
def tickEngine (e : Engine) : Engine := { e with restoreHold := tickDown 1 e.restoreHold }

/-- R123: the bit units of a microsecond at a line rate. -/
def lineUnits (r : LineRate) : Nat := 384 / r.divisor

/-- R130: the line is high and listened to, so its idle time runs. -/
def LineRec.idles (l : LineRec) : Bool := l.listens && !l.charInProgress && l.low == 0

/-- R130: a falling edge restarts the idle time, and the line stays low for `n`; without one the idle time runs. It takes
no other note of the edge: it may be a false start (R124). -/
def LineRec.passIdle (edge : Option Nat) (l : LineRec) : LineRec :=
  match edge with
  | none => { l with idle := min (l.idle + lineUnits l.rate) Config.lineIdle }
  | some n => { l with idle := 0, low := n }

/-- R128, R130, R133, R134: the timers of a line. `edge` is the free value of `Config.fallingEdge` (log entry 46); it
counts where the line is high and listened to. -/
def tickLine (edge : Option Nat) (l : LineRec) : LineRec :=
  let u := lineUnits l.rate
  let m :=
    { l with
      gap := tickDown u l.gap
      breakRemaining := tickDown u l.breakRemaining
      backoff := tickDown u l.backoff }
  if l.idles then m.passIdle edge else { m with low := l.low - u }

/-- R148: the wait of a send channel. -/
def tickStage (x : SendStage) : SendStage :=
  match x with
  | .waiting n => .waiting (n - 1)
  | .onLine => .onLine

def tickSend (x : Send) : Send := { x with stage := tickStage x.stage }

/-- R169: the bit units of a microsecond at a link rate. -/
def linkUnits (d : LinkDivisor) : Nat := 720 / d.value

/-- R171: the gap of the control link. -/
def tickLink (l : Link) : Link := { l with gap := tickDown (linkUnits l.rxDivisor) l.gap }

/-- One microsecond. While a reset is held nothing runs. -/
def tick (s : State) : State :=
  if s.resetHeld then s
  else
    { s with
      sel := tickSelector s.sel
      switches := s.switches.map tickSwitch
      ports := s.ports.map tickPort
      engine := tickEngine s.engine
      lines := Vector.ofFn (fun p => tickLine (Config.fallingEdge s.choices p.val) (s.line p))
      channels := s.channels.map (fun c => c.map tickSend)
      link := tickLink s.link
      choices := s.choices + 1 }

end Sys2Proof.Machine
end

