-- ==== Sys2Proof/Machine/Sampling.lean ====
section
/-! DEFINITION. R124, R125, R169, R171: how a receiver makes characters and breaks out of the samples of its line, sixteen
to a bit. What it makes are the events LINE_VALID_START, CHARACTER_RECEIVED and LINE_BREAK, and those of the control
link: the commands of the table carry its result, so `exec` does not call it. Also the levels at which the comparators
of chapters 1 and 3 turn (R3, R39, R42, R43) and a collision's read-back (R133). -/

namespace Sys2Proof.Machine

/-! ## Sampling -/

/-- What the search for a character is doing (R124). `index` numbers the samples of the bit in hand; `taken` are the
samples 7 to 9 of it taken so far; `votes` are the bits done since the start bit. -/
inductive SamplePhase where
  | search
  | candidate (index : Nat) (taken : List Bool)
  | character (index : Nat) (taken : List Bool) (votes : List Vote)
  deriving DecidableEq, Repr

/-- A sampler: its phase, the high samples in a row just before (counted to 3), and the low samples in a row. -/
structure Sampler where
  phase : SamplePhase
  high : Nat
  low : Nat
  deriving DecidableEq, Repr

/-- What a sample brings about. -/
inductive SampleEvent where
  | validStart
  | character (votes : List Vote)
  | breakSeen
  deriving DecidableEq, Repr

/-- A sampler on a line that has been high. -/
def Sampler.idle : Sampler := ⟨.search, 3, 0⟩

/-- R124: the sample is a falling edge after at least 3 high samples. -/
def Sampler.edge (r : Sampler) (level : Bool) : Bool := !level && r.high == 3

/-- The three samples of a vote. -/
def voteOf : List Bool → Vote
  | [a, b, c] => ⟨a, b, c⟩
  | [] => ⟨false, false, false⟩
  | [a] => ⟨a, a, a⟩
  | [a, b] => ⟨a, b, b⟩
  | a :: b :: c :: _ :: _ => ⟨a, b, c⟩

/-- Samples 7, 8 and 9 are taken. -/
def keepSample (index : Nat) (level : Bool) (taken : List Bool) : List Bool :=
  if 7 ≤ index ∧ index ≤ 9 then taken ++ [level] else taken

/-- R124: the index of a sample inside a character after resynchronisation: a falling edge in samples 0 to 6 or 10 to 15
is sample 0. -/
def resync (edge : Bool) (index : Nat) : Nat := if edge ∧ (index ≤ 6 ∨ 10 ≤ index) then 0 else index

/-- A sample at `index` of a bit of a character of `bits` bits after its start bit: at sample 9 the bit is decided, and
at sample 9 of the stop bit the character ends and the search begins. -/
def characterSample (bits index : Nat) (level : Bool) (taken : List Bool) (votes : List Vote) :
    SamplePhase × List SampleEvent :=
  let taken1 := keepSample index level taken
  if index = 9 then
    let votes1 := votes ++ [voteOf taken1]
    if votes1.length = bits then (.search, [.character votes1]) else (.character 10 [] votes1, [])
  else (.character ((index + 1) % 16) taken1 votes, [])

/-- R124, R169: the phase after a sample. The manual does not say what a falling edge after 3 high samples does while a
start candidate is under way, before its vote: the model ignores it and keeps the candidate (DESIGN CHOICE, log entry
36). -/
def SamplePhase.next (bits : Nat) (edge level : Bool) (x : SamplePhase) : SamplePhase × List SampleEvent :=
  match x with
  | .search => if edge then (.candidate 1 [], []) else (.search, [])
  | .candidate index taken =>
    let taken1 := keepSample index level taken
    if index = 9 then
      if voteLevel (voteOf taken1) then (.search, []) else (.character 10 [] [], [.validStart])
    else (.candidate (index + 1) taken1, [])
  | .character index taken votes => characterSample bits (resync edge index) level taken votes

/-- R124, R125, R171: one sample of a line whose characters have `bits` bits after the start bit and whose break takes
`breakBits` low bit times. The break is detected once in each low period. -/
def Sampler.sample (bits breakBits : Nat) (level : Bool) (r : Sampler) : Sampler × List SampleEvent :=
  let p := r.phase.next bits (r.edge level) level
  let low := if level then 0 else min (r.low + 1) (16 * breakBits + 1)
  (⟨p.1, if level then min (r.high + 1) 3 else 0, low⟩, p.2 ++ (if low = 16 * breakBits then [.breakSeen] else []))

/-- The sampler of an accessory line: data, mark and stop bit (R123), a break of 22 bit times (R125). -/
def Sampler.lineSample : Bool → Sampler → Sampler × List SampleEvent := Sampler.sample 10 22

/-- The sampler of the control link: data and stop bit (R169), a break of 2 character times (R171). -/
def Sampler.linkSample : Bool → Sampler → Sampler × List SampleEvent := Sampler.sample 9 20

/-- All events of a run of samples. -/
def sampleRun (f : Bool → Sampler → Sampler × List SampleEvent) : List Bool → Sampler → List SampleEvent
  | [], _ => []
  | x :: rest, r => (f x r).2 ++ sampleRun f rest (f x r).1

/-- The levels of a bit, sixteen samples. -/
def bitSamples (b : Bool) : List Bool := List.replicate 16 b

/-- R123: the levels of a line character as a sender at the same rate drives them. -/
def charSamples (d : Byte) (mark : Bool) : List Bool := (lineCharBits mark d).flatMap bitSamples

/-- R133: a bit sent as 1 and read back as 0 is a collision. -/
def readBackCollides (sent : Bool) (v : Vote) : Bool := sent && !voteLevel v

/-! ## Comparators -/

/-- R3: the overvoltage comparator after the source voltage, in mV, stands at `v`. -/
def overvoltageLevel (asserted : Bool) (v : Nat) : Bool := if asserted then 19300 ≤ v else 19800 ≤ v

/-- R42: the trip comparator of a port with trip current `trip` at a port current, in mA. -/
def tripComparator (trip current : Nat) : Bool := trip ≤ current

/-- R43: the hard comparator asserts at twice the trip current. -/
def hardComparator (trip current : Nat) : Bool := 2 * trip ≤ current

/-- R39: power good, the output at or above 95 % of the bus voltage. -/
def powerGoodLevel (output bus : Nat) : Bool := 95 * bus ≤ 100 * output

end Sys2Proof.Machine
end

