-- ==== Sys2Proof/WellFormed.lean ====
section
/-! DEFINITION. Well-formed commands. A command row carries a frame that the link can have received (R171: a length byte
of 2 to 250, so a payload of at most 248 bytes), and the rows that share a type are told apart by the form their
payload spells. A row of the table that carries an event has every operand well-formed by its type. -/

namespace Sys2Proof

open Sys2Proof.Machine

/-- R171: the payload of a frame is at most 248 bytes. -/
def payloadFits (pl : List Byte) : Bool := pl.length ≤ 248

/-- R142, R143: RELAY_FETCH for ANY. -/
def asksAny (pl : List Byte) : Bool := pl == [0xFF#8]

/-- R160: PROFILE_WRITE in its LIVE form. -/
def asksLive (pl : List Byte) : Bool := byteAt pl 1 == 1

/-- R167: PROFILE_PROTECT in its SESSION form. -/
def asksSession (pl : List Byte) : Bool := byteAt pl 0 == 1

/-- A command the table's row can carry. -/
def Instr.wellFormed (i : Instr) : Bool :=
  match i with
  | .setMode _ pl => payloadFits pl
  | .sourceConfigure _ pl => payloadFits pl
  | .sourceQuery _ pl => payloadFits pl
  | .measure _ pl => payloadFits pl
  | .portConfigure _ pl => payloadFits pl
  | .portQuery _ pl => payloadFits pl
  | .portRequest _ pl => payloadFits pl
  | .portRelease _ pl => payloadFits pl
  | .portClear _ pl => payloadFits pl
  | .setEnvelope _ pl => payloadFits pl
  | .allocQuery _ pl => payloadFits pl
  | .relaySend _ pl => payloadFits pl
  | .relayCancel _ pl => payloadFits pl
  | .relayFetch _ pl => payloadFits pl && !asksAny pl
  | .relayFetchAny _ pl => asksAny pl
  | .lineReset _ pl => payloadFits pl
  | .profileRead _ pl => payloadFits pl
  | .profileWrite _ pl => payloadFits pl && !asksLive pl
  | .profileWriteLive _ pl => payloadFits pl && asksLive pl
  | .profileProtectModeMap _ pl => payloadFits pl && !asksSession pl
  | .profileProtectSession _ pl => payloadFits pl && asksSession pl
  | .identify _ pl => payloadFits pl
  | .getStatus _ pl => payloadFits pl
  | .linkSet _ pl => payloadFits pl
  | .noticeConfig _ pl => payloadFits pl
  | .noticeFetch _ pl => payloadFits pl
  | .resetPrepare _ pl => payloadFits pl
  | .reset _ pl => payloadFits pl
  | .unknownCommand t _ pl => payloadFits pl && (commandOfType t).isNone
  | .por | .pinReset | .loadingComplete | .lockChange _ | .sampleCompletion _ _ _ | .qualifyExpiry _
  | .comparatorAsserts _ | .comparatorReleases _ | .changeoverEnd | .changeoverBeginEvent | .changeoverEndEvent
  | .noSourceEvent | .graceExpiry _ | .restoreHoldExpiry | .powerGood _ | .startTimeout _ | .hardTrip _
  | .tripComparatorAsserts _ | .tripComparatorReleases _ | .filteredTrip _ | .coolingExpiry _ | .recloseTimeout _
  | .cleanRun _ | .startComplete _ | .startFail _ | .trip _ | .retryLimit _ | .announce _ _ _ _ | .request _ _
  | .characterReceived _ _ | .lineGapExpiry _ | .lineBreak _ | .pendingRateInForce _ | .breakEnd _ | .recordStart _
  | .recordSent _ | .collision _ | .backoffStart _ | .backoffExpiry _ | .channelWaitExpiry _ | .writeComplete
  | .protectionWriteComplete | .linkCharacterReceived _ | .linkGapExpiry | .linkBreak | .frameBegin | .frameEnd
  | .receiverRateChange | .conversionStart _ | .lineValidStart _ | .linkValidStart | .resetRelease => true

/-- The control frame of a command row; `none` for a row that is an event. -/
def Instr.frame (i : Instr) : Option Frame :=
  match i with
  | .setMode t pl => some ⟨Command.setMode.type, t, pl⟩
  | .sourceConfigure t pl => some ⟨Command.sourceConfigure.type, t, pl⟩
  | .sourceQuery t pl => some ⟨Command.sourceQuery.type, t, pl⟩
  | .measure t pl => some ⟨Command.measure.type, t, pl⟩
  | .portConfigure t pl => some ⟨Command.portConfigure.type, t, pl⟩
  | .portQuery t pl => some ⟨Command.portQuery.type, t, pl⟩
  | .portRequest t pl => some ⟨Command.portRequest.type, t, pl⟩
  | .portRelease t pl => some ⟨Command.portRelease.type, t, pl⟩
  | .portClear t pl => some ⟨Command.portClear.type, t, pl⟩
  | .setEnvelope t pl => some ⟨Command.setEnvelope.type, t, pl⟩
  | .allocQuery t pl => some ⟨Command.allocQuery.type, t, pl⟩
  | .relaySend t pl => some ⟨Command.relaySend.type, t, pl⟩
  | .relayCancel t pl => some ⟨Command.relayCancel.type, t, pl⟩
  | .relayFetch t pl => some ⟨Command.relayFetch.type, t, pl⟩
  | .relayFetchAny t pl => some ⟨Command.relayFetch.type, t, pl⟩
  | .lineReset t pl => some ⟨Command.lineReset.type, t, pl⟩
  | .profileRead t pl => some ⟨Command.profileRead.type, t, pl⟩
  | .profileWrite t pl => some ⟨Command.profileWrite.type, t, pl⟩
  | .profileWriteLive t pl => some ⟨Command.profileWrite.type, t, pl⟩
  | .profileProtectModeMap t pl => some ⟨Command.profileProtect.type, t, pl⟩
  | .profileProtectSession t pl => some ⟨Command.profileProtect.type, t, pl⟩
  | .identify t pl => some ⟨Command.identify.type, t, pl⟩
  | .getStatus t pl => some ⟨Command.getStatus.type, t, pl⟩
  | .linkSet t pl => some ⟨Command.linkSet.type, t, pl⟩
  | .noticeConfig t pl => some ⟨Command.noticeConfig.type, t, pl⟩
  | .noticeFetch t pl => some ⟨Command.noticeFetch.type, t, pl⟩
  | .resetPrepare t pl => some ⟨Command.resetPrepare.type, t, pl⟩
  | .reset t pl => some ⟨Command.reset.type, t, pl⟩
  | .unknownCommand y t pl => some ⟨y, t, pl⟩
  | .por | .pinReset | .loadingComplete | .lockChange _ | .sampleCompletion _ _ _ | .qualifyExpiry _
  | .comparatorAsserts _ | .comparatorReleases _ | .changeoverEnd | .changeoverBeginEvent | .changeoverEndEvent
  | .noSourceEvent | .graceExpiry _ | .restoreHoldExpiry | .powerGood _ | .startTimeout _ | .hardTrip _
  | .tripComparatorAsserts _ | .tripComparatorReleases _ | .filteredTrip _ | .coolingExpiry _ | .recloseTimeout _
  | .cleanRun _ | .startComplete _ | .startFail _ | .trip _ | .retryLimit _ | .announce _ _ _ _ | .request _ _
  | .characterReceived _ _ | .lineGapExpiry _ | .lineBreak _ | .pendingRateInForce _ | .breakEnd _ | .recordStart _
  | .recordSent _ | .collision _ | .backoffStart _ | .backoffExpiry _ | .channelWaitExpiry _ | .writeComplete
  | .protectionWriteComplete | .linkCharacterReceived _ | .linkGapExpiry | .linkBreak | .frameBegin | .frameEnd
  | .receiverRateChange | .conversionStart _ | .lineValidStart _ | .linkValidStart | .resetRelease => none

end Sys2Proof
end

