-- ==== Sys2Proof/Safety.lean ====
section
/-! DEFINITION. What a legal state of the chip is: the invariants that the numbered rules state of every moment, and the
terms in which the statements about commands are made. Every invariant is over plain data and can be decided. -/

namespace Sys2Proof.Machine

/-! ## Commands of the host -/

/-- R112, R174, R182: the decoder takes a command frame that arrives now: no reset is held, INIT is over, no command waits
ahead of it, the reply queue has a free place, and no link reset is pending. -/
abbrev DecoderFree (s : State) : Prop :=
  s.resetHeld = false ∧ s.mode ≠ .init ∧ s.link.commands = [] ∧ s.link.hasPlace = true ∧ s.link.resetPending = false

/-- R174, R175, R182: the state after a command other than RESET_PREPARE has been answered: its reply stands at the end
of the reply queue, and prepared is no. -/
def answered (c : Command) (tag : Byte) (r : Result) (fields : List Byte) (s : State) : State :=
  { s with
    link :=
      { s.link with
        replies := s.link.replies ++ [⟨replyFrame c.type tag r fields, none, false⟩]
        prepared := false } }

/-- A run of commands, each on the state the one before it left. -/
def execAll : List Instr → State → Host.Outcome State Fault Refusal
  | [], s => .next s
  | i :: rest, s =>
    match exec i s with
    | .next t => execAll rest t
    | .fault r => .fault r
    | .refused r => .refused r

/-- R123, R124: a clean character as a line receives it: its valid start and its stop decision. -/
def lineCharEvents (p : Port) (mark : Bool) (b : Byte) : List Instr :=
  [.lineValidStart p, .characterReceived p (cleanChar b mark)]

/-- R123, R130: the characters of a record as a line receives them, the first with its mark bit set. -/
def recordEvents (p : Port) : List Byte → List Instr
  | [] => []
  | b :: rest => lineCharEvents p true b ++ rest.flatMap (lineCharEvents p false)

/-- R169, R171: the characters of a frame as the link receives them. -/
def frameEvents (l : List Byte) : List Instr :=
  l.flatMap (fun b => [.linkValidStart, .linkCharacterReceived (cleanLinkChar b)])

/-! ## Switches (R50 to R52) -/

/-- R50 to R52: the state after a switch has taken the record `w`, posted its PORT_FAULT notice and sent its report. -/
def switchReports (p : Port) (w : SwitchRec) (r : Report) (s : State) : State :=
  { s with
    switches := tput s.switches p w
    link := s.link.post (.portFault p w.lastFault w.tripCount w.retry w.state)
    reports := tput s.reports p (tget s.reports p ++ [r]) }

/-! ## The allocation table (R60 to R62, R64, R102, R104, R105, R107) -/

/-- R60, R61, R88: each port stands in the list its allocation state names, once; in INIT every port is OFF. -/
abbrev ListsFollowStates (s : State) : Prop :=
  s.engine.queue.Nodup ∧ s.engine.granted.Nodup ∧
    (∀ p : Port, p ∈ s.engine.queue ↔ (s.alloc p).queued = true) ∧
    (∀ p : Port, p ∈ s.engine.granted ↔ (s.alloc p).granted = true) ∧ (s.mode = .init → ∀ p : Port, s.alloc p = .off)

/-- R62: a slot is held exactly in STARTING and HELD, by one port each. -/
abbrev SlotsFollowStates (s : State) : Prop :=
  (∀ p : Port, (s.engine.slot0 = some p ∨ s.engine.slot1 = some p) ↔ (s.alloc p).slotted = true) ∧
    (s.engine.slot0 = none ∨ s.engine.slot0 ≠ s.engine.slot1)

/-- R60, R102: the queue is in key order, highest key at the head, and holds no request of 0 mW. -/
abbrev QueueInOrder (s : State) : Prop :=
  s.engine.queue.Pairwise (fun p q => s.key p ≤ s.key q) ∧ ∀ p ∈ s.engine.queue, 0 < (s.port p).request

/-- R104, R105, R107: a port of the granted list has no parent, or one in ON, or one in SHEDDING and is in SHEDDING
itself; and no chain of parents leads back to its port. -/
abbrev ParentsUp (s : State) : Prop :=
  (∀ p q : Port, p ∈ s.engine.granted → (s.cfg p).parent = some q →
      (s.alloc q == .on || (s.alloc q == .shedding && s.alloc p == .shedding)) = true) ∧
    ∀ p : Port, leadsTo s.parentOf p 8 p = false

/-- R61, R64: only a port of the granted list has a switch that is not OPEN, and a grant. -/
abbrev OnlyGrantedHavePower (s : State) : Prop :=
  ∀ p : Port, (s.alloc p).granted = true ∨ ((s.switch p).state = .opened ∧ (s.port p).grant = 0)

/-- What the rules of chapters 4 and 5 state of the allocation table at every moment. -/
abbrev TableConsistent (s : State) : Prop :=
  ListsFollowStates s ∧ SlotsFollowStates s ∧ QueueInOrder s ∧ ParentsUp s ∧ OnlyGrantedHavePower s

/-- The allocation table between handlings: no admission opportunity is left open (the model's own field). -/
abbrev AllocationConsistent (s : State) : Prop := TableConsistent s ∧ s.engine.opportunity = false

/-- R90, R102: the record of a port that has entered SHED from the granted list; one with a request of 0 mW is in OFF
instead (log entry 23). -/
def shedRecord (why : ShedReason) (r : PortRec) : PortRec :=
  if r.request = 0 then
    { r with alloc := .off, grant := 0, origin := none, reason := none, grace := none, overdraw := 0 }
  else { r with alloc := .shed, grant := 0, reason := some why, grace := none, overdraw := 0 }

/-- R96: retained power is within the envelope, unless every port of the granted list that is not in SHEDDING is
ESSENTIAL. -/
abbrev EnvelopeRespected (s : State) : Prop :=
  s.retained ≤ s.engine.envelope ∨
    ∀ p ∈ s.engine.granted, s.alloc p = .shedding ∨ s.essential p = true

/-- R96, R77: `v` is the lowest-keyed port of a list in order of admission, the latest admitted among equal keys. -/
abbrev LowestKeyed (s : State) (l : List Port) (v : Port) : Prop :=
  v ∈ l ∧ ∀ q ∈ l, s.key q < s.key v ∨ (s.key q = s.key v ∧ l.idxOf q ≤ l.idxOf v)

/-- R99: `p` goes before `q` in the walk of a cancellation: a higher key, or the same key and admitted earlier. -/
abbrev GoesBefore (s : State) (p q : Port) : Prop :=
  s.key p < s.key q ∨ (s.key p = s.key q ∧ s.engine.granted.idxOf p < s.engine.granted.idxOf q)

/-- R99: the walk of a cancellation tests `p`: it is in SHEDDING with reason ENVELOPE, and has no parent that is not ON. -/
abbrev MayReturn (s : State) (p : Port) : Prop :=
  p ∈ s.engine.granted ∧ s.alloc p = .shedding ∧ (s.port p).reason = some .envelope ∧ s.parentOn p = true

/-- R75: the admission pass skips the entry. A port that a change of mode has shed is not held back by the restore hold
(log entry 38). -/
abbrev PassSkips (s : State) (p : Port) : Prop :=
  (∃ q, (s.cfg p).parent = some q ∧ s.alloc q ≠ .on) ∨ s.mode = .init ∨ s.mode = .standby ∨
    (s.mode = .economy ∧ (s.cfg p).cls ≠ .essential) ∨
    (s.engine.restoreHold.isSome = true ∧ (s.cfg p).cls ≠ .essential ∧
      ¬(s.alloc p = .shed ∧ (s.port p).reason = some .mode))

/-- R91, R105: the record of a port after a shed order, by its state. -/
def shedOrderRecord (why : ShedReason) (r : PortRec) : PortRec :=
  match r.alloc with
  | .on =>
    if r.config.shedGrace = 0 then shedRecord why r
    else { r with alloc := .shedding, reason := some why, grace := some (r.config.shedGrace * 1000) }
  | .starting => shedRecord why r
  | .held => shedRecord why r
  | .shedding => if why = .mode then { r with reason := some .mode } else r
  | .off => r
  | .waiting => r
  | .shed => r
  | .faulted => r

/-! ## The selector (R9 to R13, R17) -/

/-- R10, R14, R17: the priority order names every source; before the first load nothing is selected and the chip is in
INIT; after it, outside a changeover, the active source is usable, or it is NONE and no source is usable. -/
abbrev BusAgreement (s : State) : Prop :=
  (∀ x ∈ allSources, x ∈ s.sel.settings.order) ∧
    (s.sel.loaded = false → s.mode = .init ∧ s.sel.active = none ∧ s.sel.changeover = none) ∧
    (s.sel.loaded = true → s.sel.changeover = none →
      (∀ x ∈ allSources, s.sel.active = some x → s.usable x = true) ∧
        (s.sel.active = none → ∀ x ∈ allSources, s.usable x = false))

/-- R9, R11, R13: a SEL pin is on exactly for the active source outside a changeover. -/
abbrev BreakBeforeMake (s : State) : Prop :=
  ∀ x ∈ allSources, (s.source x).selPin = true ↔ (s.sel.changeover = none ∧ s.sel.active = some x)

/-! ## Queues (R139, R173, R175, R177) -/

/-- R177: no two entries of the notice queue have the same kind and subject. -/
abbrev NoticesDistinct (l : List Notice) : Prop := l.Pairwise (fun a b => a.sameAs b = false)

/-- R139: the pool holds at most 32 records, and at most 8 of one port. -/
abbrev PoolBounded (x : Pool) : Prop := x.arrivals.length ≤ Config.poolSlots ∧ ∀ p : Port, x.held p ≤ Config.portQuota

/-- R175: the reserved places are those of the sends in flight and of the write in progress, and the places in use are
at most 8. -/
abbrev PlacesAccounted (s : State) : Prop :=
  s.link.reserved = (allChannels.filter (fun c => (s.channel c).isSome)).length + s.storeBusy.toNat ∧
    s.link.placesUsed ≤ Config.replySlots

/-- R139, R173, R175, R177. -/
abbrev QueuesBounded (s : State) : Prop :=
  s.link.commands.length ≤ Config.commandSlots ∧ NoticesDistinct s.link.notices ∧ PoolBounded s.pool ∧ PlacesAccounted s

/-! ## Counters (R27, R46, R50) -/

/-- R27: the accumulator of a channel. -/
abbrev AccumulatorsBounded (s : State) : Prop := ∀ ch : SenseChannel, (s.sample ch).acc ≤ 32767

/-- R46, R50: the trip count holds at 255, and the retry counter never exceeds the retry limit. -/
abbrev FaultCountsBounded (s : State) : Prop :=
  ∀ p : Port, (s.switch p).tripCount ≤ Config.tripCountMax ∧ (s.switch p).retry ≤ (s.cfg p).retryLimit

/-! ## Modes, rails and lines (R112, R115, R116) -/

/-- R112, R115, R116, R118, R126: rails and lines go together, off in INIT and on in RUN and ECONOMY; while they are off
every line is OFF; the receiver and the transmitter of a line are OFF together, and then no gap runs. -/
abbrev RailsAndLines (s : State) : Prop :=
  s.rails = s.linesOn ∧ (s.mode = .init → s.rails = false) ∧ (s.mode = .run ∨ s.mode = .economy → s.rails = true) ∧
    (∀ p : Port, s.linesOn = true ∨ (s.line p).tx = .off) ∧
    (∀ p : Port, ((s.line p).rx = .off ↔ (s.line p).tx = .off) ∧ ((s.line p).tx = .off → (s.line p).gap = none))

/-! ## Send channels (R147, R150) -/

/-- R147, R150: the targets of a send in ascending order, the position one of them, and one outcome for each target
before it. -/
abbrev SendInOrder (x : Send) : Prop :=
  x.targets.Pairwise (fun p q => p < q) ∧ x.position ∈ x.targets ∧
    x.outcomes.length = (x.targets.filter (fun p => p < x.position)).length

/-- R150: every channel in SENDING keeps its targets and outcomes in order. -/
abbrev SendsInOrder (s : State) : Prop := ∀ c : SendNo, ∀ x ∈ s.channel c, SendInOrder x

/-! ## Protection (R166, R167) -/

/-- The write is one of the protection settings. -/
def WriteTarget.isProtection : WriteTarget → Bool
  | .slot _ _ => false
  | .protection _ => true

/-- R166: the protection mode is FIXED, and no write of the protection settings is in progress. -/
abbrev ProtectionFixed (s : State) : Prop :=
  s.store.protection.mode = .fixed ∧ ∀ w ∈ s.store.write, w.target.isProtection = false

/-! ## Stored configurations (Tables 3-1, 4-1, 1-1, 1-2, 4-4) -/

/-- Tables 3-1 and 4-1: the configuration of a port lies in its ranges and on its steps. -/
abbrev PortConfig.inRange (c : PortConfig) : Prop :=
  c.rank ≤ 7 ∧ c.cap ≤ 120000 ∧ (200 ≤ c.tripCurrent ∧ c.tripCurrent ≤ 20000 ∧ c.tripCurrent % 50 = 0) ∧
    (1 ≤ c.retryLimit ∧ c.retryLimit ≤ 15) ∧ (c.shedGrace ≤ 2000 ∧ c.shedGrace % 50 = 0)

/-- Table 1-1, R14: the configuration of a source lies in its ranges and on its steps. A soft floor above 16,000 mV is
one that was raised. -/
abbrev SourceConfig.inRange (c : SourceConfig) : Prop :=
  (1000 ≤ c.capacity ∧ c.capacity ≤ 20000 ∧ c.capacity % 100 = 0) ∧
    (9000 ≤ c.hardFloor ∧ c.hardFloor ≤ 16000 ∧ c.hardFloor % 100 = 0) ∧
    (c.hardFloor + 400 ≤ c.softFloor ∧ c.softFloor % 100 = 0 ∧
      (c.softFloor ≤ 16000 ∨ c.softFloor = c.hardFloor + 400))

/-- Tables 1-1, 1-2, 4-4, R114: a system profile lies in its ranges and on its steps, and its order names each source
once. -/
abbrev SystemProfile.inRange (x : SystemProfile) : Prop :=
  x.sa.inRange ∧ x.sb.inRange ∧ x.sd.inRange ∧ x.settings.order.Perm allSources ∧
    (20 ≤ x.settings.qualifyTime ∧ x.settings.qualifyTime ≤ 2000 ∧ x.settings.qualifyTime % 10 = 0) ∧
    x.bodyReserve ≤ 100000 ∧ x.restoreMargin ≤ 20000 ∧
    (500 ≤ x.restoreHoldTime ∧ x.restoreHoldTime ≤ 10000 ∧ x.restoreHoldTime % 100 = 0)

end Sys2Proof.Machine
end

