-- ==== Sys2Proof/Certificates/Slice0/Obligations.lean ====
section
/-! DEFINITION. The statements for the provers. Each is about every state, or about every state that meets an invariant of
Safety.lean which is itself a statement here. `exec i s = .next t` is what a command does to everything but the queue. -/

section
open Sys2Proof Sys2Proof.Machine

/-! ## The step -/

/-- The step runs the command at the front of the queue on the state with the rest of the queue. -/
def Obligations.StepRunsFrontCommand : Prop :=
  ∀ (i : Instr) (rest : List Instr) (s : State),
    step { s with pending := i :: rest } = exec i { s with pending := rest }

/-- No command of the chip stops it: each has a next state, and none touches the queue. -/
def Obligations.EveryCommandCompletes : Prop :=
  ∀ (i : Instr) (s : State), ∃ t, exec i s = .next t ∧ t.pending = s.pending

/-- On an empty queue a microsecond passes (the model's choice, log entry 3). Every timer that runs moves by 1 µs, or by
the bit units of one (1/625 of a bit time, log entry 4), and stands still at its end; nothing else changes: no
changeover, switch state, stage or mark but its own time, and the counter of the free values. R130: the idle time of a
line that is high and listened to runs, or restarts at a falling edge; whether one comes, and how long the line then
stays low, are free values (log entry 46). While a reset is held not even the timers move: that no time passes there is
the model's choice too (log entry 2). -/
def Obligations.IdleStepMovesOnlyTimers : Prop :=
  ∀ s : State, s.pending = [] →
    (s.resetHeld = true → step s = .next s) ∧
    (s.resetHeld = false →
      ∃ t, step s = .next t ∧
        t = { s with
              sel :=
                { s.sel with
                  sa := t.sel.sa
                  sb := t.sel.sb
                  sd := t.sel.sd
                  changeover := s.sel.changeover.map (fun c => { c with remaining := c.remaining - 1 }) }
              switches := t.switches
              ports := t.ports
              engine := { s.engine with restoreHold := s.engine.restoreHold.map (fun n => n - 1) }
              lines := t.lines
              channels := t.channels
              link := { s.link with gap := s.link.gap.map (fun n => n - 720 / s.link.rxDivisor.value) }
              choices := s.choices + 1 } ∧
        (∀ x ∈ allSources, t.source x = { s.source x with qualify := (s.source x).qualify.map (fun n => n - 1) }) ∧
        (∀ p : Port, t.port p = { s.port p with grace := (s.port p).grace.map (fun n => n - 1) }) ∧
        (∀ p : Port,
          t.switch p =
            { s.switch p with
              filter := (s.switch p).filter.map (fun n => min (n + 1) 64)
              state :=
                match (s.switch p).state with
                | .opened => .opened
                | .ramping r e => .ramping r (min (e + 1) (2 * r.millis * 1000))
                | .paused r e => .paused r e
                | .closed n => .closed (min (n + 1) 1000000)
                | .cooling (.wait n) len => .cooling (.wait (n - 1)) len
                | .cooling .due len => .cooling .due len
                | .cooling (.reclose n) len => .cooling (.reclose (n - 1)) len }) ∧
        (∀ p : Port,
          let l := s.line p
          let u := 384 / l.rate.divisor
          let counts := l.rx ≠ .off ∧ l.tx ≠ .sending ∧ l.tx ≠ .breaking ∧ l.charInProgress = false ∧ l.low = 0
          t.line p =
              { l with
                gap := l.gap.map (fun n => n - u)
                breakRemaining := l.breakRemaining.map (fun n => n - u)
                backoff := l.backoff.map (fun n => n - u)
                idle := (t.line p).idle
                low := (t.line p).low } ∧
            (counts →
              ((t.line p).idle = min (l.idle + u) (2 * 6875) ∧ (t.line p).low = 0) ∨ (t.line p).idle = 0) ∧
            (¬counts → (t.line p).idle = l.idle ∧ (t.line p).low = l.low - u)) ∧
        (∀ c : SendNo,
          t.channel c =
            (s.channel c).map (fun x =>
              { x with
                stage :=
                  match x.stage with
                  | .waiting n => .waiting (n - 1)
                  | .onLine => .onLine })))

/-! ## Resets and INIT -/

/-- POR and pin reset: every block at its reset value (R17, R33, R55, R88, R112, R138, R146, R156, R184), the session
lock cleared by POR alone (R164), and a write in progress cut off: a slot is INVALID, the protection settings are the
old ones (R162, R163, R168). The model's own choices in it: the reset is held, and LOCK and the comparator levels are
kept (log entry 2); the power-good levels are low (log entry 7); a character of the link under way is dropped and its
receiver takes divisor 10 at once (log entry 44); events, reports and records not taken yet are gone (log entry 18); the
loaded cold-start requests are 0 until INIT loads them (log entry 28). -/
def Obligations.HardResetReturnsEveryBlock : Prop :=
  ∀ (i : Instr) (lock : Bool) (s : State),
    (i = .por ∧ lock = false) ∨ (i = .pinReset ∧ lock = s.store.sessionLock) →
    ∃ t, exec i s = .next t ∧ t.resetHeld = true ∧ t.mode = .init ∧ t.initByLink = false ∧ t.rails = false ∧
      t.linesOn = false ∧ t.lockLow = s.lockLow ∧ t.selEvents = [] ∧ (∀ p : Port, t.reportsOf p = [] ∧ t.recordsOf p = []) ∧
      (t.sel.active = none ∧ t.sel.changeover = none ∧ t.sel.loaded = false) ∧
      (∀ x ∈ allSources,
        (t.source x).selPin = false ∧ (t.source x).qualify = none ∧
          (t.source x).comparator = (s.source x).comparator) ∧
      (∀ ch : SenseChannel,
        t.sample ch =
          ⟨0#12, 0, false, true, false,
            if ch.val < 4 then none else if ch.val < 12 then some .g16 else some .g4, none⟩) ∧
      (t.sense.converting = none ∧ t.sense.nextChannel = 0) ∧
      (∀ p : Port,
        t.switch p = ⟨.opened, none, false, 0, .none, 0, (s.switch p).tripLevel, false⟩ ∧
          t.port p = ⟨(t.port p).config, .off, 0, 0, none, none, false, 0, none, none⟩) ∧
      (t.engine =
        { t.engine with
          queue := [], granted := [], slot0 := none, slot1 := none, envelope := 0, restoreHold := none
          overcommit := false, held := false, opportunity := false }) ∧
      (∀ p : Port,
        ∃ rate, t.line p = ⟨rate, none, .off, false, none, .off, none, 0, 0, none, [], none, [], none, 0, none, .none, false⟩) ∧
      t.pool = ⟨[], Vector.replicate 8 false⟩ ∧ (∀ c : SendNo, t.channel c = none) ∧
      t.link = ⟨.d10, .d10, none, false, none, false, .push, 0b111111#6, false, [], [], 0, [], none⟩ ∧
      t.store =
        { s.store with
          sessionLock := lock
          coldStart := Vector.replicate 8 0
          write := none
          slots :=
            match s.store.write with
            | some ⟨.slot n _, _, _⟩ => tput s.store.slots n ⟨false, []⟩
            | some ⟨.protection _, _, _⟩ => s.store.slots
            | none => s.store.slots }

/-- R165: LOCK_CHANGE moves the LOCK level and nothing else. RESET_RELEASE ends the hold of a reset, which is a mark of
the model's own (log entry 2), and changes nothing else: sampling, the link's receiver and loading can go on from there
(R20, R33, R184). -/
def Obligations.LockPinAndResetRelease : Prop :=
  ∀ s : State,
    (∀ low : Bool, exec (.lockChange low) s = .next { s with lockLow := low }) ∧
      exec .resetRelease s = .next { s with resetHeld := false }

/-- R170, R176, R183: the end of a frame puts the divisor of a LINK_SET reply in force, or, after the RESET reply,
brings the link reset. That one keeps the selector, the sense unit and the store (R18, R34, R168) and the configuration
of each port until INIT loads it again; the switches, the engine, the lines, the pool, the channels and the link return
to their reset values (R55, R88, R138, R146, R156, R184). The model's own choices in it: with no frame FRAME_END changes
nothing (log entry 17); events, reports and records not taken yet are gone (log entry 18); P_BODY is 0 (log entry 34);
the trip levels are kept and the power-good levels low (log entries 2 and 7); a character under way is dropped (log
entry 44). -/
def Obligations.FrameEndTakesDivisorOrResets : Prop :=
  ∀ s : State,
    (s.link.sending = none → exec .frameEnd s = .next s) ∧
    (∀ w ∈ s.link.sending, w.isReset = false →
      exec .frameEnd s =
        .next { s with link := { s.link with sending := none, divisor := w.divisor.getD s.link.divisor } }) ∧
    (∀ w ∈ s.link.sending, w.isReset = true →
      ∃ t, exec .frameEnd s = .next t ∧
        t = { s with
              mode := .init
              initByLink := true
              rails := false
              linesOn := false
              switches := t.switches
              ports := t.ports
              engine := t.engine
              lines := t.lines
              pool := ⟨[], Vector.replicate 8 false⟩
              channels := Vector.replicate 3 none
              store := { s.store with write := none }
              link := ⟨.d10, .d10, none, false, none, false, .push, 0b111111#6, false, [], [], 0, [], none⟩
              selEvents := []
              reports := Vector.replicate 8 []
              records := Vector.replicate 8 [] } ∧
        (∀ p : Port,
          t.switch p = ⟨.opened, none, false, 0, .none, 0, (s.switch p).tripLevel, false⟩ ∧
            t.port p = ⟨(s.port p).config, .off, 0, 0, none, none, false, 0, none, none⟩ ∧
            t.line p =
              ⟨(s.line p).rate, none, .off, false, none, .off, none, 0, 0, none, [], none, [], none, 0, none, .none,
                false⟩) ∧
        t.engine =
          { s.engine with
            queue := [], granted := [], slot0 := none, slot1 := none, envelope := 0, restoreHold := none
            overcommit := false, held := false, pBody := 0, opportunity := false })

/-- R113, R114, R115, R158: the end of INIT. The mode becomes the power-up mode of slot 8, or STANDBY after a link
reset; RUN has the rails on and breaks driven on the enabled lines, STANDBY has everything off. The settings and the
port configurations are those of the slots, but for the parent of the first port of each cycle of parents (R108): `up n
q` is the port `n` parents above `q`. R89, R102: a port with a cold-start request waits with it, cut to its cap, in the
queue by key and then by port number; where the bus is up in RUN the first pass may have started it. A port whose
request the cap cuts to 0 mW stays OFF, and that the clamped mark is then no is the model's choice (log entry 41). -/
def Obligations.LoadingCompleteEndsInit : Prop :=
  ∀ s : State, s.mode = .init → s.resetHeld = false → AllocationConsistent s → RailsAndLines s →
    let system := loadedSystem (tget s.store.slots 8)
    let loaded := fun p : Port => loadedPort p (tget s.store.slots (portSlot p))
    let up := fun (n : Nat) (q : Port) => (fun o : Option Port => o.bind (fun r => (loaded r).parent))^[n] (some q)
    let firstOfCycle := fun p : Port =>
      (∃ n : Nat, up (n + 1) p = some p) ∧ ∀ (m : Nat) (q : Port), up m p = some q → p ≤ q
    ∃ t, exec .loadingComplete s = .next t ∧
      (s.initByLink = true → t.mode = .standby) ∧
      (s.initByLink = false → (t.mode = .standby ∨ t.mode = .run) ∧ (t.mode = .run ↔ system.powerUp = .run)) ∧
      (t.mode = .run → t.rails = true ∧ t.linesOn = true ∧
        ∀ p : Port, (t.line p).tx = if (t.cfg p).lineEnable = true then .breaking else .off) ∧
      (t.mode = .standby → t.rails = false ∧ t.linesOn = false ∧ ∀ p : Port, (t.line p).tx = .off) ∧
      t.initByLink = false ∧ t.sel.loaded = true ∧ t.powerUp = system.powerUp ∧ t.sel.settings = system.settings ∧
      t.engine.bodyReserve = system.bodyReserve ∧ t.engine.restoreMargin = system.restoreMargin ∧
      t.engine.restoreHoldTime = system.restoreHoldTime ∧
      (∀ p : Port,
        (firstOfCycle p → t.cfg p = { loaded p with parent := none }) ∧
          (¬firstOfCycle p → t.cfg p = loaded p) ∧ (t.line p).rate = (loaded p).lineRate ∧
          tget t.store.coldStart p = loadedColdStart (tget s.store.slots (portSlot p))) ∧
      t.store = { s.store with coldStart := t.store.coldStart } ∧
      (∀ x ∈ allSources,
        (t.source x).config =
          match x with
          | .sa => system.sa
          | .sb => system.sb
          | .sd => system.sd) ∧
      (t.sel.changeover.isSome = true → t.engine.held = true ∧ t.engine.envelope = s.engine.envelope) ∧
      (t.sel.changeover = none → t.engine.envelope = t.newEnvelope) ∧
      (∀ p : Port,
        let asked := tget t.store.coldStart p
        let req := min asked (loaded p).cap
        (req = 0 → t.port p = { s.port p with config := t.cfg p }) ∧
        (req ≠ 0 →
          (t.port p).request = req ∧ (t.port p).origin = some .profile ∧
            (t.port p).clamped = decide ((loaded p).cap < asked) ∧ (t.alloc p = .waiting ∨ t.alloc p = .starting))) ∧
      (t.mode = .standby ∨ t.engine.held = true ∨ t.sel.active = none →
        t.engine.granted = [] ∧ (∀ p : Port, p ∈ t.engine.queue ↔ min (tget t.store.coldStart p) (loaded p).cap ≠ 0) ∧
          t.engine.queue.Pairwise (fun p q => t.key p < t.key q ∨ (t.key p = t.key q ∧ p < q)))

/-! ## The source selector -/

/-- R6, and R7 in its steps: the selection result of each mode, against a reference source. -/
def Obligations.SelectionFollowsItsMode : Prop :=
  ∀ (s : State) (ref : Option Source),
    (s.sel.settings.mode = .priority →
      match selection ref s with
      | some x =>
        s.usable x = true ∧
          ∃ before after, s.sel.settings.order = before ++ x :: after ∧ ∀ y ∈ before, s.usable y = false
      | none => ∀ y ∈ s.sel.settings.order, s.usable y = false) ∧
    (s.sel.settings.mode = .drain →
      (s.usable .sd = true → selection ref s = some .sd) ∧
      (s.usable .sd = false →
        (∀ a b, (a = .sa ∧ b = .sb) ∨ (a = .sb ∧ b = .sa) → ref = some a → s.usable a = true →
          selection ref s = if s.usable b = true ∧ s.voltage b + 200 < s.voltage a then some b else some a) ∧
        ((∀ a ∈ ref, a = .sd ∨ s.usable a = false) →
          selection ref s =
            match s.usable .sa, s.usable .sb with
            | true, true => some (if s.voltage .sb < s.voltage .sa then .sb else .sa)
            | true, false => some .sa
            | false, true => some .sb
            | false, false => none)))

/-- R9 with R8: an evaluation outside a changeover has one of three outcomes; during one it is not made. -/
def Obligations.EvaluationHasThreeOutcomes : Prop :=
  ∀ s : State,
    (s.sel.changeover.isSome = true → evaluate s = s) ∧
    (s.sel.changeover = none →
      (selection s.sel.active s = s.sel.active → evaluate s = s) ∧
      (∀ x, selection s.sel.active s = some x → s.sel.active ≠ some x →
        (evaluate s).sel.changeover = some ⟨x, 3000⟩ ∧ (evaluate s).sel.active = s.sel.active ∧
          (evaluate s).selEvents = s.selEvents ++ [.changeoverBegin] ∧
          (∀ y ∈ allSources,
            (evaluate s).source y =
              { s.source y with
                selPin := if s.sel.active = some y then false else (s.source y).selPin }) ∧
          evaluate s = { s with sel := (evaluate s).sel, selEvents := (evaluate s).selEvents } ∧
          (evaluate s).sel.settings = s.sel.settings ∧ (evaluate s).sel.loaded = s.sel.loaded) ∧
      (∀ a, selection s.sel.active s = none → s.sel.active = some a →
        (evaluate s).sel.active = none ∧ (evaluate s).sel.changeover = none ∧
          (evaluate s).selEvents = s.selEvents ++ [.noSource] ∧
          (∀ y ∈ allSources,
            (evaluate s).source y = { s.source y with selPin := if a = y then false else (s.source y).selPin }) ∧
          (evaluate s).link = s.link.post (.sourceState a (s.source a).state (s.voltage a) none false) ∧
          evaluate s =
            { s with sel := (evaluate s).sel, selEvents := (evaluate s).selEvents, link := (evaluate s).link }))

/-- R2, R3: the comparator and the qualify timer of a source. Whatever the move, the other sources keep their records
but for a SEL pin that the evaluation drives off, and the rest of the chip gets an event and notices at most. The
model's own: outside its state, or with time left on the qualify timer, QUALIFY_EXPIRY changes nothing (log entries 3
and 17). -/
def Obligations.SourceEventsGradeTheSource : Prop :=
  ∀ (x : Source) (s : State),
    (∃ t, exec (.comparatorAsserts x) s = .next t ∧
      (s.sel.loaded = true → (s.source x).state ≠ .disabled →
        (t.source x).state = .over ∧ (t.source x).comparator = true ∧
          ((s.source x).state ≠ .over → (t.source x).qualify = none) ∧ (t.source x).config = (s.source x).config) ∧
      ((s.sel.loaded = false ∨ (s.source x).state = .disabled ∨ (s.source x).state = .over) →
        t = s.setSource x { s.source x with comparator := true }) ∧
      (∀ y ∈ allSources, y ≠ x → t.source y = { s.source y with selPin := (t.source y).selPin }) ∧
      t = { s with sel := t.sel, selEvents := t.selEvents, link := { s.link with notices := t.link.notices } }) ∧
    (∃ t, exec (.comparatorReleases x) s = .next t ∧
      (s.sel.loaded = true → (s.source x).state = .over →
        (t.source x).state = .qualifying ∧ (t.source x).comparator = false ∧
          (t.source x).qualify = some (s.sel.settings.qualifyTime * 1000)) ∧
      ((s.sel.loaded = false ∨ (s.source x).state ≠ .over) →
        t = s.setSource x { s.source x with comparator := false }) ∧
      (∀ y ∈ allSources, y ≠ x → t.source y = { s.source y with selPin := (t.source y).selPin }) ∧
      t = { s with sel := t.sel, selEvents := t.selEvents, link := { s.link with notices := t.link.notices } }) ∧
    (∃ t, exec (.qualifyExpiry x) s = .next t ∧
      (s.sel.loaded = true → (s.source x).state = .qualifying → (s.source x).qualify = some 0 →
        (t.source x).state = (if (s.source x).config.softFloor ≤ s.voltage x then .healthy else .low) ∧
          (t.source x).qualify = none) ∧
      ((s.sel.loaded = false ∨ (s.source x).state ≠ .qualifying ∨ (s.source x).qualify ≠ some 0) → t = s) ∧
      (∀ y ∈ allSources, y ≠ x → t.source y = { s.source y with selPin := (t.source y).selPin }) ∧
      t = { s with sel := t.sel, selEvents := t.selEvents, link := { s.link with notices := t.link.notices } })

/-- R13: the end of a changeover. The target is connected if it is usable; otherwise the changeover is continued to the
selection result with the reference taken as NONE; with no such source the active source is NONE. When the flag clears,
switches that wait in DUE re-close (R47). The model's own: with no changeover in progress, or one with time left, the
row changes nothing (log entries 3 and 17). -/
def Obligations.ChangeoverEndConnectsOrContinues : Prop :=
  ∀ s : State, (∀ x ∈ allSources, x ∈ s.sel.settings.order) →
    (s.sel.changeover = none → exec .changeoverEnd s = .next s) ∧
    (∀ c ∈ s.sel.changeover, c.remaining ≠ 0 → exec .changeoverEnd s = .next s) ∧
    (∀ c ∈ s.sel.changeover, c.remaining = 0 → s.usable c.target = true →
      ∃ t, exec .changeoverEnd s = .next t ∧ t.sel.active = some c.target ∧
        (selection (some c.target) s = some c.target →
          t.sel.changeover = none ∧ (t.source c.target).selPin = true ∧
            t.selEvents = s.selEvents ++ [.changeoverEnd]) ∧
        (∀ u, selection (some c.target) s = some u → u ≠ c.target →
          t.sel.changeover = some ⟨u, 3000⟩ ∧ (t.source c.target).selPin = false ∧
            t.selEvents = s.selEvents ++ [.changeoverEnd, .changeoverBegin]) ∧
        (∀ p : Port, ∀ len, (s.switch p).state = .cooling .due len →
          (t.switch p).state = .cooling (.reclose 2000) len) ∧
        (∀ x ∈ allSources, (t.source x).state = (s.source x).state)) ∧
    (∀ c ∈ s.sel.changeover, c.remaining = 0 → s.usable c.target = false → ∀ u, selection none s = some u →
      exec .changeoverEnd s = .next { s with sel := { s.sel with changeover := some ⟨u, 3000⟩ } }) ∧
    (∀ c ∈ s.sel.changeover, c.remaining = 0 → s.usable c.target = false → selection none s = none →
      ∃ t, exec .changeoverEnd s = .next t ∧ t.sel.active = none ∧ t.sel.changeover = none ∧
        t.selEvents = s.selEvents ++ [.noSource] ∧ (∀ x ∈ allSources, t.source x = s.source x) ∧
        (∀ p : Port, ∀ len, (s.switch p).state = .cooling .due len →
          (t.switch p).state = .cooling (.reclose 2000) len))

/-! ## The sense unit -/

/-- R20, R21, R24, R26, R27: a sample completion ends the conversion under way on its channel and updates the record of
that channel and of no other. R1, R5, R8, R16: a completion of V_SA, V_SB or V_SD grades its source by Table 1-3 against
the filtered voltage; a change of grade gives a SOURCE_STATE notice and an evaluation, and in DRAIN mode a plate's
completion gives an evaluation besides. With no conversion under way on the channel the row changes nothing (the model's
reading, log entry 12). R25: the completion of a conversion made at another gain than the one in force seeds the
accumulator, clears the pending gain, and chooses the gain of a port's channel again from the trip current. -/
def Obligations.SampleUpdatesItsChannelAndSource : Prop :=
  ∀ (ch : SenseChannel) (code : BitVec 12) (selectorFirst : Bool) (s : State),
    ((∀ c ∈ s.sense.converting, c.channel ≠ ch) → exec (.sampleCompletion ch code selectorFirst) s = .next s) ∧
    (∀ g : Option Gain, s.sense.converting = some ⟨ch, g⟩ →
      ∃ t, exec (.sampleCompletion ch code selectorFirst) s = .next t ∧
        t.sense.converting = none ∧ t.sense.nextChannel = s.sense.nextChannel ∧
        t.sample ch =
          { raw := code
            acc :=
              if (s.sample ch).seeded = false ∨ (s.sample ch).gain ≠ g then 8 * code.toNat
              else (s.sample ch).acc - (s.sample ch).acc / 8 + code.toNat
            seeded := true
            settled := s.sel.changeover.isNone
            saturated := (s.sample ch).gain.isSome && code == 4095#12
            gain := g
            pendingGain := (t.sample ch).pendingGain } ∧
        ((s.sample ch).gain = g → (t.sample ch).pendingGain = (s.sample ch).pendingGain) ∧
        ((s.sample ch).gain ≠ g →
          (∀ p : Port, ch = portChannel p →
            let trip := (s.cfg p).tripCurrent
            let chosen : Gain := if trip ≤ 6396 then .g16 else if trip ≤ 12793 then .g8 else if trip ≤ 25587 then .g4 else .g2
            (t.sample ch).pendingGain = if g = some chosen then none else some chosen) ∧
          ((∀ p : Port, ch ≠ portChannel p) → (t.sample ch).pendingGain = none)) ∧
        (∀ other : SenseChannel, other ≠ ch → t.sample other = s.sample other) ∧
        t.mode = s.mode ∧ t.pool = s.pool ∧ t.store = s.store ∧ (∀ p : Port, t.cfg p = s.cfg p) ∧
        ((∀ x ∈ allSources, ch ≠ sourceChannel x) ∨ s.sel.loaded = false →
          t.sel = s.sel ∧ t.selEvents = s.selEvents) ∧
        (∀ x ∈ allSources, ch = sourceChannel x → s.sel.loaded = true →
          let v := t.voltage x
          let old := s.source x
          let soft := old.config.softFloor
          let hard := old.config.hardFloor
          let graded : SourceState :=
            match old.state with
            | .disabled => .disabled
            | .over => .over
            | .absent | .qualifying => if v < 6000 then .absent else if v ≤ hard then .under else .qualifying
            | .healthy =>
              if v < 6000 then .absent else if v ≤ hard then .under else if v < soft then .low else .healthy
            | .low =>
              if v < 6000 then .absent else if v ≤ hard then .under else if soft + 200 ≤ v then .healthy else .low
            | .under => if v < 6000 then .absent else if hard + 400 < v then .qualifying else .under
          let regraded : SourceRec :=
            { old with
              state := graded
              qualify := if graded = .qualifying then some (s.sel.settings.qualifyTime * 1000) else none }
          let u : State :=
            { s with sense := t.sense, sel := if graded = old.state then s.sel else s.sel.set x regraded }
          (t.source x).state = graded ∧
            (graded ≠ old.state → s.link.mask.getLsbD 3 = true →
              ∃ active flag, Notice.sourceState x graded v active flag ∈ t.link.notices) ∧
            (graded ≠ old.state ∨ (s.sel.settings.mode = .drain ∧ x ≠ .sd) →
              t.sel = (evaluate u).sel ∧ t.selEvents = (evaluate u).selEvents) ∧
            (graded = old.state → s.sel.settings.mode = .priority ∨ x = .sd →
              t.sel = s.sel ∧ t.selEvents = s.selEvents)))

/-- R20, R25, R33: the conversion of the channel whose turn it is in the round starts at the pending gain if there is
one, and the round goes on to the next channel. One conversion is under way at a time, in the order of Table 2-1, and
none starts while a reset is held: any other CONVERSION_START changes nothing (the model's reading, log entry 12). -/
def Obligations.ConversionStartsAtPendingGain : Prop :=
  ∀ (ch : SenseChannel) (s : State),
    (s.resetHeld = false → s.sense.converting = none → s.sense.nextChannel = ch →
      ∃ next : SenseChannel, next.val = (ch.val + 1) % 13 ∧
        exec (.conversionStart ch) s =
          .next
            { s with
              sense :=
                { s.sense with
                  converting :=
                    some ⟨ch, match (s.sample ch).pendingGain with
                      | some g => some g
                      | none => (s.sample ch).gain⟩
                  nextChannel := next } }) ∧
    (s.resetHeld = true ∨ s.sense.converting.isSome = true ∨ s.sense.nextChannel ≠ ch →
      exec (.conversionStart ch) s = .next s)

/-- R27: the accumulator of a seeded channel steps to A - floor(A/8) + c and stays within its bounds, and the filtered
code within 0 and 4095. Under a constant code the filtered code reaches the code and stays there, with the accumulator
at most 7 above 8 × code; from below it climbs to exactly 8 × code. -/
def Obligations.FilterReachesAConstantCode : Prop :=
  ∀ (r : ChannelRec) (code : BitVec 12) (settled : Bool), r.seeded = true → r.acc ≤ 32767 →
    let step := fun x : ChannelRec => x.complete code r.gain settled
    (step r).acc = r.acc - r.acc / 8 + code.toNat ∧ (step r).filteredCode ≤ 4095 ∧
      (∀ n : Nat, (step^[n] r).acc ≤ 32767) ∧
      (∃ n : Nat, ∀ m : Nat, n ≤ m →
        (step^[m] r).filteredCode = code.toNat ∧ (step^[m] r).acc ≤ 8 * code.toNat + 7) ∧
      (r.acc ≤ 8 * code.toNat → ∃ n : Nat, ∀ m : Nat, n ≤ m → (step^[m] r).acc = 8 * code.toNat)

/-! ## The port switches -/

/-- R36, R39, R48: power good closes a ramping switch with a start complete report, and a re-closing one without; in
PAUSED it is not acted on; elsewhere it is nothing. The model's own: in PAUSED the level is noted, for the resume (log
entry 7). -/
def Obligations.PowerGoodClosesTheSwitch : Prop :=
  ∀ (p : Port) (s : State),
    (∀ r e, (s.switch p).state = .ramping r e →
      exec (.powerGood p) s =
        .next
          { s with
            switches :=
              tput s.switches p
                { s.switch p with
                  state := .closed 0
                  armed := true
                  filter := if (s.switch p).tripLevel = true then some 0 else none
                  powerGood := true }
            reports := tput s.reports p (s.reportsOf p ++ [.startComplete]) }) ∧
    (∀ r e, (s.switch p).state = .paused r e →
      exec (.powerGood p) s = .next { s with switches := tput s.switches p { s.switch p with powerGood := true } }) ∧
    (∀ n len, (s.switch p).state = .cooling (.reclose n) len →
      exec (.powerGood p) s =
        .next
          { s with
            switches :=
              tput s.switches p
                { s.switch p with
                  state := .closed 0
                  armed := true
                  filter := if (s.switch p).tripLevel = true then some 0 else none
                  powerGood := true } }) ∧
    ((s.switch p).state.code = 0 ∨ (s.switch p).state.code = 3 ∨
        (∃ n len, (s.switch p).state = .cooling (.wait n) len) ∨ (∃ len, (s.switch p).state = .cooling .due len) →
      exec (.powerGood p) s = .next s)

/-- R40, R47, R48, R49: the timers of a switch. The start timeout fails the start; the cooling ends in RECLOSE, or in
DUE while the changeover flag is set; the re-close timeout is a retry trip that the trip count does not count; the clean
run clears the retry counter once its count is at 1,000 ms, and not after a trip of the same moment has restarted it.
The model's own: the power-good level falls when the GATE is turned off (log entry 7), and each of these rows changes
nothing outside its state, or while its time has not run out (log entries 3 and 17). -/
def Obligations.SwitchTimersRunOut : Prop :=
  ∀ (p : Port) (s : State),
    (∀ r e, (s.switch p).state = .ramping r e →
      (2 * r.millis * 1000 ≤ e →
        exec (.startTimeout p) s =
          .next
            (switchReports p
              { s.switch p with
                state := .opened, armed := false, filter := none, powerGood := false, lastFault := .startFail }
              (.startFail .timeout) s)) ∧
      (e < 2 * r.millis * 1000 → exec (.startTimeout p) s = .next s)) ∧
    ((s.switch p).state.code ≠ 1 → exec (.startTimeout p) s = .next s) ∧
    (∀ len, (s.switch p).state = .cooling (.wait 0) len →
      exec (.coolingExpiry p) s =
        .next
          { s with
            switches :=
              tput s.switches p
                { s.switch p with
                  state := .cooling (if s.sel.changeover.isSome = true then .due else .reclose 2000) len } }) ∧
    (∀ len, (s.switch p).state = .cooling (.reclose 0) len →
      ((s.switch p).retry + 1 < (s.cfg p).retryLimit →
        exec (.recloseTimeout p) s =
          .next
            (switchReports p
              { s.switch p with
                state := .cooling (.wait (match len with | .ms5 => 5000 | .ms100 => 100000)) len
                armed := false, filter := none, powerGood := false, lastFault := .trip
                retry := (s.switch p).retry + 1 }
              (.trip .trip .cooling) s)) ∧
      ((s.cfg p).retryLimit ≤ (s.switch p).retry + 1 →
        exec (.recloseTimeout p) s =
          .next
            (switchReports p
              { s.switch p with
                state := .opened, armed := false, filter := none, powerGood := false, lastFault := .retryLimit
                retry := if (s.switch p).retry < (s.cfg p).retryLimit then (s.switch p).retry + 1 else (s.switch p).retry }
              .retryLimit s))) ∧
    (∀ n, (s.switch p).state = .closed n →
      (1000000 ≤ n → exec (.cleanRun p) s = .next { s with switches := tput s.switches p { s.switch p with retry := 0 } }) ∧
      (n < 1000000 → exec (.cleanRun p) s = .next s)) ∧
    ((s.switch p).state.code ≠ 3 → exec (.cleanRun p) s = .next s) ∧
    ((∀ len, (s.switch p).state ≠ .cooling (.wait 0) len) → exec (.coolingExpiry p) s = .next s) ∧
    ((∀ len, (s.switch p).state ≠ .cooling (.reclose 0) len) → exec (.recloseTimeout p) s = .next s)

/-- R41 to R46, R48, R50: what a hard trip and a filtered trip do, in a start, in CLOSED by the trip mode, and in a
re-close. A filtered trip needs an armed count that has reached the width. Below the retry limit the switch cools; at it
the switch opens for good, and a counter that already stands there stays. The model's own: the power-good level falls
when the GATE is turned off (log entry 7), and a filtered trip that is not due changes nothing (log entry 17). -/
def Obligations.TripsFollowTheTripMode : Prop :=
  ∀ (p : Port) (s : State),
    let w := s.switch p
    let count := if w.tripCount < 255 then w.tripCount + 1 else w.tripCount
    let off : SwitchRec := { w with armed := false, filter := none, powerGood := false, tripCount := count }
    let cool := fun (us : Nat) (len : CoolLength) (k : FaultKind) =>
      switchReports p
        { off with state := .cooling (.wait us) len, retry := w.retry + 1, lastFault := k } (.trip k .cooling) s
    let limit :=
      switchReports p
        { off with
          state := .opened
          retry := if w.retry < (s.cfg p).retryLimit then w.retry + 1 else w.retry
          lastFault := .retryLimit } .retryLimit s
    let opens := fun (k : FaultKind) =>
      switchReports p { off with state := .opened, lastFault := k } (.trip k .opened) s
    (∀ r e, w.state = .ramping r e ∨ w.state = .paused r e →
      exec (.hardTrip p) s =
        .next (switchReports p { off with state := .opened, lastFault := .hardTrip } (.startFail .hardTrip) s)) ∧
    (∀ n, w.state = .closed n →
      ((s.cfg p).tripMode = .report ∨ (s.cfg p).tripMode = .latch → exec (.hardTrip p) s = .next (opens .hardTrip)) ∧
      (w.retry + 1 < (s.cfg p).retryLimit →
        ((s.cfg p).tripMode = .retryFast → exec (.hardTrip p) s = .next (cool 5000 .ms5 .hardTrip)) ∧
        ((s.cfg p).tripMode = .retrySlow → exec (.hardTrip p) s = .next (cool 100000 .ms100 .hardTrip))) ∧
      ((s.cfg p).retryLimit ≤ w.retry + 1 → (s.cfg p).tripMode = .retryFast ∨ (s.cfg p).tripMode = .retrySlow →
        exec (.hardTrip p) s = .next limit)) ∧
    (∀ n e, w.state = .closed n → w.armed = true → w.filter = some e → (s.cfg p).tripFilter.micros ≤ e →
      ((s.cfg p).tripMode = .report →
        exec (.filteredTrip p) s =
          .next
            (switchReports p
              { w with state := .closed 0, armed := false, filter := none, tripCount := count, lastFault := .trip }
              (.trip .trip .heldClosed) s)) ∧
      ((s.cfg p).tripMode = .latch → exec (.filteredTrip p) s = .next (opens .trip)) ∧
      (w.retry + 1 < (s.cfg p).retryLimit →
        ((s.cfg p).tripMode = .retryFast → exec (.filteredTrip p) s = .next (cool 5000 .ms5 .trip)) ∧
        ((s.cfg p).tripMode = .retrySlow → exec (.filteredTrip p) s = .next (cool 100000 .ms100 .trip))) ∧
      ((s.cfg p).retryLimit ≤ w.retry + 1 → (s.cfg p).tripMode = .retryFast ∨ (s.cfg p).tripMode = .retrySlow →
        exec (.filteredTrip p) s = .next limit)) ∧
    ((s.switch p).state.code ≠ 3 ∨ w.armed = false ∨ (∀ e ∈ w.filter, e < (s.cfg p).tripFilter.micros) →
      exec (.filteredTrip p) s = .next s) ∧
    (∀ n len, w.state = .cooling (.reclose n) len →
      (w.retry + 1 < (s.cfg p).retryLimit →
        exec (.hardTrip p) s =
          .next (cool (match len with | .ms5 => 5000 | .ms100 => 100000) len .hardTrip)) ∧
      ((s.cfg p).retryLimit ≤ w.retry + 1 → exec (.hardTrip p) s = .next limit)) ∧
    (w.state = .opened ∨ (∃ n len, w.state = .cooling (.wait n) len) ∨ (∃ len, w.state = .cooling .due len) →
      exec (.hardTrip p) s = .next s)

/-- R42, R44: the trip comparator. An armed filter starts counting at an assertion; a release discards the count, and in
CLOSED arms the filter again. That a release which is taken first at the very moment the count reaches the width discards
it too is the model's choice (log entry 49). -/
def Obligations.TripComparatorDrivesTheFilter : Prop :=
  ∀ (p : Port) (s : State),
    exec (.tripComparatorAsserts p) s =
        .next
          { s with
            switches :=
              tput s.switches p
                { s.switch p with
                  tripLevel := true
                  filter :=
                    if (s.switch p).armed = true ∧ (s.switch p).tripLevel = false then some 0
                    else (s.switch p).filter } } ∧
      exec (.tripComparatorReleases p) s =
        .next
          { s with
            switches :=
              tput s.switches p
                { s.switch p with
                  tripLevel := false
                  filter := none
                  armed := if (s.switch p).state.code = 3 then true else (s.switch p).armed } }

/-! ## The allocation engine: events -/

/-- R80, R81: at the changeover begin event the engine holds: STARTING ports go to HELD and their ramping switches
pause, and nothing else of the ports changes. At the changeover end event it lets go: no port is left in HELD, and the
envelope is that of the active source as it stands (R66). A port that was HELD is in STARTING with its PAUSED switch
resumed, or closed where it already shows power good, which it reports (R37, R39); or the checks that follow have shed
it, its switch OPEN. That a PAUSED switch remembers power good is the model's reading (log entry 7), and so is that a
shed port with a request of 0 mW goes to OFF (log entry 23). -/
def Obligations.HeldFollowsTheChangeover : Prop :=
  ∀ (rest : List SelEvent) (s : State), s.mode ≠ .init → s.resetHeld = false →
    (s.selEvents = .changeoverBegin :: rest → s.engine.held = false →
      ∃ t, exec .changeoverBeginEvent s = .next t ∧ t.selEvents = rest ∧
        t.engine =
          { s.engine with held := true, overcommit := t.engine.overcommit, opportunity := t.engine.opportunity } ∧
        (∀ p : Port,
          t.port p = (if s.alloc p = .starting then { s.port p with alloc := .held } else s.port p) ∧
            t.switch p =
              match s.alloc p, (s.switch p).state with
              | .starting, .ramping r e => { s.switch p with state := .paused r e }
              | _, _ => s.switch p) ∧
        t.sel = s.sel ∧ t.sense = s.sense ∧ t.pool = s.pool ∧ t.store = s.store ∧ t.mode = s.mode) ∧
    (s.selEvents = .changeoverEnd :: rest →
      ∃ t, exec .changeoverEndEvent s = .next t ∧ t.selEvents = rest ∧ t.engine.held = false ∧
        t.engine.envelope = s.newEnvelope ∧ (∀ p : Port, t.alloc p ≠ .held) ∧
        (AllocationConsistent s → EnvelopeRespected s → ∀ p : Port, s.alloc p = .held →
          (t.alloc p = .starting ∧
              t.port p = { s.port p with alloc := .starting } ∧
              t.switch p =
                match (s.switch p).state with
                | .paused r e =>
                  if (s.switch p).powerGood = true then
                    { s.switch p with
                      state := .closed 0, armed := true
                      filter := if (s.switch p).tripLevel = true then some 0 else none }
                  else { s.switch p with state := .ramping r e }
                | .opened | .ramping _ _ | .closed _ | .cooling _ _ => s.switch p) ∨
            ((t.alloc p = .shed ∨ t.alloc p = .off) ∧ (t.port p).grant = 0 ∧ (t.switch p).state = .opened)) ∧
        (∀ p : Port, s.alloc p = .held →
          t.reportsOf p =
            match (s.switch p).state with
            | .paused _ _ => if (s.switch p).powerGood = true then s.reportsOf p ++ [.startComplete] else s.reportsOf p
            | .opened | .ramping _ _ | .closed _ | .cooling _ _ => s.reportsOf p) ∧
        (∀ p : Port, t.cfg p = s.cfg p) ∧
        t.sel = s.sel ∧ t.sense = s.sense ∧ t.pool = s.pool ∧ t.store = s.store ∧ t.mode = s.mode)

/-- R103, R90, R102: the no-source event sheds every port of the granted list at once, whatever its state and class, and
nothing is admitted while the envelope is 0. A port whose request has been cut to 0 mW goes to OFF, not to the queue
(the model's reading of R102, log entry 23). -/
def Obligations.NoSourceShedsEveryGrantedPort : Prop :=
  ∀ (rest : List SelEvent) (s : State), AllocationConsistent s → s.mode ≠ .init → s.resetHeld = false →
    s.selEvents = .noSource :: rest →
    ∃ t, exec .noSourceEvent s = .next t ∧ t.selEvents = rest ∧ t.engine.held = false ∧ t.engine.envelope = 0 ∧
      t.engine.granted = [] ∧ t.engine.overcommit = false ∧
      t.engine.restoreHold = some (s.engine.restoreHoldTime * 1000) ∧
      (∀ p ∈ s.engine.granted,
        t.port p = shedRecord .noSource (s.port p) ∧ (t.switch p).state = .opened ∧
          (p ∈ t.engine.queue ↔ (s.port p).request ≠ 0)) ∧
      (∀ p : Port, p ∉ s.engine.granted → t.port p = s.port p ∧ t.switch p = s.switch p)

/-- R90, R91, R105, R106: the shed order by the port's state. In ON with a grace it goes to SHEDDING, and its children
are shed with reason DEPENDENCY by their own states; in ON without one, in STARTING and in HELD it leaves with its
switch OPEN, and its children with it, a child in SHEDDING with its own reason; elsewhere only MODE touches a port in
SHEDDING. Ports that do not hang on it are left alone. R93, R101: the end of a grace sends its port to SHED, or at once
on to STARTING where the pass that follows takes it; while held is yes no pass runs and the move is exact. The end of
the restore hold stops it. The model's own: a port with a request of 0 mW goes to OFF where another would enter SHED
(log entry 23), and RESTORE_HOLD_EXPIRY and GRACE_EXPIRY change nothing where their timer does not run or has time left
(log entries 3 and 17). -/
def Obligations.ShedOrderAndEngineTimers : Prop :=
  (∀ (why : ShedReason) (p : Port) (s : State), TableConsistent s →
    let t := shed why p s
    t.port p = shedOrderRecord why (s.port p) ∧
      ((s.alloc p).granted = false → t = s) ∧
      (t.alloc p = .shedding → t.switch p = s.switch p ∧ p ∈ t.engine.granted) ∧
      ((s.alloc p).granted = true → t.alloc p ≠ .shedding → (t.switch p).state = .opened ∧ p ∉ t.engine.granted) ∧
      (s.alloc p ≠ .shedding → t.alloc p = .shedding → ∀ q ∈ s.engine.granted, (s.cfg q).parent = some p →
        t.port q = shedOrderRecord .dependency (s.port q)) ∧
      ((s.alloc p).granted = true → t.alloc p ≠ .shedding → ∀ q ∈ s.engine.granted, (s.cfg q).parent = some p →
        (t.switch q).state = .opened ∧
          t.port q =
            shedRecord (if s.alloc q = .shedding then (s.port q).reason.getD .dependency else .dependency) (s.port q)) ∧
      (∀ q : Port, q ≠ p → leadsTo s.parentOf p 8 q = false → t.port q = s.port q ∧ t.switch q = s.switch q) ∧
      t.engine.envelope = s.engine.envelope ∧ t.engine.restoreHold = s.engine.restoreHold) ∧
  (∀ (p : Port) (s : State),
    (s.alloc p = .shedding → (s.port p).grace = some 0 → p ∉ s.engine.queue →
      ∃ t, exec (.graceExpiry p) s = .next t ∧ (t.port p).grace = none ∧ (t.port p).request = (s.port p).request ∧
        ((s.port p).request ≠ 0 →
          (t.alloc p = .shed ∨ t.alloc p = .starting) ∧ (t.port p).origin = (s.port p).origin) ∧
        ((s.port p).request = 0 ∨ (s.engine.held = true ∧ (s.port p).reason.isSome = true) →
          t.port p = shedRecord ((s.port p).reason.getD .envelope) (s.port p) ∧ (t.switch p).state = .opened ∧
            p ∉ t.engine.granted)) ∧
    (s.alloc p ≠ .shedding ∨ (s.port p).grace ≠ some 0 → exec (.graceExpiry p) s = .next s) ∧
    (s.engine.restoreHold = some 0 →
      exec .restoreHoldExpiry s =
        .next (finish s { s with engine := { s.engine with restoreHold := none, opportunity := true } })) ∧
    (s.engine.restoreHold ≠ some 0 → exec .restoreHoldExpiry s = .next s))

/-- R78: a start complete whose switch has started takes a port of a start slot to ON and frees the slot. R78, R79: a
report that is stale, or that says the switch holds or cools, changes nothing but to be taken. -/
def Obligations.StartCompleteTurnsThePortOn : Prop :=
  ∀ (p : Port) (rest : List Report) (s : State),
    (s.reportsOf p = .startComplete :: rest → (s.switch p).state.code = 3 ∨ (s.switch p).state.code = 4 →
      s.alloc p = .starting ∨ s.alloc p = .held →
      exec (.startComplete p) s =
        .next
          (finish { s with reports := tput s.reports p rest }
            { s with
              reports := tput s.reports p rest
              ports := tput s.ports p { s.port p with alloc := .on, overdraw := 0 }
              engine :=
                { s.engine with
                  slot0 := if s.engine.slot0 = some p then none else s.engine.slot0
                  slot1 := if s.engine.slot1 = some p then none else s.engine.slot1
                  opportunity := true } })) ∧
    (∀ i : Instr,
      ((s.reportsOf p = .startComplete :: rest ∧ i = .startComplete p ∧
          ((s.switch p).state.code < 3 ∨ (s.alloc p).slotted = false)) ∨
        ((∃ c, s.reportsOf p = .startFail c :: rest) ∧ i = .startFail p ∧
          ((s.switch p).state ≠ .opened ∨ (s.alloc p).slotted = false)) ∨
        ((∃ k, s.reportsOf p = .trip k .opened :: rest) ∧ i = .trip p ∧
          ((s.switch p).state ≠ .opened ∨ (s.alloc p).granted = false)) ∨
        ((∃ k o, s.reportsOf p = .trip k o :: rest ∧ o ≠ .opened) ∧ i = .trip p) ∨
        (s.reportsOf p = .retryLimit :: rest ∧ i = .retryLimit p ∧
          ((s.switch p).state ≠ .opened ∨ (s.alloc p).granted = false))) →
      exec i s =
        .next (finish { s with reports := tput s.reports p rest } { s with reports := tput s.reports p rest }))

/-- R78, R79, R106: a start fail, an opening trip and a retry limit, taken with the switch OPEN, send the port to
FAULTED and its children in the granted list to SHED, or to OFF with a request of 0 mW (the model's reading of R102, log
entry 23). -/
def Obligations.SwitchFaultSendsThePortToFaulted : Prop :=
  ∀ (i : Instr) (p : Port) (rest : List Report) (s : State), AllocationConsistent s → (s.switch p).state = .opened →
    (((∃ c, s.reportsOf p = .startFail c :: rest) ∧ i = .startFail p ∧ (s.alloc p).slotted = true) ∨
      ((∃ k, s.reportsOf p = .trip k .opened :: rest) ∧ i = .trip p ∧ (s.alloc p).granted = true) ∨
      (s.reportsOf p = .retryLimit :: rest ∧ i = .retryLimit p ∧ (s.alloc p).granted = true)) →
    ∃ t, exec i s = .next t ∧ t.reportsOf p = rest ∧
      t.port p =
        { s.port p with
          alloc := .faulted, grant := 0, request := 0, reason := none, grace := none, overdraw := 0 } ∧
      (t.switch p).state = .opened ∧ p ∉ t.engine.granted ∧ p ∉ t.engine.queue ∧
      (∀ q : Port, q ≠ p → q ∈ s.engine.granted → (s.cfg q).parent = some p →
        t.alloc q = (if (s.port q).request = 0 then .off else .shed) ∧ (t.port q).grant = 0 ∧ (t.switch q).state = .opened) ∧
      t.sel = s.sel ∧ t.sense = s.sense ∧ t.pool = s.pool ∧ t.store = s.store ∧ t.mode = s.mode

/-- R64, R71, R72, R102: the engine takes an ANNOUNCE or a REQUEST: the one that heads the port's inbox, with the rest
left there, or one that the line hands over to an empty inbox. The identity of an ANNOUNCE is recorded under either
policy; the power is acted on under the ACCESSORY policy alone, 0 mW as a release and any other as a request of origin
ACCESSORY. The model's own: the inbox, where a record that comes while others wait joins the end (log entry 10), from
which a record is taken although its line has been disabled or is OFF by then (log entry 47), and a record that no line
can have handed over changes nothing (log entry 17). -/
def Obligations.AccessoryRecordsReachTheEngine : Prop :=
  ∀ (p : Port) (code : Byte) (power : BitVec 16) (ident : Vector Byte 8) (s : State), s.mode ≠ .init →
    let named := fun u : State => { u with ports := tput u.ports p { u.port p with identity := some ⟨code, ident⟩ } }
    let ann : AccRecord := .announce code power ident
    let req : AccRecord := .request power
    let takes := fun (r : AccRecord) (u : State) =>
      (s.recordsOf p = [] ∧ (s.line p).tx ≠ .off ∧ u = s) ∨
        ∃ rest, s.recordsOf p = r :: rest ∧ u = { s with records := tput s.records p rest }
    let joins := fun r : AccRecord => { s with records := tput s.records p (s.recordsOf p ++ [r]) }
    let released := fun t : State =>
      t.port p =
          { s.port p with
            identity := (t.port p).identity
            alloc := .off, grant := 0, request := 0, reason := none, grace := none, overdraw := 0 } ∧
        (t.switch p).state = .opened ∧ p ∉ t.engine.granted ∧ p ∉ t.engine.queue
    (∀ u, takes ann u →
      ((s.cfg p).policy = .link → exec (.announce p code power ident) s = .next (finish u (named u))) ∧
      ((s.cfg p).policy = .accessory → power ≠ 0 →
        exec (.announce p code power ident) s = .next (finish u (acceptRequest p power.toNat .accessory (named u)))) ∧
      ((s.cfg p).policy = .accessory → power = 0 → (s.alloc p = .off ∨ s.alloc p = .faulted) →
        exec (.announce p code power ident) s = .next (finish u (named u))) ∧
      (∃ t, exec (.announce p code power ident) s = .next t ∧ t.recordsOf p = u.recordsOf p ∧
        (t.port p).identity = some ⟨code, ident⟩ ∧
        ((s.cfg p).policy = .accessory → power = 0 → s.alloc p ≠ .off → s.alloc p ≠ .faulted → released t))) ∧
    (∀ u, takes req u →
      ((s.cfg p).policy = .link → exec (.request p power) s = .next (finish u u)) ∧
      ((s.cfg p).policy = .accessory → power ≠ 0 →
        exec (.request p power) s = .next (finish u (acceptRequest p power.toNat .accessory u))) ∧
      ((s.cfg p).policy = .accessory → power = 0 → (s.alloc p = .off ∨ s.alloc p = .faulted) →
        exec (.request p power) s = .next (finish u u)) ∧
      (∃ t, exec (.request p power) s = .next t ∧ t.recordsOf p = u.recordsOf p ∧
        (t.port p).identity = (s.port p).identity ∧
        ((s.cfg p).policy = .accessory → power = 0 → s.alloc p ≠ .off → s.alloc p ≠ .faulted → released t))) ∧
    (∀ h rest, s.recordsOf p = h :: rest →
      (h ≠ ann →
        exec (.announce p code power ident) s = .next (if (s.line p).tx = .off then s else joins ann)) ∧
      (h ≠ req → exec (.request p power) s = .next (if (s.line p).tx = .off then s else joins req))) ∧
    (s.recordsOf p = [] → (s.line p).tx = .off →
      exec (.announce p code power ident) s = .next s ∧ exec (.request p power) s = .next s)

/-- R80, R82, R83: the overdraw count of a port in ON at a settled completion of its channel, and its resolution at 50.
While held is yes overdraw does not count. A port that is shed with a grace is in SHEDDING at the end of the handling,
unless it has both a parent and a child in the granted list: what such a child frees can give an admission pass, which can
bump the parent with no grace, and R106 then sends the port on to SHED with its reason. One that goes there with a request
of 0 mW goes to OFF (the model's reading of R102, log entry 23). An ESSENTIAL port is regranted beyond the envelope, and
the shed check follows (R97). -/
def Obligations.OverdrawIsCountedAndResolved : Prop :=
  ∀ (p : Port) (code : BitVec 12) (g : Option Gain) (selectorFirst : Bool) (s : State), AllocationConsistent s →
    s.sense.converting = some ⟨portChannel p, g⟩ → s.mode ≠ .init → s.sel.changeover = none → s.alloc p = .on →
    let sampled := completeSample (portChannel p) code g s
    let power := (sampled.sample 3).filtered * (sampled.sample (portChannel p)).filtered / 1000
    let grant := (s.port p).grant
    let new := min 250000 ((power + 249) / 250 * 250)
    let beyond := grant + max (grant / 8) 500 < power
    let fits := s.committed - grant + new ≤ s.engine.envelope
    ∃ t, exec (.sampleCompletion (portChannel p) code selectorFirst) s = .next t ∧
      (s.engine.held = true → t.port p = s.port p ∧ t.engine = s.engine) ∧
      (s.engine.held = false →
        (¬beyond → t.port p = { s.port p with overdraw := 0 }) ∧
        (beyond → (s.port p).overdraw + 1 ≠ 50 → t.port p = { s.port p with overdraw := (s.port p).overdraw + 1 }) ∧
        (beyond → (s.port p).overdraw + 1 = 50 →
          (fits → t.port p = { s.port p with grant := new, request := new, clamped := false, overdraw := 0 }) ∧
          (¬fits → (s.cfg p).cls ≠ .essential →
            t.engine.restoreHold = some (s.engine.restoreHoldTime * 1000) ∧ (t.port p).overdraw = 0 ∧
              ((s.cfg p).shedGrace ≠ 0 →
                let inGrace := t.switch p = s.switch p ∧
                  t.port p =
                    { s.port p with
                      alloc := .shedding, reason := some .overdraw, grace := some ((s.cfg p).shedGrace * 1000)
                      overdraw := 0 }
                let gone := t.port p = shedRecord .overdraw (s.port p) ∧ (t.switch p).state = .opened
                (inGrace ∨ gone) ∧
                  ((s.cfg p).parent = none ∨ (∀ q ∈ s.engine.granted, (s.cfg q).parent ≠ some p) → inGrace)) ∧
              ((s.cfg p).shedGrace = 0 → t.port p = shedRecord .overdraw (s.port p) ∧ (t.switch p).state = .opened)) ∧
          (¬fits → (s.cfg p).cls = .essential →
            let checked :=
              shedCheck 8
                { sampled with
                  ports :=
                    tput s.ports p { s.port p with grant := new, request := new, clamped := false, overdraw := 0 } }
            t = finish sampled { checked with ports := tput checked.ports p { checked.port p with overdraw := 0 } }) ∧
          (¬fits → (s.cfg p).cls = .essential → (s.cfg p).parent = none →
            t.port p = { s.port p with grant := new, request := new, clamped := false, overdraw := 0 })))

/-- R65, R66: a settled completion of V_BUS, of I_BODY or of the active source's channel recomputes the envelope from
the filtered values, while held is no; that an event of the selector which the engine has not taken yet puts it off is
the model's choice (log entry 11). R67: the recomputation stores the envelope, runs the shed check, and after a rise the
cancellation and an opportunity. R96: the shed check sheds the lowest-keyed port that is not in SHEDDING and not
ESSENTIAL, the latest admitted among equal keys, with reason ENVELOPE and the restore hold, until retained power is
within the envelope or none is left. R99, R100: the cancellation takes groups back to ON, most important first, while
they fit, and stops at the first that does not. -/
def Obligations.EnvelopeIsRecomputedAndFollowed : Prop :=
  (∀ (ch : SenseChannel) (code : BitVec 12) (g : Option Gain) (selectorFirst : Bool) (s : State),
    s.sense.converting = some ⟨ch, g⟩ → s.mode ≠ .init → s.sel.changeover = none → s.engine.held = false →
    s.selEvents = [] →
    (ch = 3 ∨ ch = 12 ∨ (selectorFirst = false ∧ ∃ x, s.sel.active = some x ∧ ch = sourceChannel x)) →
    let sampled := completeSample ch code g s
    ∃ t, exec (.sampleCompletion ch code selectorFirst) s = .next t ∧
      t.engine.envelope =
        match s.sel.active with
        | none => 0
        | some x =>
          let v := sampled.voltage x
          let raw := v * (s.source x).config.capacity / 1000
          let soft := (s.source x).config.softFloor
          let hard := (s.source x).config.hardFloor
          let derated := if soft ≤ v then raw else if hard < v then raw * (v - hard) / (soft - hard) else 0
          let body := (sampled.sample 3).filtered * (sampled.sample 12).filtered / 1000
          min 250000 (derated - max s.engine.bodyReserve body - 2000)) ∧
  (∀ s : State,
    let stored : State :=
      { s with
        engine :=
          { s.engine with
            envelope := s.newEnvelope
            pBody :=
              if s.sel.active.isSome = true then (s.sample 3).filtered * (s.sample 12).filtered / 1000
              else s.engine.pBody } }
    let checked := shedCheck 8 stored
    (s.newEnvelope ≤ s.engine.envelope → recompute s = checked) ∧
      (s.engine.envelope < s.newEnvelope →
        recompute s = opportunity (cancelWalk checked.cancelOrder checked))) ∧
  (∀ (n : Nat) (s : State),
    (s.retained ≤ s.engine.envelope → shedCheck n s = s) ∧
      ((∀ q ∈ s.engine.granted, s.alloc q = .shedding ∨ s.essential q = true) → shedCheck n s = s) ∧
      (∀ v : Port, s.engine.envelope < s.retained →
        LowestKeyed s (s.engine.granted.filter (fun q => s.alloc q != .shedding && !s.essential q)) v →
        s.engine.granted.Nodup →
        shedCheck (n + 1) s =
          shedCheck n
            { shed .envelope v s with
              engine :=
                { (shed .envelope v s).engine with restoreHold := some (s.engine.restoreHoldTime * 1000) } }) ∧
      (TableConsistent s → EnvelopeRespected (shedCheck 8 s))) ∧
  (∀ s : State, TableConsistent s →
    let t := cancelWalk s.cancelOrder s
    (s.retained ≤ s.engine.envelope → t.retained ≤ t.engine.envelope) ∧
      (∀ q : Port, t.port q = s.port q ∨
        (s.alloc q = .shedding ∧ ((s.port q).reason = some .envelope ∨ (s.port q).reason = some .dependency) ∧
          t.port q = { s.port q with alloc := .on, grace := none, reason := none, overdraw := 0 })) ∧
      (∀ p q : Port, MayReturn s p → MayReturn s q → GoesBefore s p q → t.alloc q = .on → t.alloc p = .on) ∧
      (∀ p : Port, MayReturn s p → (∀ q : Port, MayReturn s q → q = p ∨ GoesBefore s p q) →
        (s.retained + s.grants (s.group p) ≤ s.engine.envelope → ∀ q ∈ s.group p, t.alloc q = .on) ∧
          (s.engine.envelope < s.retained + s.grants (s.group p) → t = s)) ∧
      ((∀ p : Port, ¬MayReturn s p) → t = s) ∧
      (∀ p ∈ s.engine.granted, (s.group p).Nodup ∧ ∀ q : Port, q ∈ s.group p ↔ q = p ∨
        (q ∈ s.engine.granted ∧ s.alloc q = .shedding ∧
          ((s.port q).reason = some .envelope ∨ (s.port q).reason = some .dependency) ∧
          ∃ r ∈ s.group p, (s.cfg q).parent = some r)) ∧
      t.switches = s.switches ∧ t.engine.queue = s.engine.queue ∧ t.engine.granted = s.engine.granted)

/-- R64, R74, R98, R116: what the end of every handling leaves. `s0` is the state the handling started in, `s` the state
before its end. R74: where an opportunity has arisen, held is no and INIT is over, one admission pass has run. R75 to
R77: the pass passes over the entries it skips; the first entry that it does not skip is admitted where a start slot is
free and it fits, and the pass goes on with the entries behind it; without a slot the pass ends; where the entry does
not fit, victims with a strictly lower key are taken, lowest key and latest admitted first, if taking them makes room,
and the pass ends without it. The model's own choices in it: the power-good level is low when a start begins (log entry
7), the lower start slot is taken (log entry 14), what a bump frees gives no second pass (log entry 22), a port in SHED
with reason MODE is not held back by the restore hold (log entry 38), and a victim with a request of 0 mW loses its
origin (log entry 23). The premise of the pass is TableConsistent, which every step keeps; by it no port below one in
SHEDDING is still ON (R105, R107). -/
def Obligations.HandlingEndsInOrder : Prop :=
  (∀ s0 s : State,
    let t := finish s0 s
    t.engine.overcommit = decide (t.engine.envelope < t.retained) ∧ t.engine.opportunity = false ∧
      t.engine.envelope = s.engine.envelope ∧ t.mode = s.mode ∧
      (∀ p : Port, t.cfg p = s.cfg p ∧ (t.port p).request = (s.port p).request ∧
        ((s.port p).request ≠ 0 → (t.port p).origin = (s.port p).origin)) ∧
      (∀ p : Port, s.link.mask.getLsbD 0 = true → (t.port p).changedFrom (s0.port p) = true →
        Notice.portState p (t.alloc p) (t.port p).grant (t.port p).request (t.port p).reason (t.port p).origin ∈
          t.link.notices) ∧
      (s.engine.held = true ∨ s.mode = .init ∨ s.engine.opportunity = false →
        t.ports = s.ports ∧ t.switches = s.switches ∧ t.engine.queue = s.engine.queue ∧
          t.engine.granted = s.engine.granted) ∧
      (s.engine.held = false → s.mode ≠ .init → s.engine.opportunity = true →
        t.ports = (admissionPass s).ports ∧ t.switches = (admissionPass s).switches ∧
          t.engine.queue = (admissionPass s).engine.queue ∧ t.engine.granted = (admissionPass s).engine.granted ∧
          t.engine.slot0 = (admissionPass s).engine.slot0 ∧ t.engine.slot1 = (admissionPass s).engine.slot1) ∧
      (t.mode = .standby → t.engine.granted = [] → t.rails = false) ∧
      t.sel = s.sel ∧ t.sense = s.sense ∧ t.pool = s.pool ∧ t.store = s.store) ∧
  (∀ s : State, TableConsistent s →
    ((∀ p ∈ s.engine.queue, PassSkips s p) → admissionPass s = s) ∧
    (∀ (before after : List Port) (p : Port), s.engine.queue = before ++ p :: after → (∀ q ∈ before, PassSkips s q) →
      ¬PassSkips s p →
      let margin :=
        if s.alloc p = .shed ∧ ((s.port p).reason = some .envelope ∨ (s.port p).reason = some .noSource ∨
          (s.port p).reason = some .overdraw) then s.engine.restoreMargin else 0
      let need := (s.port p).request + margin
      let pool := s.engine.granted.filter
        (fun q => decide (s.alloc q ≠ .shedding ∧ (s.cfg q).cls ≠ .essential ∧ s.key p < s.key q))
      (s.engine.slot0 ≠ none → s.engine.slot1 ≠ none → admissionPass s = s) ∧
      (s.engine.slot0 = none ∨ s.engine.slot1 = none →
        (s.committed + need ≤ s.engine.envelope →
          admissionPass s =
            admissionPass
              { s with
                ports :=
                  tput s.ports p
                    { s.port p with
                      alloc := .starting, grant := (s.port p).request, reason := none, overdraw := 0 }
                switches :=
                  tput s.switches p
                    { s.switch p with
                      state := .ramping (s.cfg p).rampTime 0, armed := false, filter := none, powerGood := false }
                engine :=
                  { s.engine with
                    queue := before ++ after
                    granted := s.engine.granted ++ [p]
                    slot0 := if s.engine.slot0 = none then some p else s.engine.slot0
                    slot1 := if s.engine.slot0 = none then s.engine.slot1 else some p } }) ∧
        (s.engine.envelope < s.committed + need →
          (s.retained + need ≤ s.engine.envelope → admissionPass s = s) ∧
          (s.engine.envelope + s.grants (s.bumpRoom p) < s.retained + need → admissionPass s = s) ∧
          (s.engine.envelope < s.retained + need →
            s.retained + need ≤ s.engine.envelope + s.grants (s.bumpRoom p) →
            let t := admissionPass s
            t = takeVictims p need 8 s ∧ t.retained + need ≤ t.engine.envelope ∧ t.port p = s.port p ∧
              (∀ q : Port, q ∉ s.bumpRoom p → (s.alloc q ≠ .shedding → t.port q = s.port q)) ∧
              (∀ v : Port, LowestKeyed s pool v →
                ∀ n : Nat, takeVictims p need (n + 1) s = takeVictims p need n (shed .preempted v s))) ∧
          ((s.bumpRoom p).Nodup ∧ ∀ q : Port, q ∈ s.bumpRoom p ↔ q ∈ pool ∨
            (q ∈ s.engine.granted ∧ s.alloc q ≠ .shedding ∧ ∃ r ∈ s.bumpRoom p, (s.cfg q).parent = some r))))))

/-! ## The allocation engine: commands -/

/-- R69, R70, R102: PORT_REQUEST, its refusals and Table 4-8. Every reply carries the clamped mark, the state and the
grant as they stand when the handling ends. That a request refused NO_HEADROOM still takes the origin LINK is the
model's reading (log entry 15). -/
def Obligations.PortRequestFollowsItsTable : Prop :=
  ∀ (tag : Byte) (pl : List Byte) (p : Port) (s : State), DecoderFree s → pl.length = 5 → byteAt pl 0 = p.val →
    let asked := fieldAt pl 1 4
    let req := min asked (s.cfg p).cap
    let cut := decide ((s.cfg p).cap < asked)
    let done := if cut = true then Result.okClamped else Result.ok
    let ends := fun (r : Result) (t : State) =>
      exec (.portRequest tag pl) s =
        .next
          (answered .portRequest tag r
            ([flagByte (t.port p).clamped, byte (t.alloc p).code] ++ leBytes 4 (t.port p).grant) t)
    let taken : PortRec := { s.port p with request := req, clamped := cut, origin := some .link }
    (asked = 0 → ends .badValue s) ∧
    (asked ≠ 0 → (s.cfg p).policy = .accessory ∨ s.alloc p = .faulted → ends .conflict s) ∧
    (asked ≠ 0 → (s.cfg p).policy = .link →
      (s.alloc p = .shedding → ends .busy s) ∧
      (s.alloc p = .off → req ≠ 0 →
        let t := finish s
          { s with
            ports := tput s.ports p { taken with alloc := .waiting }
            engine :=
              { s.engine with queue := insertAfter s.key p s.engine.queue, opportunity := true } }
        ends (if (t.alloc p).granted = true then done else .queued) t) ∧
      (s.alloc p = .waiting ∨ s.alloc p = .shed → req ≠ 0 →
        ends .queued
          (finish s { s with ports := tput s.ports p taken, engine := { s.engine with opportunity := true } })) ∧
      (s.alloc p = .off ∨ s.alloc p = .waiting ∨ s.alloc p = .shed → req = 0 →
        ends .okClamped
          (finish s
            { s with
              ports :=
                tput s.ports p
                  { s.port p with alloc := .off, request := 0, origin := none, reason := none, clamped := true }
              engine := { s.engine with queue := without p s.engine.queue, opportunity := true } })) ∧
      (s.alloc p = .starting ∨ s.alloc p = .held ∨ s.alloc p = .on →
        (req < (s.port p).grant →
          ends done
            (finish s
              { s with
                ports := tput s.ports p { taken with grant := req, overdraw := 0 }
                engine := { s.engine with opportunity := true } })) ∧
        (req = (s.port p).grant → ends done (finish s { s with ports := tput s.ports p taken })) ∧
        ((s.port p).grant < req → s.committed + (req - (s.port p).grant) ≤ s.engine.envelope →
          ends done (finish s { s with ports := tput s.ports p { taken with grant := req, overdraw := 0 } })) ∧
        ((s.port p).grant < req → s.engine.envelope < s.committed + (req - (s.port p).grant) →
          ends .noHeadroom (finish s { s with ports := tput s.ports p { s.port p with origin := some .link } }))))

/-- R54, R72, R73, R106, R166: PORT_RELEASE and PORT_CLEAR, refused PROTECTED for a protected port while protection is
enforced. A release takes the port to OFF with its switch OPEN, out of both lists, its children in the granted list to
SHED, or to OFF with a request of 0 mW (the model's reading of R102, log entry 23); it is refused CONFLICT in FAULTED
and changes nothing in OFF. A clear empties the fault record, and takes FAULTED to OFF. -/
def Obligations.PortReleaseAndClear : Prop :=
  ∀ (tag : Byte) (pl : List Byte) (p : Port) (s : State), DecoderFree s → pl.length = 1 → byteAt pl 0 = p.val →
    AllocationConsistent s →
    (s.enforced = true → s.protectedPort p = true →
      exec (.portRelease tag pl) s = .next (answered .portRelease tag .protected_ [] s) ∧
        exec (.portClear tag pl) s = .next (answered .portClear tag .protected_ [] s)) ∧
    (s.enforced = false ∨ s.protectedPort p = false →
      (s.alloc p = .faulted → exec (.portRelease tag pl) s = .next (answered .portRelease tag .conflict [] s)) ∧
      (s.alloc p = .off → exec (.portRelease tag pl) s = .next (answered .portRelease tag .ok [] (finish s s))) ∧
      (s.alloc p ≠ .faulted → s.alloc p ≠ .off →
        ∃ t, exec (.portRelease tag pl) s = .next (answered .portRelease tag .ok [] t) ∧
          t.port p =
            { s.port p with
              alloc := .off, grant := 0, request := 0, reason := none, grace := none, overdraw := 0 } ∧
          (t.switch p).state = .opened ∧ p ∉ t.engine.granted ∧ p ∉ t.engine.queue ∧
          (∀ q : Port, q ≠ p → p ∈ s.engine.granted → q ∈ s.engine.granted → (s.cfg q).parent = some p →
            t.alloc q = (if (s.port q).request = 0 then .off else .shed) ∧ (t.switch q).state = .opened)) ∧
      (∃ t, exec (.portClear tag pl) s = .next (answered .portClear tag .ok [] t) ∧
        t.switch p = { s.switch p with lastFault := .none, tripCount := 0, retry := 0 } ∧
        t.port p =
          (if s.alloc p = .faulted then
            { s.port p with alloc := .off, request := 0, grant := 0, origin := none }
          else s.port p) ∧
        (∀ q : Port, q ≠ p → t.port q = s.port q ∧ t.switch q = s.switch q) ∧ t.engine.queue = s.engine.queue ∧
        t.engine.granted = s.engine.granted))

/-- R14, R68, R84, R85: SOURCE_CONFIGURE, SET_ENVELOPE and PORT_CONFIGURE with valid codes store their fields, clamped
and rounded by the ranges of the tables; the reply is OK_CLAMPED where a number was changed. The priority order is the
one that the payload names. R53: a new retry limit, trip current and trip filter width in the switch. R25: the gain
chosen for the trip current. R107: a port of the granted list whose new parent is neither ON nor SHEDDING leaves it at
once. The refusals, in the order of R14, R68 and R84: BAD_VALUE, PROTECTED, CONFLICT. The model's own: such a port goes
to OFF where its request is 0 mW (log entry 23), and a trip that a new filter width fires acts by the new trip mode
where the command gives one (log entry 45). -/
def Obligations.ConfigurationCommandsStoreTheirFields : Prop :=
  ∀ (tag : Byte) (pl : List Byte) (s : State), DecoderFree s →
    (pl.length = 14 →
      (2 < byteAt pl 0 ∨ sourceCodesValid pl = false →
        exec (.sourceConfigure tag pl) s = .next (answered .sourceConfigure tag .badValue [] s)) ∧
      (byteAt pl 0 ≤ 2 → sourceCodesValid pl = true → s.enforced = true →
        exec (.sourceConfigure tag pl) s = .next (answered .sourceConfigure tag .protected_ [] s))) ∧
    (pl.length = 10 → s.enforced = true →
      exec (.setEnvelope tag pl) s = .next (answered .setEnvelope tag .protected_ [] s)) ∧
    (pl.length = 19 → 7 < byteAt pl 0 →
      exec (.portConfigure tag pl) s = .next (answered .portConfigure tag .badValue [] s)) ∧
    (∀ p : Port, pl.length = 19 → byteAt pl 0 = p.val →
      (portCodesValid (pl.drop 1) = false →
        exec (.portConfigure tag pl) s = .next (answered .portConfigure tag .badValue [] s)) ∧
      (portCodesValid (pl.drop 1) = true → s.enforced = true → s.protectedPort p = true →
        exec (.portConfigure tag pl) s = .next (answered .portConfigure tag .protected_ [] s)) ∧
      (portCodesValid (pl.drop 1) = true → s.enforced = false ∨ s.protectedPort p = false →
        s.parentCloses p (readPortFields (factoryPort p) (pl.drop 1)).parent = true →
        exec (.portConfigure tag pl) s = .next (answered .portConfigure tag .conflict [] s))) ∧
    (∀ x : Source, pl.length = 14 → sourceOfCode (byteAt pl 0) = some x → sourceCodesValid pl = true →
      s.enforced = false →
      ∃ t,
        exec (.sourceConfigure tag pl) s =
            .next
              (answered .sourceConfigure tag (if sourceConfigureChanged pl = true then .okClamped else .ok) [] t) ∧
          (t.source x).config.enable = (byteAt pl 1 == 1) ∧
          (t.source x).config.capacity = min 20000 (max 1000 (fieldAt pl 2 2)) / 100 * 100 ∧
          (t.source x).config.hardFloor = min 16000 (max 9000 (fieldAt pl 6 2)) / 100 * 100 ∧
          (t.source x).config.softFloor =
            max (min 16000 (max 9000 (fieldAt pl 4 2)) / 100 * 100) ((t.source x).config.hardFloor + 400) ∧
          ((t.source x).config.enable = false → (t.source x).state = .disabled) ∧
          t.sel.settings.qualifyTime = min 2000 (max 20 (fieldAt pl 12 2)) / 10 * 10 ∧
          (t.sel.settings.mode = .drain ↔ byteAt pl 8 = 1) ∧
          t.sel.settings.order.map sourceCode = [byteAt pl 9, byteAt pl 10, byteAt pl 11] ∧
          (∀ y ∈ allSources, y ≠ x → (t.source y).config = (s.source y).config ∧ (t.source y).state = (s.source y).state) ∧
          t = { s with sel := t.sel, selEvents := t.selEvents, link := { s.link with notices := t.link.notices } }) ∧
    (pl.length = 10 → s.enforced = false →
      ∃ t,
        exec (.setEnvelope tag pl) s =
            .next (answered .setEnvelope tag (if allocNumbersChanged pl = true then .okClamped else .ok) [] t) ∧
          t.engine.bodyReserve = min 100000 (fieldAt pl 0 4) ∧ t.engine.restoreMargin = min 20000 (fieldAt pl 4 4) ∧
          t.engine.restoreHoldTime = min 10000 (max 500 (fieldAt pl 8 2)) / 100 * 100 ∧
          (s.engine.held = true → t.engine.envelope = s.engine.envelope) ∧
          (s.engine.held = false →
            t.engine.envelope =
              ({ s with engine := { s.engine with bodyReserve := min 100000 (fieldAt pl 0 4) } } : State).newEnvelope) ∧
          t.sel = s.sel ∧ t.sense = s.sense ∧ t.store = s.store ∧ (∀ p : Port, t.cfg p = s.cfg p)) ∧
    (∀ p : Port, pl.length = 19 → byteAt pl 0 = p.val → portCodesValid (pl.drop 1) = true →
      (s.enforced = false ∨ s.protectedPort p = false) →
      s.parentCloses p (readPortFields (factoryPort p) (pl.drop 1)).parent = false →
      ∃ t,
        exec (.portConfigure tag pl) s =
            .next
              (answered .portConfigure tag
                (if portNumbersChanged (pl.drop 1) = true then .okClamped else .ok) [] t) ∧
          t.cfg p = readPortFields (factoryPort p) (pl.drop 1) ∧ (∀ q : Port, q ≠ p → t.cfg q = s.cfg q) ∧
          (t.port p).request = min (s.port p).request (t.cfg p).cap ∧
          ((t.cfg p).lineEnable = false → (t.port p).identity = none ∧ t.pool.held p = 0 ∧ (s.linesOn = true → (t.line p).tx = .off)) ∧
          t.sel = s.sel ∧ t.store = s.store ∧ t.mode = s.mode ∧
          ((s.switch p).filter = none ∨ (t.cfg p).tripFilter = (s.cfg p).tripFilter →
            (t.switch p).retry =
              if (t.cfg p).retryLimit = (s.cfg p).retryLimit then (s.switch p).retry
              else if (s.switch p).lastFault = .retryLimit then min (s.switch p).retry (t.cfg p).retryLimit
              else if (t.cfg p).retryLimit ≤ (s.switch p).retry then (t.cfg p).retryLimit - 1
              else (s.switch p).retry) ∧
          (∀ g : Option Gain, s.sense.converting = some ⟨portChannel p, g⟩ → g ≠ (s.sample (portChannel p)).gain →
            t.sample (portChannel p) = s.sample (portChannel p)) ∧
          ((∀ c ∈ s.sense.converting, c.channel ≠ portChannel p ∨ c.gain = (s.sample (portChannel p)).gain) →
            let chosen : Gain :=
              if (t.cfg p).tripCurrent ≤ 6396 then .g16 else if (t.cfg p).tripCurrent ≤ 12793 then .g8 else .g4
            t.sample (portChannel p) =
              { s.sample (portChannel p) with
                pendingGain := if (s.sample (portChannel p)).gain = some chosen then none else some chosen }) ∧
          (AllocationConsistent s → p ∈ s.engine.granted → (t.cfg p).parent ≠ (s.cfg p).parent →
            ∀ q, (t.cfg p).parent = some q →
              (s.alloc q = .shedding → t.alloc p = .shedding ∨ t.alloc p = .shed ∨ t.alloc p = .off) ∧
              (s.alloc q ≠ .on → s.alloc q ≠ .shedding →
                t.alloc p = (if (t.port p).request = 0 then .off else .shed) ∧ (t.switch p).state = .opened ∧
                  ((t.port p).request ≠ 0 → (t.port p).reason = some .dependency)))) ∧
    (∀ (p : Port) (old : PortConfig),
      let w := s.switch p
      let new := s.cfg p
      (old.tripCurrent ≠ new.tripCurrent → w.armed = true →
        ((reconfigureSwitch p old s).switch p).filter = if w.tripLevel = true then some 0 else none) ∧
      (∀ n e, w.state = .closed n → w.filter = some e → w.armed = true → old.tripCurrent = new.tripCurrent →
        old.retryLimit = new.retryLimit → old.tripFilter ≠ new.tripFilter →
        (new.tripFilter.micros ≤ e → reconfigureSwitch p old s = filteredTripClosed p s) ∧
          (e < new.tripFilter.micros → reconfigureSwitch p old s = s)))

/-! ## Modes -/

/-- R117 to R119: SET_MODE. A target equal to the mode changes nothing; a target that would shed a protected port is
refused; otherwise the mode changes, the ports it affects are shed or in grace with reason MODE, and RUN and ECONOMY
have the rails on. The reply carries the mode and the rails as they stand at the end. The model's own: a target equal to
the mode affects no port, so no port of it can be protected (log entry 25), a port with a request of 0 mW goes to OFF where
another would enter SHED (log entry 23), and the rails byte of the reply is 1 for on (log entry 50). -/
def Obligations.SetModeShedsAndPowers : Prop :=
  ∀ (tag : Byte) (pl : List Byte) (dst : Mode) (s : State), DecoderFree s → pl.length = 1 →
    targetModeOfCode (byteAt pl 0) = some dst →
    (dst = s.mode →
      exec (.setMode tag pl) s = .next (answered .setMode tag .ok [byte s.mode.code, flagByte s.rails] s)) ∧
    (s.enforced = true → (s.modeTested dst).any s.protectedPort = true →
      exec (.setMode tag pl) s = .next (answered .setMode tag .protected_ [byte s.mode.code, flagByte s.rails] s)) ∧
    (dst ≠ s.mode → s.enforced = false ∨ (s.modeTested dst).any s.protectedPort = false → AllocationConsistent s →
      ∃ t, exec (.setMode tag pl) s = .next (answered .setMode tag .ok [byte dst.code, flagByte t.rails] t) ∧
        t.mode = dst ∧ (dst ≠ .standby → t.rails = true) ∧ (dst = .standby → t.engine.granted = [] → t.rails = false) ∧
        (s.mode ≠ .standby → ∀ p ∈ s.engine.granted,
          dst = .standby ∨ (dst = .economy ∧ s.essential p = false) →
          t.alloc p = .shed ∨ (t.alloc p = .shedding ∧ (t.port p).reason = some .mode) ∨
            (t.alloc p = .off ∧ (s.port p).request = 0)) ∧
        t.sel = s.sel ∧ t.sense = s.sense ∧ t.pool = s.pool ∧ t.store = s.store ∧ (∀ p : Port, t.cfg p = s.cfg p))

/-! ## The accessory lines -/

/-- R123, R125, R128, R130, R133, R134: the events of a line's receiver and the timers of its transmitter. Times are in
1/625 of a bit time: a character time is 6,875. The model's own: how long the line stays low after a break, an
accessory's or the chip's own, is a free value (log entry 35), the idle time restarts at a valid start (log entry 20),
and a row whose event cannot occur as the line stands, or whose time has not run out, changes nothing (log entries 3 and
17). -/
def Obligations.LineEventsMoveTheLineAlone : Prop :=
  ∀ (p : Port) (s : State),
    let l := s.line p
    let becomes := fun (i : Instr) (m : LineRec) => exec i s = .next { s with lines := tput s.lines p m }
    let listens := l.rx ≠ .off ∧ l.tx ≠ .sending ∧ l.tx ≠ .breaking
    (listens → becomes (.lineValidStart p) { l with charInProgress := true, gap := none, idle := 0, low := 0 }) ∧
    (listens →
      ∃ low : Nat,
        exec (.lineBreak p) s =
          .next
            { s with
              choices := s.choices + 1
              lines :=
                tput s.lines p
                  { l with
                    rx := .hunt, gap := none, lastEvent := .breakSeen, charInProgress := false, idle := 0
                    low := low } }) ∧
    (¬listens → exec (.lineValidStart p) s = .next s ∧ exec (.lineBreak p) s = .next s) ∧
    (l.gap = some 0 → becomes (.lineGapExpiry p) { l with rx := .hunt, gap := none, lastEvent := .gap }) ∧
    (l.gap ≠ some 0 → exec (.lineGapExpiry p) s = .next s) ∧
    (∀ r ∈ l.pendingRate, l.rx = .hunt → l.charInProgress = false → l.tx ≠ .sending → l.tx ≠ .breaking →
      becomes (.pendingRateInForce p)
        { l with
          rate := r
          pendingRate := none
          idle := 0
          backoff := if l.backoff.isSome = true then some ((4 + 2 * p.val) * 6875) else none }) ∧
    (l.pendingRate = none → exec (.pendingRateInForce p) s = .next s) ∧
    (l.tx = .breaking → l.breakRemaining = some 0 →
      ∃ low : Nat,
        exec (.breakEnd p) s =
          .next
            { s with
              choices := s.choices + 1
              lines := tput s.lines p { l with tx := .idle, breakRemaining := none, idle := 0, low := low } }) ∧
    (l.tx = .backoff → l.backoff = none →
      (2 * 6875 ≤ l.idle → becomes (.backoffStart p) { l with backoff := some ((4 + 2 * p.val) * 6875) }) ∧
        (l.idle < 2 * 6875 → exec (.backoffStart p) s = .next s)) ∧
    (l.tx = .backoff → l.backoff.isSome = true → exec (.backoffStart p) s = .next s) ∧
    (l.tx = .backoff → l.backoff = some 0 → becomes (.backoffExpiry p) { l with tx := .idle, backoff := none }) ∧
    (l.tx ≠ .breaking ∨ l.breakRemaining ≠ some 0 → exec (.breakEnd p) s = .next s) ∧
    (l.tx ≠ .backoff → exec (.backoffStart p) s = .next s) ∧
    (l.tx ≠ .backoff ∨ l.backoff ≠ some 0 → exec (.backoffExpiry p) s = .next s)

/-- R130, R131, R149: a record starts when the transmitter is in IDLE with an item and the receiver in HUNT with no
character in progress, once the line has been idle for 2 character times (13,750 bit units). The item is the current
one, but for a channel record that gives way to a pending STATE record; else the pending STATE record; else the
set-aside record; else the channel at the head of the wait list, which is told. A STATE record kept for its retry thus
goes before a newer one that is pending: that it is kept beside it at all is the model's choice (log entry 48). R123,
R126: the bits of the record go out on AL as start bit, data bits from the lowest, mark bit and stop bit, the mark set
on the first character alone; where nothing is sent and no break is driven, the line is released. -/
def Obligations.RecordStartChoosesTheItem : Prop :=
  ∀ (p : Port) (s : State),
    let l := s.line p
    let ready := l.tx = .idle ∧ l.rx = .hunt ∧ l.charInProgress = false ∧ 13750 ≤ l.idle
    let sends := fun (m : LineRec) (item : LineItem) (chars : List Byte) =>
      exec (.recordStart p) s =
        .next
          { s with
            lines := tput s.lines p { m with current := some item, tx := .sending, record := chars, idle := 0 } }
    (∀ r, ready → l.current = some (.internal r) → sends l (.internal r) r.chars) ∧
    (∀ c, ready → l.current = some (.channel c) → l.pendingInternal = none →
      sends l (.channel c) (recordChars 0x13 (s.sendBody c))) ∧
    (∀ c, ∀ r, ready → l.current = some (.channel c) → l.pendingInternal = some r →
      sends { l with setAside := some ⟨c, l.collisions⟩, pendingInternal := none, collisions := 0 } (.internal r)
        r.chars) ∧
    (∀ r, ready → l.current = none → l.pendingInternal = some r →
      sends { l with pendingInternal := none, collisions := 0 } (.internal r) r.chars) ∧
    (∀ a, ready → l.current = none → l.pendingInternal = none → l.setAside = some a →
      sends { l with setAside := none, collisions := a.collisions } (.channel a.channel)
        (recordChars 0x13 (s.sendBody a.channel))) ∧
    (∀ c, ∀ rest, ∀ x, ready → l.current = none → l.pendingInternal = none → l.setAside = none →
      l.waitList = c :: rest → s.channel c = some x →
      exec (.recordStart p) s =
        .next
          { s with
            lines :=
              tput s.lines p
                { l with
                  waitList := rest
                  collisions := 0
                  current := some (.channel c)
                  tx := .sending
                  record := recordChars 0x13 x.body
                  idle := 0 }
            channels := tput s.channels c (some { x with stage := .onLine }) }) ∧
    ((¬ready ∨
        (l.current = none ∧ l.pendingInternal = none ∧ l.setAside = none ∧ l.waitList = [])) →
      exec (.recordStart p) s = .next s) ∧
    (l.tx = .sending → ∀ (i : Nat) (b : Byte), l.record[i]? = some b →
      l.released (11 * i) = false ∧ (∀ k : Nat, k < 8 → l.released (11 * i + 1 + k) = b.getLsbD k) ∧
        l.released (11 * i + 9) = decide (i = 0) ∧ l.released (11 * i + 10) = true) ∧
    (l.tx = .sending → ∀ n : Nat, 11 * l.record.length ≤ n → l.released n = true) ∧
    (∀ n : Nat, (l.tx = .breaking → l.released n = false) ∧
      (l.tx ≠ .breaking → l.tx ≠ .sending → l.released n = true))

/-- R130, R132, R133: the end of an attempt. A sent record is done, and a channel is told DELIVERED; a collision sends
the transmitter to BACKOFF, or at the fourth one gives the item up, with COLLIDED to a channel. The model's own: the
idle time after a sent record is a free value of at most the stop bit's 1 bit time, 625 units (log entry 20), how long
the line stays low after a collision is a free value (log entry 35), and a STATE record that collides is kept for its
retry although a newer one is pending (log entry 48). -/
def Obligations.AttemptsEndInDeliveryOrCollision : Prop :=
  ∀ (p : Port) (s : State), (s.line p).tx = .sending →
    let l := s.line p
    let done : LineRec := { l with current := none, collisions := 0, record := [], tx := .idle }
    let sent := fun idle : Nat =>
      { s with choices := s.choices + 1, lines := tput s.lines p { done with idle := idle, low := 0 } }
    let failed := fun low : Nat =>
      { s with
        choices := s.choices + 1
        lines := tput s.lines p { done with lastEvent := .collisionFail, idle := 0, low := low } }
    (∀ r, l.current = some (.internal r) →
      (∃ idle, idle ≤ 625 ∧ exec (.recordSent p) s = .next (sent idle)) ∧
        (l.collisions + 1 = 4 → ∃ low, exec (.collision p) s = .next (failed low))) ∧
    (∀ c, l.current = some (.channel c) →
      (∃ idle, idle ≤ 625 ∧ exec (.recordSent p) s = .next (recordOutcome c .delivered (sent idle))) ∧
        (l.collisions + 1 = 4 → ∃ low, exec (.collision p) s = .next (recordOutcome c .collided (failed low)))) ∧
    (l.collisions + 1 ≠ 4 →
      ∃ low,
        exec (.collision p) s =
          .next
            { s with
              choices := s.choices + 1
              lines :=
                tput s.lines p
                  { l with
                    tx := .backoff, backoff := none, record := [], collisions := l.collisions + 1, idle := 0
                    low := low } })

/-- R124, R126 to R129, R137, R186: what the receiver does with a character, whatever its samples: in HUNT and in RECORD,
with its stop bit low (FRAMING), with its mark bit set, as a length, as a byte of the body, and as the check of a record
(BAD_CHECK, UNKNOWN, or the record dispatched); a noise mark sets noise seen and stays with the record. A record that
arrives with clean characters is received whole: DATA goes to the pool (R140), REQUEST and ANNOUNCE to the engine, and the
line is back in HUNT with its status as it was. The model's own: a good check leaves the last line event as it stands,
by R137 against Table 7-4 (log entry 39); how long the line has been high after a character, or stays low, is a free value
(log entries 20 and 35); a character without a valid start, or on a line that does not listen, is none (log entry 17). -/
def Obligations.CleanRecordsAreReceivedWhole : Prop :=
  (∀ (p : Port) (x : LineSamples) (d : Byte) (s : State), (∀ k : Fin 8, d.getLsbD k.val = voteLevel (x.data.get k)) →
    let l := s.line p
    let mark := voteLevel x.mark
    let stop := voteLevel x.stop
    let disagree := fun v : Vote => !(v.s7 == v.s8 && v.s8 == v.s9)
    let noise := x.data.toList.any disagree || disagree x.mark
    let row := exec (.characterReceived p x) s
    let listens := l.rx ≠ .off ∧ l.tx ≠ .sending ∧ l.tx ≠ .breaking ∧ l.charInProgress = true
    let heard := fun (rx : LineRx) (gap : Option Nat) (event : LineEvent) (also : State → State) =>
      ∃ idle low : Nat,
        row =
          .next (also
            { s with
              choices := s.choices + 1
              lines :=
                tput s.lines p
                  { l with
                    rx := rx, gap := gap, lastEvent := event, noiseSeen := l.noiseSeen || noise, charInProgress := false
                    idle := idle, low := low } })
    let begun := LineRx.record ⟨d, none, [], noise⟩
    (¬listens → row = .next s) ∧
    (listens → l.rx = .hunt →
      (stop = false → heard .hunt l.gap .framing id) ∧
      (stop = true → mark = false → heard .hunt l.gap l.lastEvent id) ∧
      (stop = true → mark = true → heard begun (some (4 * 6875)) l.lastEvent id)) ∧
    (∀ b : Assembly, listens → l.rx = .record b →
      let longer := fun (n : Option Nat) (body : List Byte) => LineRx.record ⟨b.kind, n, body, b.noise || noise⟩
      (stop = false → heard .hunt none .framing id) ∧
      (stop = true → mark = true → heard begun (some (4 * 6875)) .framing id) ∧
      (stop = true → mark = false → b.length = none →
        (d.toNat ≤ 60 → heard (longer (some d.toNat) b.body) (some (4 * 6875)) l.lastEvent id) ∧
          (60 < d.toNat → heard .hunt none .framing id)) ∧
      (∀ n : Nat, stop = true → mark = false → b.length = some n → b.body.length < n →
        heard (longer (some n) (b.body ++ [d])) (some (4 * 6875)) l.lastEvent id) ∧
      (stop = true → mark = false → b.length = some b.body.length →
        let check := crc8 (b.kind :: byte b.body.length :: b.body)
        let handed := fun (r : AccRecord) (u : State) =>
          { u with records := tput u.records p (tget u.records p ++ [r]) }
        (d ≠ check → heard .hunt none .badCheck id) ∧
        (d = check → b.kind ≠ 1 ∨ b.body.length ≠ 11 → b.kind ≠ 2 ∨ b.body.length ≠ 2 → b.kind ≠ 3 →
          heard .hunt none .unknown id) ∧
        (d = check → b.kind = 3 → heard .hunt none l.lastEvent (poolArrive p b.body (b.noise || noise))) ∧
        (∀ power : BitVec 16, d = check → b.kind = 2 → b.body = leBytes 2 power.toNat →
          heard .hunt none l.lastEvent (handed (.request power))) ∧
        (∀ (code : Byte) (power : BitVec 16) (ident : Vector Byte 8), d = check → b.kind = 1 →
          b.body = [code] ++ leBytes 2 power.toNat ++ ident.toList →
          heard .hunt none l.lastEvent (handed (.announce code power ident)))))) ∧
  (∀ (p : Port) (s : State), (s.line p).rx = .hunt → ((s.line p).tx = .idle ∨ (s.line p).tx = .backoff) →
    (∀ body : List Byte, body.length ≤ 60 →
      ∃ t, execAll (recordEvents p (recordChars 0x03 body)) s = .next t ∧ t.pool = (poolArrive p body false s).pool ∧
        (t.line p).rx = .hunt ∧ (t.line p).lastEvent = (s.line p).lastEvent ∧
        (t.line p).noiseSeen = (s.line p).noiseSeen) ∧
    (∀ power : BitVec 16,
      ∃ t, execAll (recordEvents p (recordChars 0x02 (leBytes 2 power.toNat))) s = .next t ∧
        t.recordsOf p = s.recordsOf p ++ [.request power] ∧ (t.line p).rx = .hunt ∧
        (t.line p).lastEvent = (s.line p).lastEvent) ∧
    (∀ (code : Byte) (power : BitVec 16) (ident : Vector Byte 8),
      ∃ t, execAll (recordEvents p (recordChars 0x01 ([code] ++ leBytes 2 power.toNat ++ ident.toList))) s = .next t ∧
        t.recordsOf p = s.recordsOf p ++ [.announce code power ident] ∧ (t.line p).rx = .hunt ∧
        (t.line p).lastEvent = (s.line p).lastEvent))

/-- R121, R136: LINE_RESET. The line breaks off what it does, keeps its items, and drives a break of 22 bit times. R134,
R110: a turn-on order takes a line from OFF to a break, with the STATE record of its port pending, and changes no other
line. R135: a turn-off order takes a line to OFF at its pending rate, and each send channel that the line carries or
keeps waiting records LINE_OFF; the order of two or more of them is a free value (log entry 9). R109, R131: a STATE
record takes the place of a pending one, and of a current one that is not being sent (the model's reading of "not
started", log entry 16). -/
def Obligations.LineOrdersTakeEffect : Prop :=
  (∀ (tag : Byte) (pl : List Byte) (p : Port) (s : State), DecoderFree s → pl.length = 1 → byteAt pl 0 = p.val →
    (s.mode = .standby → exec (.lineReset tag pl) s = .next (answered .lineReset tag .mode [] s)) ∧
    (s.mode ≠ .standby → (s.line p).tx = .off →
      exec (.lineReset tag pl) s = .next (answered .lineReset tag .conflict [] s)) ∧
    (s.mode ≠ .standby → (s.line p).tx ≠ .off →
      exec (.lineReset tag pl) s =
        .next
          (answered .lineReset tag .ok []
            { s with
              lines :=
                tput s.lines p
                  { s.line p with
                    rx := .hunt
                    gap := none
                    charInProgress := false
                    record := []
                    backoff := none
                    tx := .breaking
                    breakRemaining := some (22 * 625)
                    idle := 0
                    low := 0 } }))) ∧
  (∀ (p : Port) (s : State),
    let l := s.line p
    let r : StateRecord :=
      ⟨s.alloc p, (s.port p).grant,
        if s.alloc p = .shedding then (s.port p).grace.getD 0 / 1000 / 50 else 0⟩
    let becomes := fun (f : State → State) (m : LineRec) => f s = { s with lines := tput s.lines p m }
    (l.tx ≠ .off → turnOnLine p s = s) ∧
    (l.tx = .off → l.current = none →
      becomes (turnOnLine p)
        { l with
          rx := .hunt, tx := .breaking, breakRemaining := some (22 * 625), idle := 0, low := 0
          pendingInternal := some r }) ∧
    (l.tx = .off → queueStateRecord p s = s) ∧
    (l.tx ≠ .off → (∀ q, l.current = some (.internal q) → l.tx = .sending) →
      becomes (queueStateRecord p) { l with pendingInternal := some r }) ∧
    (∀ q, l.tx ≠ .off → l.tx ≠ .sending → l.current = some (.internal q) →
      becomes (queueStateRecord p) { l with current := some (.internal r), pendingInternal := none, collisions := 0 }) ∧
    (l.tx = .off → turnOffLine p s = s) ∧
    (l.tx ≠ .off →
      let held : List SendNo :=
        (match l.current with | some (.channel c) => [c] | some (.internal _) => [] | none => []) ++
          (match l.setAside with | some a => [a.channel] | none => []) ++ l.waitList
      let off : LineRec :=
        { rate := l.pendingRate.getD l.rate, pendingRate := none, rx := .off, charInProgress := false, gap := none
          tx := .off, breakRemaining := none, idle := 0, low := 0, pendingInternal := none, waitList := []
          current := none, record := [], setAside := none, collisions := 0, backoff := none
          lastEvent := l.lastEvent, noiseSeen := l.noiseSeen }
      ∃ (order : List SendNo) (n : Nat), order.Perm held ∧
        turnOffLine p s =
          order.foldl (fun u c => recordOutcome c .lineOff u)
            { s with lines := tput s.lines p off, choices := s.choices + n } ∧
        (turnOffLine p s).line p = off))

/-! ## The relay pool and the send channels -/

/-- R140, R141: an arrival at the pool. A full pool or a full quota drops the record and marks the port's overrun, with
a notice the first time; otherwise the record is appended, with a notice when it is the port's first. -/
def Obligations.PoolArrivalsAreKeptOrMarked : Prop :=
  ∀ (p : Port) (body : List Byte) (noise : Bool) (s : State),
    let held := s.pool.held p
    let full := 32 ≤ s.pool.arrivals.length ∨ 8 ≤ held
    let marked : Pool := { s.pool with overrun := tput s.pool.overrun p true }
    let kept : Pool := { s.pool with arrivals := s.pool.arrivals ++ [⟨p, body, noise⟩] }
    (full → tget s.pool.overrun p = true → poolArrive p body noise s = s) ∧
    (full → tget s.pool.overrun p = false →
      poolArrive p body noise s = { s with pool := marked, link := s.link.post (.recordWaiting p held true) }) ∧
    (¬full → held = 0 →
      poolArrive p body noise s =
        { s with pool := kept, link := s.link.post (.recordWaiting p 1 (tget s.pool.overrun p)) }) ∧
    (¬full → held ≠ 0 → poolArrive p body noise s = { s with pool := kept }) ∧
    (PoolBounded s.pool → PoolBounded (poolArrive p body noise s).pool)

/-- R142, R143: RELAY_FETCH takes the oldest record of the port, or of all, and clears the port's overrun mark. The
overrun mask in the reply is the one before. -/
def Obligations.RelayFetchTakesTheOldestRecord : Prop :=
  ∀ (tag : Byte) (pl : List Byte) (s : State), DecoderFree s → pl.length = 1 →
    let mask := s.pool.overrunMask
    let unmarked := fun (p : Port) => tput s.pool.overrun p false
    (∀ (p : Port) (before after : List HeldRecord) (r : HeldRecord), byteAt pl 0 = p.val →
      s.pool.arrivals = before ++ r :: after → r.port = p → (∀ q ∈ before, q.port ≠ p) →
      exec (.relayFetch tag pl) s =
        .next
          (answered .relayFetch tag .ok
            ([byte p.val, byte r.body.length] ++ r.body ++
              [flagByte r.noise, mask, byte (s.pool.held p - 1), byte (before.length + after.length)])
            { s with pool := ⟨before ++ after, unmarked p⟩ })) ∧
    (∀ p : Port, byteAt pl 0 = p.val → (∀ r ∈ s.pool.arrivals, r.port ≠ p) →
      exec (.relayFetch tag pl) s =
        .next
          (answered .relayFetch tag .empty [byte p.val, 0, mask, 0, byte s.pool.arrivals.length]
            { s with pool := ⟨s.pool.arrivals, unmarked p⟩ })) ∧
    (∀ (r : HeldRecord) (after : List HeldRecord), pl = [0xFF] → s.pool.arrivals = r :: after →
      exec (.relayFetchAny tag pl) s =
        .next
          (answered .relayFetch tag .ok
            ([byte r.port.val, byte r.body.length] ++ r.body ++
              [flagByte r.noise, mask, byte (s.pool.held r.port - 1), byte after.length])
            { s with pool := ⟨after, unmarked r.port⟩ })) ∧
    (pl = [0xFF] → s.pool.arrivals = [] →
      exec (.relayFetchAny tag pl) s = .next (answered .relayFetch tag .empty [0xFF, 0, mask, 0, 0] s))

/-- R147, R148, R150, R152: RELAY_SEND takes the lowest FREE channel, records LINE_OFF for each target up to the first
whose line is on, and joins that line; it is answered when its last target has its outcome: at once, with LINE_OFF for
each, where every line is OFF. -/
def Obligations.RelaySendTakesAChannel : Prop :=
  ∀ (tag m : Byte) (body : List Byte) (s : State), DecoderFree s → s.mode ≠ .standby → body.length ≤ 60 →
    (m = 0 → exec (.relaySend tag (m :: body)) s = .next (answered .relaySend tag .badValue [] s)) ∧
    (m ≠ 0 → (∀ c : SendNo, (s.channel c).isSome = true) →
      exec (.relaySend tag (m :: body)) s = .next (answered .relaySend tag .busy [] s)) ∧
    (∀ (c : SendNo) (passed rest : List Port) (p : Port), s.channel c = none →
      (∀ d : SendNo, d < c → (s.channel d).isSome = true) → portsOfMask m = passed ++ p :: rest →
      (∀ q ∈ passed, (s.line q).tx = .off) → (s.line p).tx ≠ .off →
      exec (.relaySend tag (m :: body)) s =
        .next
          { s with
            channels :=
              tput s.channels c
                (some ⟨tag, passed ++ p :: rest, body, p, .waiting 500000, passed.map (fun _ => .lineOff), false⟩)
            lines := tput s.lines p { s.line p with waitList := (s.line p).waitList ++ [c] }
            link := { s.link with reserved := s.link.reserved + 1, prepared := false } }) ∧
    (∀ c : SendNo, m ≠ 0 → s.channel c = none → (∀ p ∈ portsOfMask m, (s.line p).tx = .off) →
      exec (.relaySend tag (m :: body)) s =
        .next (answered .relaySend tag .ok (m :: (portsOfMask m).map (fun _ => 3#8)) s))

/-- R148, R150 to R153: the end of a wait records TIMEOUT and moves the channel on, past each target whose line is OFF, to
the next whose line is on, or ends the send where there is none; RELAY_CANCEL ends a send that waits,
with its deferred reply ahead of its own, and marks one that is on the line. The model's own: with time left on the wait
CHANNEL_WAIT_EXPIRY changes nothing (log entry 3). -/
def Obligations.WaitsEndInTimeoutOrCancel : Prop :=
  ∀ (c : SendNo) (x : Send) (s : State), s.channel c = some x → x.cancelRequested = false →
    let after := x.targets.filter (fun q => x.position < q)
    let left : LineRec :=
      { s.line x.position with waitList := (s.line x.position).waitList.filter (fun d => d != c) }
    let ended := fun (codes : List Byte) =>
      { s with
        lines := tput s.lines x.position left
        channels := tput s.channels c none
        link :=
          { s.link with
            reserved := s.link.reserved - 1
            replies :=
              s.link.replies ++
                [⟨replyFrame Command.relaySend.type x.tag .ok
                  (maskOf (fun q => x.targets.contains q) :: (x.outcomes.map (fun o => byte o.code) ++ codes)),
                  none, false⟩] } }
    (x.stage = .waiting 0 → (∀ q ∈ after, (s.line q).tx = .off) →
      exec (.channelWaitExpiry c) s = .next (ended (4 :: after.map (fun _ => 3)))) ∧
    (∀ (passed rest : List Port) (q : Port), x.stage = .waiting 0 → after = passed ++ q :: rest →
      (∀ r ∈ passed, (s.line r).tx = .off) → (s.line q).tx ≠ .off →
      exec (.channelWaitExpiry c) s =
        .next
          { s with
            lines :=
              tput (tput s.lines x.position left) q
                { s.line q with waitList := (s.line q).waitList ++ [c] }
            channels :=
              tput s.channels c
                (some { x with
                  outcomes := x.outcomes ++ .timeout :: passed.map (fun _ => .lineOff)
                  position := q
                  stage := .waiting 500000 }) }) ∧
    (x.stage ≠ .waiting 0 → exec (.channelWaitExpiry c) s = .next s) ∧
    (∀ (tag : Byte) (pl : List Byte), DecoderFree s → pl.length = 1 → byteAt pl 0 = c.val →
      (∀ n, x.stage = .waiting n →
        exec (.relayCancel tag pl) s =
          .next (answered .relayCancel tag .ok [] (ended (5 :: after.map (fun _ => 5))))) ∧
      (x.stage = .onLine →
        exec (.relayCancel tag pl) s =
          .next
            (answered .relayCancel tag .ok []
              { s with channels := tput s.channels c (some { x with cancelRequested := true }) })))

/-! ## The profile store -/

/-- R160, R161, R166, R167: an accepted write begins with no reply but a reserved place, with its values fixed from the
payload or from the live configuration; SESSION sets the lock at once. A busy store and enforced protection refuse. -/
def Obligations.StoreWritesBegin : Prop :=
  ∀ (tag : Byte) (pl : List Byte) (n : Fin 9) (s : State), DecoderFree s → byteAt pl 0 = n.val →
    let begins := fun (w : StoreWrite) =>
      { s with
        store := { s.store with write := some w }
        link := { s.link with reserved := s.link.reserved + 1, prepared := false } }
    (pl.length = (if n.val = 8 then 40 else 24) → byteAt pl 1 = 0 → payloadValid n (pl.drop 2) = true →
      (s.storeBusy = true →
        exec (.profileWrite tag pl) s = .next (answered .profileWrite tag .busy [] s)) ∧
      (s.storeBusy = false → s.enforced = true → s.guardsSlot n = true →
        exec (.profileWrite tag pl) s = .next (answered .profileWrite tag .protected_ [] s)) ∧
      (s.storeBusy = false → s.enforced = false ∨ s.guardsSlot n = false →
        (ownParent n (pl.drop 2) = true →
          exec (.profileWrite tag pl) s = .next (answered .profileWrite tag .conflict [] s)) ∧
        (ownParent n (pl.drop 2) = false →
          exec (.profileWrite tag pl) s =
            .next (begins ⟨.slot n (payloadSlotBytes n (pl.drop 2)), tag, payloadChanged n (pl.drop 2)⟩)))) ∧
    (pl.length = 2 → byteAt pl 1 = 1 →
      (s.storeBusy = true →
        exec (.profileWriteLive tag pl) s = .next (answered .profileWrite tag .busy [] s)) ∧
      (s.storeBusy = false → s.enforced = true → s.guardsSlot n = true →
        exec (.profileWriteLive tag pl) s = .next (answered .profileWrite tag .protected_ [] s)) ∧
      (s.storeBusy = false → s.enforced = false ∨ s.guardsSlot n = false →
        exec (.profileWriteLive tag pl) s = .next (begins ⟨.slot n (liveSlotBytes n s), tag, false⟩))) ∧
    (pl = [1] →
      (s.storeBusy = true →
        exec (.profileProtectSession tag pl) s = .next (answered .profileProtect tag .busy [] s)) ∧
      (s.storeBusy = false →
        exec (.profileProtectSession tag pl) s =
          .next (answered .profileProtect tag .ok [] { s with store := { s.store with sessionLock := true } }))) ∧
    (∀ (m : ProtMode) (k : Byte) (d : Direction) (f : Bool),
      pl = [0, byte m.code, k, byte d.code, flagByte f] →
      (s.storeBusy = true →
        exec (.profileProtectModeMap tag pl) s = .next (answered .profileProtect tag .busy [] s)) ∧
      (s.storeBusy = false → s.enforced = true →
        exec (.profileProtectModeMap tag pl) s = .next (answered .profileProtect tag .protected_ [] s)) ∧
      (s.storeBusy = false → s.enforced = false →
        exec (.profileProtectModeMap tag pl) s =
          .next (begins ⟨.protection ⟨m, min 8 k.toNat, d, f⟩, tag, decide (8 < k.toNat)⟩)))

/-- R161, R163, R167: at its completion a write takes effect and its deferred reply is handed over: a slot is VALID with
its new contents, and new protection settings become current while the old copy is kept. With no write, or with one of
the other kind, the row changes nothing (the model's reading, log entry 17). -/
def Obligations.StoreWritesComplete : Prop :=
  ∀ (tag : Byte) (clamped : Bool) (s : State),
    let done := fun (c : Command) (fields : List Byte) =>
      { s.link with
        reserved := s.link.reserved - 1
        replies :=
          s.link.replies ++
            [⟨replyFrame c.type tag (if clamped = true then .okClamped else .ok) fields, none, false⟩] }
    (∀ (n : Fin 9) (bytes : List Byte), s.store.write = some ⟨.slot n bytes, tag, clamped⟩ →
      exec .writeComplete s =
          .next
            { s with
              store := { s.store with slots := tput s.store.slots n ⟨true, bytes⟩, write := none }
              link := done .profileWrite [byte n.val] } ∧
        exec .protectionWriteComplete s = .next s) ∧
    (∀ v : Protection, s.store.write = some ⟨.protection v, tag, clamped⟩ →
      (∃ t, exec .protectionWriteComplete s = .next t ∧ t.store.protection = v ∧ t.store.write = none ∧
        t.link = done .profileProtect [] ∧ t.store.slots = s.store.slots ∧
        t = { s with store := t.store, link := t.link } ∧
        (if t.store.currentB = true then t.store.copyA else t.store.copyB) = s.store.protection) ∧
      exec .writeComplete s = .next s) ∧
    (s.store.write = none → exec .writeComplete s = .next s ∧ exec .protectionWriteComplete s = .next s)

/-- R158, R185: a configuration in its ranges comes back whole from the bytes of its slot: nothing is lost, clamped or
refused. -/
def Obligations.ProfilesComeBackWhole : Prop :=
  (∀ (d c : PortConfig) (cold : Nat), c.inRange → cold ≤ 120000 →
    readPortFields d (writePortSlot c cold) = c ∧ coldStartField.get (writePortSlot c cold) = cold ∧
      portCodesValid (writePortSlot c cold) = true ∧ portNumbersChanged (writePortSlot c cold) = false ∧
      (writePortSlot c cold).length = 22) ∧
  (∀ x : SystemProfile, x.inRange →
    readSystem (writeSystem x) = x ∧ systemCodesValid (writeSystem x) = true ∧ (writeSystem x).length = 38)

/-- R157, R161, R162: no command changes a slot but the completion of its write; only POR and pin reset do so besides.
-/
def Obligations.SlotsChangeOnlyAtTheirCompletion : Prop :=
  ∀ (i : Instr) (s t : State), exec i s = .next t → t.store.slots ≠ s.store.slots →
    i = .writeComplete ∨ i = .por ∨ i = .pinReset

/-! ## The control link -/

/-- R15, R32, R86, R87, R159, R180, R181, R185: the queries answer OK with the fields of their rules, laid out by the widths
and codes of Tables 12-1, 12-2 and 12-7 and by 12.2 and 12.3, and change nothing but the reply queue and prepared, and
PORT_QUERY the line status that it reads (R137). The model's own: a time that is not a whole ms is rounded down (log
entry 6), an asserted comparator is a 1 (log entry 40), and the protection settings answer with 0xFF as their slot
number (log entry 43). -/
def Obligations.QueriesAnswerAndChangeNothing : Prop :=
  ∀ (tag : Byte) (s : State), DecoderFree s →
    let one := fun n : Nat => BitVec.ofNat 8 n
    let two := fun n : Nat => [one n, one (n / 256)]
    let four := fun n : Nat => [one n, one (n / 256), one (n / 65536), one (n / 16777216)]
    let flag := fun b : Bool => one (if b = true then 1 else 0)
    let sourceNo := fun x : Source => one (match x with | .sa => 0 | .sb => 1 | .sd => 2)
    let activeNo := fun x : Option Source => match x with | some x => sourceNo x | none => one 3
    let gradeNo := fun x : SourceState =>
      one (match x with
        | .disabled => 0 | .absent => 1 | .qualifying => 2 | .healthy => 3 | .low => 4 | .under => 5 | .over => 6)
    let selectionNo := fun x : SelMode => one (match x with | .priority => 0 | .drain => 1)
    let modeNo := fun m : Mode => one (match m with | .init => 0 | .standby => 1 | .run => 2 | .economy => 3)
    let deliveryNo := fun d : Delivery => one (match d with | .push => 0 | .held => 1)
    let allocNo := fun a : AllocState =>
      one (match a with
        | .off => 0 | .waiting => 1 | .starting => 2 | .held => 3 | .on => 4 | .shedding => 5 | .shed => 6 | .faulted => 7)
    let reasonNo := fun r : Option ShedReason =>
      one (match r with
        | none => 0 | some .envelope => 1 | some .noSource => 2 | some .mode => 3 | some .dependency => 4
        | some .preempted => 5 | some .overdraw => 6)
    let originNo := fun o : Option Origin =>
      one (match o with | some .link => 0 | some .accessory => 1 | some .profile => 2 | none => 0xFF)
    let classNo := fun c : PortClass => one (match c with | .essential => 0 | .normal => 1 | .deferrable => 2)
    let policyNo := fun x : Policy => one (match x with | .link => 0 | .accessory => 1)
    let filterNo := fun x : TripFilter => one (match x with | .us4 => 4 | .us16 => 16 | .us64 => 64)
    let tripModeNo := fun x : TripMode =>
      one (match x with | .report => 0 | .latch => 1 | .retryFast => 2 | .retrySlow => 3)
    let rampNo := fun x : RampTime => one (match x with | .ms1 => 1 | .ms4 => 4 | .ms16 => 16 | .ms64 => 64)
    let portNo := fun x : Option Port => one (match x with | some p => p.val | none => 0xFF)
    let rateNo := fun x : LineRate => one (match x with | .d64 => 64 | .d32 => 32 | .d16 => 16 | .d8 => 8)
    let switchNo := fun x : SwitchState =>
      one (match x with | .opened => 0 | .ramping _ _ => 1 | .paused _ _ => 2 | .closed _ => 3 | .cooling _ _ => 4)
    let faultNo := fun x : FaultKind =>
      one (match x with | .none => 0 | .trip => 1 | .hardTrip => 2 | .startFail => 3 | .retryLimit => 4)
    let lineEventNo := fun x : LineEvent =>
      one (match x with
        | .none => 0 | .framing => 1 | .gap => 2 | .badCheck => 3 | .unknown => 4 | .breakSeen => 5 | .collisionFail => 6)
    let protectionNo := fun x : ProtMode => one (match x with | .openMode => 0 | .pin => 1 | .fixed => 2)
    let directionNo := fun x : Direction => one (match x with | .low => 0 | .high => 1)
    let gainNo := fun g : Option Gain =>
      one (match g with | none => 0 | some .g2 => 2 | some .g4 => 4 | some .g8 => 8 | some .g16 => 16)
    let scaled := fun ch : SenseChannel =>
      let code := (s.sample ch).acc / 8
      match (s.sample ch).gain with
      | none => code * 11
      | some .g2 => (code - 2048) * 50 / 2
      | some .g4 => (code - 2048) * 50 / 4
      | some .g8 => (code - 2048) * 50 / 8
      | some .g16 => (code - 2048) * 50 / 16
    let total := fun l : List Port => (l.map (fun p => (s.port p).grant)).sum
    let committed := total s.engine.granted
    let retained := total (s.engine.granted.filter (fun p => decide (s.alloc p ≠ .shedding)))
    let enforced := decide (s.store.sessionLock = true ∨ s.store.protection.mode = .fixed ∨
      (s.store.protection.mode = .pin ∧ s.lockLow = true))
    let sourceEntry := fun (x : Source) (ch : SenseChannel) =>
      let r := s.source x
      [flag r.config.enable, gradeNo r.state] ++ two (scaled ch) ++ [flag r.comparator] ++ two r.config.capacity ++
        two r.config.softFloor ++ two r.config.hardFloor ++ two (r.qualify.getD 0 / 1000)
    let changeoverEntry := fun c : Option Changeover =>
      match c with
      | none => [one 0, one 0, one 0, one 0]
      | some c => [one 1, sourceNo c.target] ++ two c.remaining
    let queueEntry := fun p : Port =>
      [one p.val, allocNo (s.alloc p), classNo (s.cfg p).cls, one (s.cfg p).rank] ++ four (s.port p).request ++
        [reasonNo (s.port p).reason]
    let grantedEntry := fun p : Port => [one p.val, allocNo (s.alloc p)] ++ four (s.port p).grant
    let measured := fun ch : SenseChannel =>
      let r := s.sample ch
      [one ch.val] ++ two r.raw.toNat ++ two (scaled ch) ++
        [flag r.settled, flag r.seeded, flag r.saturated, gainNo r.gain, gainNo r.pendingGain] ++
        four (if r.gain = none then 0 else scaled 3 * scaled ch / 1000)
    let configEntry := fun c : PortConfig =>
      [classNo c.cls, one c.rank, policyNo c.policy] ++ four c.cap ++ two c.tripCurrent ++
        [filterNo c.tripFilter, tripModeNo c.tripMode, one c.retryLimit, rampNo c.rampTime] ++ two c.shedGrace ++
        [portNo c.parent, flag c.lineEnable, rateNo c.lineRate]
    let identityEntry := fun i : Option Identity =>
      match i with
      | none => [0, 0, 0, 0, 0, 0, 0, 0, 0, 0]
      | some i => [1, i.typeCode] ++ i.bytes.toList
    let place := fun p : Port =>
      if p ∈ s.engine.queue then [1, one (s.engine.queue.idxOf p)]
      else if p ∈ s.engine.granted then [2, one (s.engine.granted.idxOf p)] else [0, 0xFF]
    let answers := fun (i : Instr) (c : Command) (fields : List Byte) => exec i s = .next (answered c tag .ok fields s)
    answers (.identify tag []) .identify [0x17, 0x0A, 0x40, 0x18, 0x41, 8, 3, 3, 32, 8, 2, 32, 248, 60] ∧
      answers (.getStatus tag []) .getStatus
        ([modeNo s.mode, activeNo s.sel.active, flag s.sel.changeover.isSome] ++ four s.engine.envelope ++
          four committed ++ four retained ++
          [flag s.engine.overcommit, flag s.engine.restoreHold.isSome, flag s.store.write.isSome,
            one s.link.notices.length, deliveryNo s.link.delivery, flag s.store.sessionLock, flag enforced]) ∧
      answers (.sourceQuery tag []) .sourceQuery
        (sourceEntry .sa 0 ++ sourceEntry .sb 1 ++ sourceEntry .sd 2 ++ [selectionNo s.sel.settings.mode] ++
          s.sel.settings.order.map sourceNo ++ two s.sel.settings.qualifyTime ++ [activeNo s.sel.active] ++
          changeoverEntry s.sel.changeover) ∧
      answers (.allocQuery tag []) .allocQuery
        (four s.engine.envelope ++ four committed ++ four retained ++ four s.engine.bodyReserve ++
          four s.engine.pBody ++ four s.engine.restoreMargin ++ two s.engine.restoreHoldTime ++
          two (s.engine.restoreHold.getD 0 / 1000) ++ [flag s.engine.overcommit, flag s.engine.held] ++
          [one s.engine.queue.length] ++ s.engine.queue.flatMap queueEntry ++
          [one s.engine.granted.length] ++ s.engine.granted.flatMap grantedEntry ++
          [portNo s.engine.slot0, portNo s.engine.slot1]) ∧
      (∀ ch : SenseChannel, answers (.measure tag [one ch.val]) .measure (measured ch)) ∧
      answers (.measure tag [0xFF]) .measure
        (([0, 1, 2, 3, 4, 5, 6, 7, 8, 9, 10, 11, 12] : List SenseChannel).flatMap measured) ∧
      (∀ (n : Fin 9) (bytes : List Byte), tget s.store.slots n = ⟨true, bytes⟩ →
        answers (.profileRead tag [one n.val]) .profileRead ([one n.val, 1] ++ bytes)) ∧
      (∀ n : Fin 9, (tget s.store.slots n).valid = false →
        answers (.profileRead tag [one n.val]) .profileRead
          ([one n.val, 0] ++
            (if n.val < 8 then
              [1, one n.val, 0, 48, 117, 0, 0, 160, 15, 16, 3, 4, 4, 244, 1, 255, 1, 16, 0, 0, 0, 0]
            else
              [1, 16, 39, 144, 51, 80, 45, 1, 16, 39, 144, 51, 80, 45, 1, 64, 31, 248, 42, 16, 39, 0, 2, 0, 1, 200, 0,
                168, 97, 0, 0, 136, 19, 0, 0, 208, 7, 2]))) ∧
      answers (.profileRead tag [0xFF]) .profileRead
        [0xFF, 1, protectionNo s.store.protection.mode, one s.store.protection.count,
          directionNo s.store.protection.direction, flag s.store.protection.complement, flag s.store.sessionLock] ∧
      (∀ p : Port,
        let r := s.port p
        let w := s.switch p
        let l := s.line p
        exec (.portQuery tag [one p.val]) s =
          .next
            (answered .portQuery tag .ok
              ([one p.val] ++ configEntry r.config ++ [allocNo r.alloc] ++ four r.request ++ four r.grant ++
                [originNo r.origin, reasonNo r.reason, flag r.clamped, one r.overdraw] ++
                two (r.grace.getD 0 / 1000) ++ identityEntry r.identity ++
                [switchNo w.state, one w.retry, faultNo w.lastFault, one w.tripCount] ++ place p ++
                [flag (decide (s.engine.slot0 = some p ∨ s.engine.slot1 = some p)), lineEventNo l.lastEvent,
                  flag l.noiseSeen, one (s.pool.arrivals.countP (fun a => decide (a.port = p)))])
              { s with lines := tput s.lines p { l with lastEvent := .none, noiseSeen := false } }))

/-- R170, R178, R179: LINK_SET holds its divisor with its reply and leaves the rate as it is; NOTICE_CONFIG stores mask
and delivery and drops the notices the mask excludes; NOTICE_FETCH takes the oldest notice. -/
def Obligations.LinkSettingsAndNoticeFetch : Prop :=
  ∀ (tag : Byte) (pl : List Byte) (s : State), DecoderFree s →
    (∀ d, pl.length = 1 → linkDivisorOfCode (byteAt pl 0) = some d →
      exec (.linkSet tag pl) s =
        .next
          { s with
            link :=
              { s.link with
                replies := s.link.replies ++ [⟨replyFrame Command.linkSet.type tag .ok [], some d, false⟩]
                prepared := false } }) ∧
    (∀ d, pl.length = 2 → byteAt pl 0 < 64 → deliveryOfCode (byteAt pl 1) = some d →
      exec (.noticeConfig tag pl) s =
        .next
          (answered .noticeConfig tag .ok []
            { s with
              link :=
                { s.link with
                  mask := BitVec.ofNat 6 (byteAt pl 0)
                  delivery := d
                  notices :=
                    s.link.notices.filter (fun n => (BitVec.ofNat 6 (byteAt pl 0)).getLsbD (n.kind - 1)) } })) ∧
    (∀ n rest, pl = [] → s.link.notices = n :: rest →
      exec (.noticeFetch tag pl) s =
        .next
          (answered .noticeFetch tag .ok (n.bytes ++ [byte rest.length])
            { s with link := { s.link with notices := rest } })) ∧
    (pl = [] → s.link.notices = [] →
      exec (.noticeFetch tag pl) s = .next (answered .noticeFetch tag .empty (List.replicate 16 0) s))

/-- R182: the reset sequence. RESET_PREPARE sets prepared; RESET without it is refused SEQUENCE, with a busy store BUSY,
and otherwise makes the link reset pending with its reply. -/
def Obligations.ResetNeedsItsPreparation : Prop :=
  ∀ (tag : Byte) (s : State), DecoderFree s →
    exec (.resetPrepare tag []) s =
        .next
          { s with
            link :=
              { s.link with
                replies := s.link.replies ++ [⟨replyFrame Command.resetPrepare.type tag .ok [], none, false⟩]
                prepared := true } } ∧
      (s.link.prepared = false → exec (.reset tag []) s = .next (answered .reset tag .sequence [] s)) ∧
      (s.link.prepared = true → s.storeBusy = true → exec (.reset tag []) s = .next (answered .reset tag .busy [] s)) ∧
      (s.link.prepared = true → s.storeBusy = false →
        exec (.reset tag []) s =
          .next
            { s with
              link :=
                { s.link with
                  replies := s.link.replies ++ [⟨replyFrame Command.reset.type tag .ok [], none, true⟩]
                  resetPending := true
                  prepared := false } })

/-- R112, R121, R173, R174, R185: what the link does with a command frame before its owner sees it: BUSY in INIT,
UNKNOWN for a type that is not listed, BAD_LENGTH, MODE in STANDBY; a frame the decoder cannot take yet waits; one at
the head of a queue is taken as soon as the decoder can, is handled as it would be alone, and leaves the rest of the
queue in order; a full command queue answers BUSY or, without a free place, drops it. That a row whose frame equals the
head is the decoder taking it, and any other an arrival, is the model's reading (log entry 8); so is the reply type of a
frame of type 0x80 or more, the type plus 0x80 in one byte, in the clauses of a refusal and of BUSY (log entry 24). -/
def Obligations.DecoderRefusesOrWaits : Prop :=
  ∀ (i : Instr) (f : Frame) (s : State), i.frame = some f → s.resetHeld = false →
    let refused := fun (r : Result) =>
      { s with
        link :=
          { s.link with
            replies :=
              s.link.replies ++
                [⟨replyFrame f.type f.tag r
                  (if f.type = 0x22 then List.replicate 6 0 else if f.type = 0x30 then List.replicate 2 0 else []),
                  none, false⟩]
            prepared := false } }
    (s.link.commands = [] → s.link.hasPlace = true → s.link.resetPending = false →
      (s.mode = .init → exec i s = .next (refused .busy)) ∧
      (∀ type tag pl, i = .unknownCommand type tag pl → s.mode ≠ .init → commandOfType type = none →
        exec (.unknownCommand type tag pl) s = .next (refused .unknown)) ∧
      (∀ c, s.mode ≠ .init → commandOfType f.type = some c → lengthMatches c f.payload = false →
        exec i s = .next (refused .badLength)) ∧
      (s.mode = .standby → f.type = 0x40 ∨ f.type = 0x43 →
        (∃ c, commandOfType f.type = some c ∧ lengthMatches c f.payload = true) →
        exec i s = .next (refused .mode))) ∧
    (s.link.commands = [] → s.link.hasPlace = false ∨ s.link.resetPending = true →
      exec i s = .next { s with link := { s.link with commands := [f] } }) ∧
    (∀ rest, s.link.commands = f :: rest →
      (s.link.hasPlace = true → s.link.resetPending = false →
        ∃ t, exec i { s with link := { s.link with commands := [] } } = .next t ∧ t.link.commands = [] ∧
          exec i s = .next { t with link := { t.link with commands := rest } }) ∧
      (s.link.hasPlace = false ∨ s.link.resetPending = true → exec i s = .next s)) ∧
    (∀ h rest, s.link.commands = h :: rest → h ≠ f →
      (s.link.commands.length < 4 →
        exec i s = .next { s with link := { s.link with commands := s.link.commands ++ [f] } }) ∧
      (4 ≤ s.link.commands.length → s.link.hasPlace = true →
        exec i s =
          .next { s with link := { (refused .busy).link with prepared := s.link.prepared } }) ∧
      (4 ≤ s.link.commands.length → s.link.hasPlace = false → exec i s = .next s))

/-- R170, R171, R176, R183: the events of the control link's receiver and the start of a frame. A frame in progress is
abandoned by its gap, a break or a framing error; a reply goes before a notice, and a notice goes only in PUSH delivery
with no reset pending. R169: LTX is high while nothing is sent, and sends each byte of a frame as start bit, data bits
from the lowest, and stop bit, without a gap. The model's own: a row whose event cannot occur as the link stands, or
whose time has not run out, changes nothing (log entries 3 and 17). -/
def Obligations.LinkEventsMoveTheLinkAlone : Prop :=
  ∀ s : State, s.resetHeld = false →
    let l := s.link
    let becomes := fun (i : Instr) (m : Link) => exec i s = .next { s with link := m }
    becomes .linkValidStart { l with charInProgress := true, gap := none } ∧
      (l.gap = some 0 → becomes .linkGapExpiry { l with buffer := none, gap := none }) ∧
      (l.buffer.isSome = true → becomes .linkBreak { l with buffer := none, gap := none }) ∧
      (l.gap ≠ some 0 → exec .linkGapExpiry s = .next s) ∧ (l.buffer = none → exec .linkBreak s = .next s) ∧
      (l.charInProgress = false → becomes .receiverRateChange { l with rxDivisor := l.divisor }) ∧
      (l.charInProgress = true → exec .receiverRateChange s = .next s) ∧
      (l.charInProgress = false → ∀ x : LinkSamples, exec (.linkCharacterReceived x) s = .next s) ∧
      (∀ x : LinkSamples, l.charInProgress = true → voteLevel x.stop = false →
        becomes (.linkCharacterReceived x) { l with charInProgress := false, buffer := none, gap := none }) ∧
      (∀ b : Byte, l.charInProgress = true → l.buffer = none → b ≠ 0x5A →
        becomes (.linkCharacterReceived (cleanLinkChar b)) { l with charInProgress := false }) ∧
      (l.sending.isSome = true → exec .frameBegin s = .next s) ∧
      (∀ e rest, l.sending = none → l.replies = e :: rest →
        becomes .frameBegin { l with replies := rest, sending := some ⟨e.frame.wire, e.divisor, e.isReset⟩ }) ∧
      (∀ n rest, l.sending = none → l.replies = [] → l.notices = n :: rest →
        (l.delivery = .push → l.resetPending = false →
          becomes .frameBegin { l with notices := rest, sending := some ⟨(Frame.mk 0x70 0 n.bytes).wire, none, false⟩ }) ∧
        (l.delivery = .held ∨ l.resetPending = true → exec .frameBegin s = .next s)) ∧
      (l.sending = none → ∀ n : Nat, l.ltx n = true) ∧
      (∀ w ∈ l.sending,
        (∀ (i : Nat) (b : Byte), w.wire[i]? = some b →
          l.ltx (10 * i) = false ∧ (∀ k : Nat, k < 8 → l.ltx (10 * i + 1 + k) = b.getLsbD k) ∧
            l.ltx (10 * i + 9) = true) ∧
        ∀ n : Nat, 10 * w.wire.length ≤ n → l.ltx n = true)

/-- R171, R172, R173, R185: a frame sent as its wire bytes is received whole: it joins the end of the command queue with
its type, tag and payload, and the receiver is back in HUNT. -/
def Obligations.FramesAreReceivedWhole : Prop :=
  ∀ (f : Frame) (s : State), s.resetHeld = false → s.link.buffer = none → f.payload.length ≤ 248 →
    s.link.commands.length < 4 →
    execAll (frameEvents f.wire) s =
      .next
        { s with
          link :=
            { s.link with
              commands := s.link.commands ++ [f], buffer := none, gap := none, charInProgress := false } }

/-- R177: posting a notice. A kind outside the mask is dropped; one whose kind and subject stand in the queue replaces
that content in its place; any other is appended. The queue never holds two of the same kind and subject, and so at most
29. -/
def Obligations.NoticesAreCoalesced : Prop :=
  ∀ (n : Notice) (l : Link),
    (l.mask.getLsbD (n.kind - 1) = false → l.post n = l) ∧
    (l.mask.getLsbD (n.kind - 1) = true →
      (∀ before m after, l.notices = before ++ m :: after → m.kind = n.kind → m.subject = n.subject →
        NoticesDistinct l.notices → l.post n = { l with notices := before ++ n :: after }) ∧
      ((∀ m ∈ l.notices, m.kind ≠ n.kind ∨ m.subject ≠ n.subject) →
        l.post n = { l with notices := l.notices ++ [n] })) ∧
    (NoticesDistinct l.notices → NoticesDistinct (l.post n).notices ∧ (l.post n).notices.length ≤ 29)

/-! ## Protection -/

/-- R166: while protection is enforced no command frame changes the configuration of a protected port, of a source or of
the selection, nor the allocation settings, nor begins a write of slot 8, of a protected port's slot or of the
protection settings. -/
def Obligations.EnforcedProtectionHoldsAgainstTheHost : Prop :=
  ∀ (i : Instr) (f : Frame) (s t : State), i.frame = some f → s.enforced = true → exec i s = .next t →
    (∀ p : Port, s.protectedPort p = true → t.cfg p = s.cfg p) ∧
      (∀ x ∈ allSources, (t.source x).config = (s.source x).config) ∧ t.sel.settings = s.sel.settings ∧
      t.engine.bodyReserve = s.engine.bodyReserve ∧ t.engine.restoreMargin = s.engine.restoreMargin ∧
      t.engine.restoreHoldTime = s.engine.restoreHoldTime ∧ t.enforced = true ∧
      t.store.protection = s.store.protection ∧
      (t.store.write = s.store.write ∨
        ∃ (p : Port) (bytes : List Byte) (tag : Byte) (clamped : Bool), s.protectedPort p = false ∧
          t.store.write = some ⟨.slot (portSlot p) bytes, tag, clamped⟩)

/-! ## Invariants of every step -/

/-- R60 to R62, R64, R102, R104, R105, R107: every step keeps the allocation table, the lists, the slots and the switches in
agreement: each port in the list of its state, the admission queue in key order with no request of 0 mW, a child in the
granted list only while its parent is ON, or SHEDDING with the child in SHEDDING too, and no cycle of parents. -/
def Obligations.StepKeepsAllocationConsistent : Prop :=
  ∀ s t : State, AllocationConsistent s → step s = .next t → AllocationConsistent t

/-- R96: after every step retained power is within the envelope, unless only ESSENTIAL ports are left to shed. -/
def Obligations.StepKeepsEnvelopeRespected : Prop :=
  ∀ s t : State, AllocationConsistent s → EnvelopeRespected s → step s = .next t → EnvelopeRespected t

/-- R9 to R13: every step keeps the bus on a usable source where there is one, and never drives two SEL pins. -/
def Obligations.StepKeepsTheBus : Prop :=
  ∀ s t : State, BusAgreement s → BreakBeforeMake s → step s = .next t → BusAgreement t ∧ BreakBeforeMake t

/-- R139, R150, R173, R175, R177: every step keeps the queues within their sizes, the reserved places accounted for, and
each send with one outcome for each target behind it. -/
def Obligations.StepKeepsQueuesAndSends : Prop :=
  ∀ s t : State, step s = .next t → (QueuesBounded s → QueuesBounded t) ∧ (SendsInOrder s → SendsInOrder t)

/-- R27, R46, R50: every step keeps the accumulators, the trip counts and the retry counters within their bounds. -/
def Obligations.StepKeepsCountersBounded : Prop :=
  ∀ s t : State, step s = .next t →
    (AccumulatorsBounded s → AccumulatorsBounded t) ∧ (FaultCountsBounded s → FaultCountsBounded t)

/-- R112, R115, R116, R126: every step keeps the rails and the lines with the mode. -/
def Obligations.StepKeepsRailsAndLines : Prop :=
  ∀ s t : State, RailsAndLines s → step s = .next t → RailsAndLines t

/-- R166: in FIXED mode the protection settings can never change again. -/
def Obligations.StepKeepsFixedProtection : Prop :=
  ∀ s t : State, ProtectionFixed s → step s = .next t →
    ProtectionFixed t ∧ t.store.protection = s.store.protection ∧ t.enforced = true

/-- The state right after reset meets every invariant. -/
def Obligations.ResetMeetsTheInvariants : Prop :=
  AllocationConsistent State.reset ∧ EnvelopeRespected State.reset ∧ BusAgreement State.reset ∧
    BreakBeforeMake State.reset ∧ QueuesBounded State.reset ∧ SendsInOrder State.reset ∧
    AccumulatorsBounded State.reset ∧ FaultCountsBounded State.reset ∧ RailsAndLines State.reset

end
end

