-- ==== Sys2Proof/Laws/State.lean ====
section
/-! SUPPORT. The lemmas of the state's updates: one for each field and each update, and the reads after the writes of the
fixed tables. -/

namespace Sys2Proof.Machine

/-! ## Fixed tables -/

@[simp] theorem tget_tput_self {α : Type} {n : Nat} (v : Vector α n) (i : Fin n) (x : α) : tget (tput v i x) i = x := by
  simp [tget, tput]

@[simp] theorem tget_tput_ne {α : Type} {n : Nat} (v : Vector α n) {i j : Fin n} (x : α) (h : j ≠ i) :
    tget (tput v i x) j = tget v j := by
  have hv : i.val ≠ j.val := fun e => h (Fin.ext e.symm)
  simp [tget, tput, hv]

theorem tget_tput {α : Type} {n : Nat} (v : Vector α n) (i j : Fin n) (x : α) :
    tget (tput v i x) j = if j = i then x else tget v j := by
  split
  · next h => subst h; exact tget_tput_self v j x
  · next h => exact tget_tput_ne v x h

@[simp] theorem tget_map {α β : Type} {n : Nat} (f : α → β) (v : Vector α n) (i : Fin n) :
    tget (v.map f) i = f (tget v i) := by simp [tget]

@[simp] theorem tget_replicate {α : Type} {n : Nat} (x : α) (i : Fin n) : tget (Vector.replicate n x) i = x := by
  simp [tget]

@[simp] theorem tput_tget {α : Type} {n : Nat} (v : Vector α n) (i : Fin n) : tput v i (tget v i) = v := by
  simp [tput, tget]

@[simp] theorem tput_tput {α : Type} {n : Nat} (v : Vector α n) (i : Fin n) (x y : α) :
    tput (tput v i x) i y = tput v i y := by simp [tput]

/-- Two fixed tables with the same entries are the same. -/
theorem tget_ext {α : Type} {n : Nat} {v w : Vector α n} (h : ∀ i, tget v i = tget w i) : v = w := by
  ext i hi
  exact h ⟨i, hi⟩

/-! ## setPort -/

@[simp] theorem State.setPort_resetHeld (s : State) (p : Port) (r : PortRec) : (s.setPort p r).resetHeld = s.resetHeld := rfl
@[simp] theorem State.setPort_lockLow (s : State) (p : Port) (r : PortRec) : (s.setPort p r).lockLow = s.lockLow := rfl
@[simp] theorem State.setPort_mode (s : State) (p : Port) (r : PortRec) : (s.setPort p r).mode = s.mode := rfl
@[simp] theorem State.setPort_initByLink (s : State) (p : Port) (r : PortRec) : (s.setPort p r).initByLink = s.initByLink := rfl
@[simp] theorem State.setPort_rails (s : State) (p : Port) (r : PortRec) : (s.setPort p r).rails = s.rails := rfl
@[simp] theorem State.setPort_linesOn (s : State) (p : Port) (r : PortRec) : (s.setPort p r).linesOn = s.linesOn := rfl
@[simp] theorem State.setPort_powerUp (s : State) (p : Port) (r : PortRec) : (s.setPort p r).powerUp = s.powerUp := rfl
@[simp] theorem State.setPort_sel (s : State) (p : Port) (r : PortRec) : (s.setPort p r).sel = s.sel := rfl
@[simp] theorem State.setPort_sense (s : State) (p : Port) (r : PortRec) : (s.setPort p r).sense = s.sense := rfl
@[simp] theorem State.setPort_switches (s : State) (p : Port) (r : PortRec) : (s.setPort p r).switches = s.switches := rfl
@[simp] theorem State.setPort_engine (s : State) (p : Port) (r : PortRec) : (s.setPort p r).engine = s.engine := rfl
@[simp] theorem State.setPort_lines (s : State) (p : Port) (r : PortRec) : (s.setPort p r).lines = s.lines := rfl
@[simp] theorem State.setPort_pool (s : State) (p : Port) (r : PortRec) : (s.setPort p r).pool = s.pool := rfl
@[simp] theorem State.setPort_channels (s : State) (p : Port) (r : PortRec) : (s.setPort p r).channels = s.channels := rfl
@[simp] theorem State.setPort_store (s : State) (p : Port) (r : PortRec) : (s.setPort p r).store = s.store := rfl
@[simp] theorem State.setPort_link (s : State) (p : Port) (r : PortRec) : (s.setPort p r).link = s.link := rfl
@[simp] theorem State.setPort_selEvents (s : State) (p : Port) (r : PortRec) : (s.setPort p r).selEvents = s.selEvents := rfl
@[simp] theorem State.setPort_reports (s : State) (p : Port) (r : PortRec) : (s.setPort p r).reports = s.reports := rfl
@[simp] theorem State.setPort_records (s : State) (p : Port) (r : PortRec) : (s.setPort p r).records = s.records := rfl
@[simp] theorem State.setPort_choices (s : State) (p : Port) (r : PortRec) : (s.setPort p r).choices = s.choices := rfl
@[simp] theorem State.setPort_pending (s : State) (p : Port) (r : PortRec) : (s.setPort p r).pending = s.pending := rfl

/-! ## setSwitch -/

@[simp] theorem State.setSwitch_resetHeld (s : State) (p : Port) (r : SwitchRec) : (s.setSwitch p r).resetHeld = s.resetHeld := rfl
@[simp] theorem State.setSwitch_lockLow (s : State) (p : Port) (r : SwitchRec) : (s.setSwitch p r).lockLow = s.lockLow := rfl
@[simp] theorem State.setSwitch_mode (s : State) (p : Port) (r : SwitchRec) : (s.setSwitch p r).mode = s.mode := rfl
@[simp] theorem State.setSwitch_initByLink (s : State) (p : Port) (r : SwitchRec) : (s.setSwitch p r).initByLink = s.initByLink := rfl
@[simp] theorem State.setSwitch_rails (s : State) (p : Port) (r : SwitchRec) : (s.setSwitch p r).rails = s.rails := rfl
@[simp] theorem State.setSwitch_linesOn (s : State) (p : Port) (r : SwitchRec) : (s.setSwitch p r).linesOn = s.linesOn := rfl
@[simp] theorem State.setSwitch_powerUp (s : State) (p : Port) (r : SwitchRec) : (s.setSwitch p r).powerUp = s.powerUp := rfl
@[simp] theorem State.setSwitch_sel (s : State) (p : Port) (r : SwitchRec) : (s.setSwitch p r).sel = s.sel := rfl
@[simp] theorem State.setSwitch_sense (s : State) (p : Port) (r : SwitchRec) : (s.setSwitch p r).sense = s.sense := rfl
@[simp] theorem State.setSwitch_ports (s : State) (p : Port) (r : SwitchRec) : (s.setSwitch p r).ports = s.ports := rfl
@[simp] theorem State.setSwitch_engine (s : State) (p : Port) (r : SwitchRec) : (s.setSwitch p r).engine = s.engine := rfl
@[simp] theorem State.setSwitch_lines (s : State) (p : Port) (r : SwitchRec) : (s.setSwitch p r).lines = s.lines := rfl
@[simp] theorem State.setSwitch_pool (s : State) (p : Port) (r : SwitchRec) : (s.setSwitch p r).pool = s.pool := rfl
@[simp] theorem State.setSwitch_channels (s : State) (p : Port) (r : SwitchRec) : (s.setSwitch p r).channels = s.channels := rfl
@[simp] theorem State.setSwitch_store (s : State) (p : Port) (r : SwitchRec) : (s.setSwitch p r).store = s.store := rfl
@[simp] theorem State.setSwitch_link (s : State) (p : Port) (r : SwitchRec) : (s.setSwitch p r).link = s.link := rfl
@[simp] theorem State.setSwitch_selEvents (s : State) (p : Port) (r : SwitchRec) : (s.setSwitch p r).selEvents = s.selEvents := rfl
@[simp] theorem State.setSwitch_reports (s : State) (p : Port) (r : SwitchRec) : (s.setSwitch p r).reports = s.reports := rfl
@[simp] theorem State.setSwitch_records (s : State) (p : Port) (r : SwitchRec) : (s.setSwitch p r).records = s.records := rfl
@[simp] theorem State.setSwitch_choices (s : State) (p : Port) (r : SwitchRec) : (s.setSwitch p r).choices = s.choices := rfl
@[simp] theorem State.setSwitch_pending (s : State) (p : Port) (r : SwitchRec) : (s.setSwitch p r).pending = s.pending := rfl

/-! ## setLine -/

@[simp] theorem State.setLine_resetHeld (s : State) (p : Port) (r : LineRec) : (s.setLine p r).resetHeld = s.resetHeld := rfl
@[simp] theorem State.setLine_lockLow (s : State) (p : Port) (r : LineRec) : (s.setLine p r).lockLow = s.lockLow := rfl
@[simp] theorem State.setLine_mode (s : State) (p : Port) (r : LineRec) : (s.setLine p r).mode = s.mode := rfl
@[simp] theorem State.setLine_initByLink (s : State) (p : Port) (r : LineRec) : (s.setLine p r).initByLink = s.initByLink := rfl
@[simp] theorem State.setLine_rails (s : State) (p : Port) (r : LineRec) : (s.setLine p r).rails = s.rails := rfl
@[simp] theorem State.setLine_linesOn (s : State) (p : Port) (r : LineRec) : (s.setLine p r).linesOn = s.linesOn := rfl
@[simp] theorem State.setLine_powerUp (s : State) (p : Port) (r : LineRec) : (s.setLine p r).powerUp = s.powerUp := rfl
@[simp] theorem State.setLine_sel (s : State) (p : Port) (r : LineRec) : (s.setLine p r).sel = s.sel := rfl
@[simp] theorem State.setLine_sense (s : State) (p : Port) (r : LineRec) : (s.setLine p r).sense = s.sense := rfl
@[simp] theorem State.setLine_switches (s : State) (p : Port) (r : LineRec) : (s.setLine p r).switches = s.switches := rfl
@[simp] theorem State.setLine_ports (s : State) (p : Port) (r : LineRec) : (s.setLine p r).ports = s.ports := rfl
@[simp] theorem State.setLine_engine (s : State) (p : Port) (r : LineRec) : (s.setLine p r).engine = s.engine := rfl
@[simp] theorem State.setLine_pool (s : State) (p : Port) (r : LineRec) : (s.setLine p r).pool = s.pool := rfl
@[simp] theorem State.setLine_channels (s : State) (p : Port) (r : LineRec) : (s.setLine p r).channels = s.channels := rfl
@[simp] theorem State.setLine_store (s : State) (p : Port) (r : LineRec) : (s.setLine p r).store = s.store := rfl
@[simp] theorem State.setLine_link (s : State) (p : Port) (r : LineRec) : (s.setLine p r).link = s.link := rfl
@[simp] theorem State.setLine_selEvents (s : State) (p : Port) (r : LineRec) : (s.setLine p r).selEvents = s.selEvents := rfl
@[simp] theorem State.setLine_reports (s : State) (p : Port) (r : LineRec) : (s.setLine p r).reports = s.reports := rfl
@[simp] theorem State.setLine_records (s : State) (p : Port) (r : LineRec) : (s.setLine p r).records = s.records := rfl
@[simp] theorem State.setLine_choices (s : State) (p : Port) (r : LineRec) : (s.setLine p r).choices = s.choices := rfl
@[simp] theorem State.setLine_pending (s : State) (p : Port) (r : LineRec) : (s.setLine p r).pending = s.pending := rfl

/-! ## setChannel -/

@[simp] theorem State.setChannel_resetHeld (s : State) (c : SendNo) (x : Option Send) : (s.setChannel c x).resetHeld = s.resetHeld := rfl
@[simp] theorem State.setChannel_lockLow (s : State) (c : SendNo) (x : Option Send) : (s.setChannel c x).lockLow = s.lockLow := rfl
@[simp] theorem State.setChannel_mode (s : State) (c : SendNo) (x : Option Send) : (s.setChannel c x).mode = s.mode := rfl
@[simp] theorem State.setChannel_initByLink (s : State) (c : SendNo) (x : Option Send) : (s.setChannel c x).initByLink = s.initByLink := rfl
@[simp] theorem State.setChannel_rails (s : State) (c : SendNo) (x : Option Send) : (s.setChannel c x).rails = s.rails := rfl
@[simp] theorem State.setChannel_linesOn (s : State) (c : SendNo) (x : Option Send) : (s.setChannel c x).linesOn = s.linesOn := rfl
@[simp] theorem State.setChannel_powerUp (s : State) (c : SendNo) (x : Option Send) : (s.setChannel c x).powerUp = s.powerUp := rfl
@[simp] theorem State.setChannel_sel (s : State) (c : SendNo) (x : Option Send) : (s.setChannel c x).sel = s.sel := rfl
@[simp] theorem State.setChannel_sense (s : State) (c : SendNo) (x : Option Send) : (s.setChannel c x).sense = s.sense := rfl
@[simp] theorem State.setChannel_switches (s : State) (c : SendNo) (x : Option Send) : (s.setChannel c x).switches = s.switches := rfl
@[simp] theorem State.setChannel_ports (s : State) (c : SendNo) (x : Option Send) : (s.setChannel c x).ports = s.ports := rfl
@[simp] theorem State.setChannel_engine (s : State) (c : SendNo) (x : Option Send) : (s.setChannel c x).engine = s.engine := rfl
@[simp] theorem State.setChannel_lines (s : State) (c : SendNo) (x : Option Send) : (s.setChannel c x).lines = s.lines := rfl
@[simp] theorem State.setChannel_pool (s : State) (c : SendNo) (x : Option Send) : (s.setChannel c x).pool = s.pool := rfl
@[simp] theorem State.setChannel_store (s : State) (c : SendNo) (x : Option Send) : (s.setChannel c x).store = s.store := rfl
@[simp] theorem State.setChannel_link (s : State) (c : SendNo) (x : Option Send) : (s.setChannel c x).link = s.link := rfl
@[simp] theorem State.setChannel_selEvents (s : State) (c : SendNo) (x : Option Send) : (s.setChannel c x).selEvents = s.selEvents := rfl
@[simp] theorem State.setChannel_reports (s : State) (c : SendNo) (x : Option Send) : (s.setChannel c x).reports = s.reports := rfl
@[simp] theorem State.setChannel_records (s : State) (c : SendNo) (x : Option Send) : (s.setChannel c x).records = s.records := rfl
@[simp] theorem State.setChannel_choices (s : State) (c : SendNo) (x : Option Send) : (s.setChannel c x).choices = s.choices := rfl
@[simp] theorem State.setChannel_pending (s : State) (c : SendNo) (x : Option Send) : (s.setChannel c x).pending = s.pending := rfl

/-! ## setSample -/

@[simp] theorem State.setSample_resetHeld (s : State) (ch : SenseChannel) (r : ChannelRec) : (s.setSample ch r).resetHeld = s.resetHeld := rfl
@[simp] theorem State.setSample_lockLow (s : State) (ch : SenseChannel) (r : ChannelRec) : (s.setSample ch r).lockLow = s.lockLow := rfl
@[simp] theorem State.setSample_mode (s : State) (ch : SenseChannel) (r : ChannelRec) : (s.setSample ch r).mode = s.mode := rfl
@[simp] theorem State.setSample_initByLink (s : State) (ch : SenseChannel) (r : ChannelRec) : (s.setSample ch r).initByLink = s.initByLink := rfl
@[simp] theorem State.setSample_rails (s : State) (ch : SenseChannel) (r : ChannelRec) : (s.setSample ch r).rails = s.rails := rfl
@[simp] theorem State.setSample_linesOn (s : State) (ch : SenseChannel) (r : ChannelRec) : (s.setSample ch r).linesOn = s.linesOn := rfl
@[simp] theorem State.setSample_powerUp (s : State) (ch : SenseChannel) (r : ChannelRec) : (s.setSample ch r).powerUp = s.powerUp := rfl
@[simp] theorem State.setSample_sel (s : State) (ch : SenseChannel) (r : ChannelRec) : (s.setSample ch r).sel = s.sel := rfl
@[simp] theorem State.setSample_switches (s : State) (ch : SenseChannel) (r : ChannelRec) : (s.setSample ch r).switches = s.switches := rfl
@[simp] theorem State.setSample_ports (s : State) (ch : SenseChannel) (r : ChannelRec) : (s.setSample ch r).ports = s.ports := rfl
@[simp] theorem State.setSample_engine (s : State) (ch : SenseChannel) (r : ChannelRec) : (s.setSample ch r).engine = s.engine := rfl
@[simp] theorem State.setSample_lines (s : State) (ch : SenseChannel) (r : ChannelRec) : (s.setSample ch r).lines = s.lines := rfl
@[simp] theorem State.setSample_pool (s : State) (ch : SenseChannel) (r : ChannelRec) : (s.setSample ch r).pool = s.pool := rfl
@[simp] theorem State.setSample_channels (s : State) (ch : SenseChannel) (r : ChannelRec) : (s.setSample ch r).channels = s.channels := rfl
@[simp] theorem State.setSample_store (s : State) (ch : SenseChannel) (r : ChannelRec) : (s.setSample ch r).store = s.store := rfl
@[simp] theorem State.setSample_link (s : State) (ch : SenseChannel) (r : ChannelRec) : (s.setSample ch r).link = s.link := rfl
@[simp] theorem State.setSample_selEvents (s : State) (ch : SenseChannel) (r : ChannelRec) : (s.setSample ch r).selEvents = s.selEvents := rfl
@[simp] theorem State.setSample_reports (s : State) (ch : SenseChannel) (r : ChannelRec) : (s.setSample ch r).reports = s.reports := rfl
@[simp] theorem State.setSample_records (s : State) (ch : SenseChannel) (r : ChannelRec) : (s.setSample ch r).records = s.records := rfl
@[simp] theorem State.setSample_choices (s : State) (ch : SenseChannel) (r : ChannelRec) : (s.setSample ch r).choices = s.choices := rfl
@[simp] theorem State.setSample_pending (s : State) (ch : SenseChannel) (r : ChannelRec) : (s.setSample ch r).pending = s.pending := rfl

/-! ## setSource -/

@[simp] theorem State.setSource_resetHeld (s : State) (x : Source) (r : SourceRec) : (s.setSource x r).resetHeld = s.resetHeld := rfl
@[simp] theorem State.setSource_lockLow (s : State) (x : Source) (r : SourceRec) : (s.setSource x r).lockLow = s.lockLow := rfl
@[simp] theorem State.setSource_mode (s : State) (x : Source) (r : SourceRec) : (s.setSource x r).mode = s.mode := rfl
@[simp] theorem State.setSource_initByLink (s : State) (x : Source) (r : SourceRec) : (s.setSource x r).initByLink = s.initByLink := rfl
@[simp] theorem State.setSource_rails (s : State) (x : Source) (r : SourceRec) : (s.setSource x r).rails = s.rails := rfl
@[simp] theorem State.setSource_linesOn (s : State) (x : Source) (r : SourceRec) : (s.setSource x r).linesOn = s.linesOn := rfl
@[simp] theorem State.setSource_powerUp (s : State) (x : Source) (r : SourceRec) : (s.setSource x r).powerUp = s.powerUp := rfl
@[simp] theorem State.setSource_sense (s : State) (x : Source) (r : SourceRec) : (s.setSource x r).sense = s.sense := rfl
@[simp] theorem State.setSource_switches (s : State) (x : Source) (r : SourceRec) : (s.setSource x r).switches = s.switches := rfl
@[simp] theorem State.setSource_ports (s : State) (x : Source) (r : SourceRec) : (s.setSource x r).ports = s.ports := rfl
@[simp] theorem State.setSource_engine (s : State) (x : Source) (r : SourceRec) : (s.setSource x r).engine = s.engine := rfl
@[simp] theorem State.setSource_lines (s : State) (x : Source) (r : SourceRec) : (s.setSource x r).lines = s.lines := rfl
@[simp] theorem State.setSource_pool (s : State) (x : Source) (r : SourceRec) : (s.setSource x r).pool = s.pool := rfl
@[simp] theorem State.setSource_channels (s : State) (x : Source) (r : SourceRec) : (s.setSource x r).channels = s.channels := rfl
@[simp] theorem State.setSource_store (s : State) (x : Source) (r : SourceRec) : (s.setSource x r).store = s.store := rfl
@[simp] theorem State.setSource_link (s : State) (x : Source) (r : SourceRec) : (s.setSource x r).link = s.link := rfl
@[simp] theorem State.setSource_selEvents (s : State) (x : Source) (r : SourceRec) : (s.setSource x r).selEvents = s.selEvents := rfl
@[simp] theorem State.setSource_reports (s : State) (x : Source) (r : SourceRec) : (s.setSource x r).reports = s.reports := rfl
@[simp] theorem State.setSource_records (s : State) (x : Source) (r : SourceRec) : (s.setSource x r).records = s.records := rfl
@[simp] theorem State.setSource_choices (s : State) (x : Source) (r : SourceRec) : (s.setSource x r).choices = s.choices := rfl
@[simp] theorem State.setSource_pending (s : State) (x : Source) (r : SourceRec) : (s.setSource x r).pending = s.pending := rfl

/-! ## setEngine -/

@[simp] theorem State.setEngine_resetHeld (s : State) (e : Engine) : (s.setEngine e).resetHeld = s.resetHeld := rfl
@[simp] theorem State.setEngine_lockLow (s : State) (e : Engine) : (s.setEngine e).lockLow = s.lockLow := rfl
@[simp] theorem State.setEngine_mode (s : State) (e : Engine) : (s.setEngine e).mode = s.mode := rfl
@[simp] theorem State.setEngine_initByLink (s : State) (e : Engine) : (s.setEngine e).initByLink = s.initByLink := rfl
@[simp] theorem State.setEngine_rails (s : State) (e : Engine) : (s.setEngine e).rails = s.rails := rfl
@[simp] theorem State.setEngine_linesOn (s : State) (e : Engine) : (s.setEngine e).linesOn = s.linesOn := rfl
@[simp] theorem State.setEngine_powerUp (s : State) (e : Engine) : (s.setEngine e).powerUp = s.powerUp := rfl
@[simp] theorem State.setEngine_sel (s : State) (e : Engine) : (s.setEngine e).sel = s.sel := rfl
@[simp] theorem State.setEngine_sense (s : State) (e : Engine) : (s.setEngine e).sense = s.sense := rfl
@[simp] theorem State.setEngine_switches (s : State) (e : Engine) : (s.setEngine e).switches = s.switches := rfl
@[simp] theorem State.setEngine_ports (s : State) (e : Engine) : (s.setEngine e).ports = s.ports := rfl
@[simp] theorem State.setEngine_lines (s : State) (e : Engine) : (s.setEngine e).lines = s.lines := rfl
@[simp] theorem State.setEngine_pool (s : State) (e : Engine) : (s.setEngine e).pool = s.pool := rfl
@[simp] theorem State.setEngine_channels (s : State) (e : Engine) : (s.setEngine e).channels = s.channels := rfl
@[simp] theorem State.setEngine_store (s : State) (e : Engine) : (s.setEngine e).store = s.store := rfl
@[simp] theorem State.setEngine_link (s : State) (e : Engine) : (s.setEngine e).link = s.link := rfl
@[simp] theorem State.setEngine_selEvents (s : State) (e : Engine) : (s.setEngine e).selEvents = s.selEvents := rfl
@[simp] theorem State.setEngine_reports (s : State) (e : Engine) : (s.setEngine e).reports = s.reports := rfl
@[simp] theorem State.setEngine_records (s : State) (e : Engine) : (s.setEngine e).records = s.records := rfl
@[simp] theorem State.setEngine_choices (s : State) (e : Engine) : (s.setEngine e).choices = s.choices := rfl
@[simp] theorem State.setEngine_pending (s : State) (e : Engine) : (s.setEngine e).pending = s.pending := rfl

/-! ## setLink -/

@[simp] theorem State.setLink_resetHeld (s : State) (l : Link) : (s.setLink l).resetHeld = s.resetHeld := rfl
@[simp] theorem State.setLink_lockLow (s : State) (l : Link) : (s.setLink l).lockLow = s.lockLow := rfl
@[simp] theorem State.setLink_mode (s : State) (l : Link) : (s.setLink l).mode = s.mode := rfl
@[simp] theorem State.setLink_initByLink (s : State) (l : Link) : (s.setLink l).initByLink = s.initByLink := rfl
@[simp] theorem State.setLink_rails (s : State) (l : Link) : (s.setLink l).rails = s.rails := rfl
@[simp] theorem State.setLink_linesOn (s : State) (l : Link) : (s.setLink l).linesOn = s.linesOn := rfl
@[simp] theorem State.setLink_powerUp (s : State) (l : Link) : (s.setLink l).powerUp = s.powerUp := rfl
@[simp] theorem State.setLink_sel (s : State) (l : Link) : (s.setLink l).sel = s.sel := rfl
@[simp] theorem State.setLink_sense (s : State) (l : Link) : (s.setLink l).sense = s.sense := rfl
@[simp] theorem State.setLink_switches (s : State) (l : Link) : (s.setLink l).switches = s.switches := rfl
@[simp] theorem State.setLink_ports (s : State) (l : Link) : (s.setLink l).ports = s.ports := rfl
@[simp] theorem State.setLink_engine (s : State) (l : Link) : (s.setLink l).engine = s.engine := rfl
@[simp] theorem State.setLink_lines (s : State) (l : Link) : (s.setLink l).lines = s.lines := rfl
@[simp] theorem State.setLink_pool (s : State) (l : Link) : (s.setLink l).pool = s.pool := rfl
@[simp] theorem State.setLink_channels (s : State) (l : Link) : (s.setLink l).channels = s.channels := rfl
@[simp] theorem State.setLink_store (s : State) (l : Link) : (s.setLink l).store = s.store := rfl
@[simp] theorem State.setLink_selEvents (s : State) (l : Link) : (s.setLink l).selEvents = s.selEvents := rfl
@[simp] theorem State.setLink_reports (s : State) (l : Link) : (s.setLink l).reports = s.reports := rfl
@[simp] theorem State.setLink_records (s : State) (l : Link) : (s.setLink l).records = s.records := rfl
@[simp] theorem State.setLink_choices (s : State) (l : Link) : (s.setLink l).choices = s.choices := rfl
@[simp] theorem State.setLink_pending (s : State) (l : Link) : (s.setLink l).pending = s.pending := rfl

/-! ## setPool -/

@[simp] theorem State.setPool_resetHeld (s : State) (x : Pool) : (s.setPool x).resetHeld = s.resetHeld := rfl
@[simp] theorem State.setPool_lockLow (s : State) (x : Pool) : (s.setPool x).lockLow = s.lockLow := rfl
@[simp] theorem State.setPool_mode (s : State) (x : Pool) : (s.setPool x).mode = s.mode := rfl
@[simp] theorem State.setPool_initByLink (s : State) (x : Pool) : (s.setPool x).initByLink = s.initByLink := rfl
@[simp] theorem State.setPool_rails (s : State) (x : Pool) : (s.setPool x).rails = s.rails := rfl
@[simp] theorem State.setPool_linesOn (s : State) (x : Pool) : (s.setPool x).linesOn = s.linesOn := rfl
@[simp] theorem State.setPool_powerUp (s : State) (x : Pool) : (s.setPool x).powerUp = s.powerUp := rfl
@[simp] theorem State.setPool_sel (s : State) (x : Pool) : (s.setPool x).sel = s.sel := rfl
@[simp] theorem State.setPool_sense (s : State) (x : Pool) : (s.setPool x).sense = s.sense := rfl
@[simp] theorem State.setPool_switches (s : State) (x : Pool) : (s.setPool x).switches = s.switches := rfl
@[simp] theorem State.setPool_ports (s : State) (x : Pool) : (s.setPool x).ports = s.ports := rfl
@[simp] theorem State.setPool_engine (s : State) (x : Pool) : (s.setPool x).engine = s.engine := rfl
@[simp] theorem State.setPool_lines (s : State) (x : Pool) : (s.setPool x).lines = s.lines := rfl
@[simp] theorem State.setPool_channels (s : State) (x : Pool) : (s.setPool x).channels = s.channels := rfl
@[simp] theorem State.setPool_store (s : State) (x : Pool) : (s.setPool x).store = s.store := rfl
@[simp] theorem State.setPool_link (s : State) (x : Pool) : (s.setPool x).link = s.link := rfl
@[simp] theorem State.setPool_selEvents (s : State) (x : Pool) : (s.setPool x).selEvents = s.selEvents := rfl
@[simp] theorem State.setPool_reports (s : State) (x : Pool) : (s.setPool x).reports = s.reports := rfl
@[simp] theorem State.setPool_records (s : State) (x : Pool) : (s.setPool x).records = s.records := rfl
@[simp] theorem State.setPool_choices (s : State) (x : Pool) : (s.setPool x).choices = s.choices := rfl
@[simp] theorem State.setPool_pending (s : State) (x : Pool) : (s.setPool x).pending = s.pending := rfl

/-! ## setReports -/

@[simp] theorem State.setReports_resetHeld (s : State) (p : Port) (l : List Report) : (s.setReports p l).resetHeld = s.resetHeld := rfl
@[simp] theorem State.setReports_lockLow (s : State) (p : Port) (l : List Report) : (s.setReports p l).lockLow = s.lockLow := rfl
@[simp] theorem State.setReports_mode (s : State) (p : Port) (l : List Report) : (s.setReports p l).mode = s.mode := rfl
@[simp] theorem State.setReports_initByLink (s : State) (p : Port) (l : List Report) : (s.setReports p l).initByLink = s.initByLink := rfl
@[simp] theorem State.setReports_rails (s : State) (p : Port) (l : List Report) : (s.setReports p l).rails = s.rails := rfl
@[simp] theorem State.setReports_linesOn (s : State) (p : Port) (l : List Report) : (s.setReports p l).linesOn = s.linesOn := rfl
@[simp] theorem State.setReports_powerUp (s : State) (p : Port) (l : List Report) : (s.setReports p l).powerUp = s.powerUp := rfl
@[simp] theorem State.setReports_sel (s : State) (p : Port) (l : List Report) : (s.setReports p l).sel = s.sel := rfl
@[simp] theorem State.setReports_sense (s : State) (p : Port) (l : List Report) : (s.setReports p l).sense = s.sense := rfl
@[simp] theorem State.setReports_switches (s : State) (p : Port) (l : List Report) : (s.setReports p l).switches = s.switches := rfl
@[simp] theorem State.setReports_ports (s : State) (p : Port) (l : List Report) : (s.setReports p l).ports = s.ports := rfl
@[simp] theorem State.setReports_engine (s : State) (p : Port) (l : List Report) : (s.setReports p l).engine = s.engine := rfl
@[simp] theorem State.setReports_lines (s : State) (p : Port) (l : List Report) : (s.setReports p l).lines = s.lines := rfl
@[simp] theorem State.setReports_pool (s : State) (p : Port) (l : List Report) : (s.setReports p l).pool = s.pool := rfl
@[simp] theorem State.setReports_channels (s : State) (p : Port) (l : List Report) : (s.setReports p l).channels = s.channels := rfl
@[simp] theorem State.setReports_store (s : State) (p : Port) (l : List Report) : (s.setReports p l).store = s.store := rfl
@[simp] theorem State.setReports_link (s : State) (p : Port) (l : List Report) : (s.setReports p l).link = s.link := rfl
@[simp] theorem State.setReports_selEvents (s : State) (p : Port) (l : List Report) : (s.setReports p l).selEvents = s.selEvents := rfl
@[simp] theorem State.setReports_records (s : State) (p : Port) (l : List Report) : (s.setReports p l).records = s.records := rfl
@[simp] theorem State.setReports_choices (s : State) (p : Port) (l : List Report) : (s.setReports p l).choices = s.choices := rfl
@[simp] theorem State.setReports_pending (s : State) (p : Port) (l : List Report) : (s.setReports p l).pending = s.pending := rfl

/-! ## setRecords -/

@[simp] theorem State.setRecords_resetHeld (s : State) (p : Port) (l : List AccRecord) : (s.setRecords p l).resetHeld = s.resetHeld := rfl
@[simp] theorem State.setRecords_lockLow (s : State) (p : Port) (l : List AccRecord) : (s.setRecords p l).lockLow = s.lockLow := rfl
@[simp] theorem State.setRecords_mode (s : State) (p : Port) (l : List AccRecord) : (s.setRecords p l).mode = s.mode := rfl
@[simp] theorem State.setRecords_initByLink (s : State) (p : Port) (l : List AccRecord) : (s.setRecords p l).initByLink = s.initByLink := rfl
@[simp] theorem State.setRecords_rails (s : State) (p : Port) (l : List AccRecord) : (s.setRecords p l).rails = s.rails := rfl
@[simp] theorem State.setRecords_linesOn (s : State) (p : Port) (l : List AccRecord) : (s.setRecords p l).linesOn = s.linesOn := rfl
@[simp] theorem State.setRecords_powerUp (s : State) (p : Port) (l : List AccRecord) : (s.setRecords p l).powerUp = s.powerUp := rfl
@[simp] theorem State.setRecords_sel (s : State) (p : Port) (l : List AccRecord) : (s.setRecords p l).sel = s.sel := rfl
@[simp] theorem State.setRecords_sense (s : State) (p : Port) (l : List AccRecord) : (s.setRecords p l).sense = s.sense := rfl
@[simp] theorem State.setRecords_switches (s : State) (p : Port) (l : List AccRecord) : (s.setRecords p l).switches = s.switches := rfl
@[simp] theorem State.setRecords_ports (s : State) (p : Port) (l : List AccRecord) : (s.setRecords p l).ports = s.ports := rfl
@[simp] theorem State.setRecords_engine (s : State) (p : Port) (l : List AccRecord) : (s.setRecords p l).engine = s.engine := rfl
@[simp] theorem State.setRecords_lines (s : State) (p : Port) (l : List AccRecord) : (s.setRecords p l).lines = s.lines := rfl
@[simp] theorem State.setRecords_pool (s : State) (p : Port) (l : List AccRecord) : (s.setRecords p l).pool = s.pool := rfl
@[simp] theorem State.setRecords_channels (s : State) (p : Port) (l : List AccRecord) : (s.setRecords p l).channels = s.channels := rfl
@[simp] theorem State.setRecords_store (s : State) (p : Port) (l : List AccRecord) : (s.setRecords p l).store = s.store := rfl
@[simp] theorem State.setRecords_link (s : State) (p : Port) (l : List AccRecord) : (s.setRecords p l).link = s.link := rfl
@[simp] theorem State.setRecords_selEvents (s : State) (p : Port) (l : List AccRecord) : (s.setRecords p l).selEvents = s.selEvents := rfl
@[simp] theorem State.setRecords_reports (s : State) (p : Port) (l : List AccRecord) : (s.setRecords p l).reports = s.reports := rfl
@[simp] theorem State.setRecords_choices (s : State) (p : Port) (l : List AccRecord) : (s.setRecords p l).choices = s.choices := rfl
@[simp] theorem State.setRecords_pending (s : State) (p : Port) (l : List AccRecord) : (s.setRecords p l).pending = s.pending := rfl

/-! ## setChangeover -/

@[simp] theorem State.setChangeover_resetHeld (s : State) (c : Option Changeover) : (s.setChangeover c).resetHeld = s.resetHeld := rfl
@[simp] theorem State.setChangeover_lockLow (s : State) (c : Option Changeover) : (s.setChangeover c).lockLow = s.lockLow := rfl
@[simp] theorem State.setChangeover_mode (s : State) (c : Option Changeover) : (s.setChangeover c).mode = s.mode := rfl
@[simp] theorem State.setChangeover_initByLink (s : State) (c : Option Changeover) : (s.setChangeover c).initByLink = s.initByLink := rfl
@[simp] theorem State.setChangeover_rails (s : State) (c : Option Changeover) : (s.setChangeover c).rails = s.rails := rfl
@[simp] theorem State.setChangeover_linesOn (s : State) (c : Option Changeover) : (s.setChangeover c).linesOn = s.linesOn := rfl
@[simp] theorem State.setChangeover_powerUp (s : State) (c : Option Changeover) : (s.setChangeover c).powerUp = s.powerUp := rfl
@[simp] theorem State.setChangeover_sense (s : State) (c : Option Changeover) : (s.setChangeover c).sense = s.sense := rfl
@[simp] theorem State.setChangeover_switches (s : State) (c : Option Changeover) : (s.setChangeover c).switches = s.switches := rfl
@[simp] theorem State.setChangeover_ports (s : State) (c : Option Changeover) : (s.setChangeover c).ports = s.ports := rfl
@[simp] theorem State.setChangeover_engine (s : State) (c : Option Changeover) : (s.setChangeover c).engine = s.engine := rfl
@[simp] theorem State.setChangeover_lines (s : State) (c : Option Changeover) : (s.setChangeover c).lines = s.lines := rfl
@[simp] theorem State.setChangeover_pool (s : State) (c : Option Changeover) : (s.setChangeover c).pool = s.pool := rfl
@[simp] theorem State.setChangeover_channels (s : State) (c : Option Changeover) : (s.setChangeover c).channels = s.channels := rfl
@[simp] theorem State.setChangeover_store (s : State) (c : Option Changeover) : (s.setChangeover c).store = s.store := rfl
@[simp] theorem State.setChangeover_link (s : State) (c : Option Changeover) : (s.setChangeover c).link = s.link := rfl
@[simp] theorem State.setChangeover_selEvents (s : State) (c : Option Changeover) : (s.setChangeover c).selEvents = s.selEvents := rfl
@[simp] theorem State.setChangeover_reports (s : State) (c : Option Changeover) : (s.setChangeover c).reports = s.reports := rfl
@[simp] theorem State.setChangeover_records (s : State) (c : Option Changeover) : (s.setChangeover c).records = s.records := rfl
@[simp] theorem State.setChangeover_choices (s : State) (c : Option Changeover) : (s.setChangeover c).choices = s.choices := rfl
@[simp] theorem State.setChangeover_pending (s : State) (c : Option Changeover) : (s.setChangeover c).pending = s.pending := rfl

/-! ## setActive -/

@[simp] theorem State.setActive_resetHeld (s : State) (a : Option Source) : (s.setActive a).resetHeld = s.resetHeld := rfl
@[simp] theorem State.setActive_lockLow (s : State) (a : Option Source) : (s.setActive a).lockLow = s.lockLow := rfl
@[simp] theorem State.setActive_mode (s : State) (a : Option Source) : (s.setActive a).mode = s.mode := rfl
@[simp] theorem State.setActive_initByLink (s : State) (a : Option Source) : (s.setActive a).initByLink = s.initByLink := rfl
@[simp] theorem State.setActive_rails (s : State) (a : Option Source) : (s.setActive a).rails = s.rails := rfl
@[simp] theorem State.setActive_linesOn (s : State) (a : Option Source) : (s.setActive a).linesOn = s.linesOn := rfl
@[simp] theorem State.setActive_powerUp (s : State) (a : Option Source) : (s.setActive a).powerUp = s.powerUp := rfl
@[simp] theorem State.setActive_sense (s : State) (a : Option Source) : (s.setActive a).sense = s.sense := rfl
@[simp] theorem State.setActive_switches (s : State) (a : Option Source) : (s.setActive a).switches = s.switches := rfl
@[simp] theorem State.setActive_ports (s : State) (a : Option Source) : (s.setActive a).ports = s.ports := rfl
@[simp] theorem State.setActive_engine (s : State) (a : Option Source) : (s.setActive a).engine = s.engine := rfl
@[simp] theorem State.setActive_lines (s : State) (a : Option Source) : (s.setActive a).lines = s.lines := rfl
@[simp] theorem State.setActive_pool (s : State) (a : Option Source) : (s.setActive a).pool = s.pool := rfl
@[simp] theorem State.setActive_channels (s : State) (a : Option Source) : (s.setActive a).channels = s.channels := rfl
@[simp] theorem State.setActive_store (s : State) (a : Option Source) : (s.setActive a).store = s.store := rfl
@[simp] theorem State.setActive_link (s : State) (a : Option Source) : (s.setActive a).link = s.link := rfl
@[simp] theorem State.setActive_selEvents (s : State) (a : Option Source) : (s.setActive a).selEvents = s.selEvents := rfl
@[simp] theorem State.setActive_reports (s : State) (a : Option Source) : (s.setActive a).reports = s.reports := rfl
@[simp] theorem State.setActive_records (s : State) (a : Option Source) : (s.setActive a).records = s.records := rfl
@[simp] theorem State.setActive_choices (s : State) (a : Option Source) : (s.setActive a).choices = s.choices := rfl
@[simp] theorem State.setActive_pending (s : State) (a : Option Source) : (s.setActive a).pending = s.pending := rfl

/-! ## Reads after writes -/

@[simp] theorem State.setPort_port_self (s : State) (i : Port) (x : PortRec) : (s.setPort i x).port i = x :=
  tget_tput_self _ _ _

theorem State.setPort_port_ne (s : State) {i j : Port} (x : PortRec) (h : j ≠ i) : (s.setPort i x).port j = s.port j :=
  tget_tput_ne _ _ h

theorem State.setPort_port (s : State) (i j : Port) (x : PortRec) :
    (s.setPort i x).port j = if j = i then x else s.port j := tget_tput _ _ _ _

@[simp] theorem State.setSwitch_switch_self (s : State) (i : Port) (x : SwitchRec) : (s.setSwitch i x).switch i = x :=
  tget_tput_self _ _ _

theorem State.setSwitch_switch_ne (s : State) {i j : Port} (x : SwitchRec) (h : j ≠ i) : (s.setSwitch i x).switch j = s.switch j :=
  tget_tput_ne _ _ h

theorem State.setSwitch_switch (s : State) (i j : Port) (x : SwitchRec) :
    (s.setSwitch i x).switch j = if j = i then x else s.switch j := tget_tput _ _ _ _

@[simp] theorem State.setLine_line_self (s : State) (i : Port) (x : LineRec) : (s.setLine i x).line i = x :=
  tget_tput_self _ _ _

theorem State.setLine_line_ne (s : State) {i j : Port} (x : LineRec) (h : j ≠ i) : (s.setLine i x).line j = s.line j :=
  tget_tput_ne _ _ h

theorem State.setLine_line (s : State) (i j : Port) (x : LineRec) :
    (s.setLine i x).line j = if j = i then x else s.line j := tget_tput _ _ _ _

@[simp] theorem State.setChannel_channel_self (s : State) (i : SendNo) (x : Option Send) : (s.setChannel i x).channel i = x :=
  tget_tput_self _ _ _

theorem State.setChannel_channel_ne (s : State) {i j : SendNo} (x : Option Send) (h : j ≠ i) : (s.setChannel i x).channel j = s.channel j :=
  tget_tput_ne _ _ h

theorem State.setChannel_channel (s : State) (i j : SendNo) (x : Option Send) :
    (s.setChannel i x).channel j = if j = i then x else s.channel j := tget_tput _ _ _ _

@[simp] theorem State.setSample_sample_self (s : State) (i : SenseChannel) (x : ChannelRec) : (s.setSample i x).sample i = x :=
  tget_tput_self _ _ _

theorem State.setSample_sample_ne (s : State) {i j : SenseChannel} (x : ChannelRec) (h : j ≠ i) : (s.setSample i x).sample j = s.sample j :=
  tget_tput_ne _ _ h

theorem State.setSample_sample (s : State) (i j : SenseChannel) (x : ChannelRec) :
    (s.setSample i x).sample j = if j = i then x else s.sample j := tget_tput _ _ _ _

@[simp] theorem State.setSwitch_port (s : State) (p : Port) (r : SwitchRec) (j : Port) : (s.setSwitch p r).port j = s.port j := rfl
@[simp] theorem State.setLine_port (s : State) (p : Port) (r : LineRec) (j : Port) : (s.setLine p r).port j = s.port j := rfl
@[simp] theorem State.setChannel_port (s : State) (c : SendNo) (x : Option Send) (j : Port) : (s.setChannel c x).port j = s.port j := rfl
@[simp] theorem State.setSample_port (s : State) (ch : SenseChannel) (r : ChannelRec) (j : Port) : (s.setSample ch r).port j = s.port j := rfl
@[simp] theorem State.setSource_port (s : State) (x : Source) (r : SourceRec) (j : Port) : (s.setSource x r).port j = s.port j := rfl
@[simp] theorem State.setEngine_port (s : State) (e : Engine) (j : Port) : (s.setEngine e).port j = s.port j := rfl
@[simp] theorem State.setLink_port (s : State) (l : Link) (j : Port) : (s.setLink l).port j = s.port j := rfl
@[simp] theorem State.setPool_port (s : State) (x : Pool) (j : Port) : (s.setPool x).port j = s.port j := rfl
@[simp] theorem State.setReports_port (s : State) (p : Port) (l : List Report) (j : Port) : (s.setReports p l).port j = s.port j := rfl
@[simp] theorem State.setRecords_port (s : State) (p : Port) (l : List AccRecord) (j : Port) : (s.setRecords p l).port j = s.port j := rfl
@[simp] theorem State.setChangeover_port (s : State) (c : Option Changeover) (j : Port) : (s.setChangeover c).port j = s.port j := rfl
@[simp] theorem State.setActive_port (s : State) (a : Option Source) (j : Port) : (s.setActive a).port j = s.port j := rfl

@[simp] theorem State.setPort_switch (s : State) (p : Port) (r : PortRec) (j : Port) : (s.setPort p r).switch j = s.switch j := rfl
@[simp] theorem State.setLine_switch (s : State) (p : Port) (r : LineRec) (j : Port) : (s.setLine p r).switch j = s.switch j := rfl
@[simp] theorem State.setChannel_switch (s : State) (c : SendNo) (x : Option Send) (j : Port) : (s.setChannel c x).switch j = s.switch j := rfl
@[simp] theorem State.setSample_switch (s : State) (ch : SenseChannel) (r : ChannelRec) (j : Port) : (s.setSample ch r).switch j = s.switch j := rfl
@[simp] theorem State.setSource_switch (s : State) (x : Source) (r : SourceRec) (j : Port) : (s.setSource x r).switch j = s.switch j := rfl
@[simp] theorem State.setEngine_switch (s : State) (e : Engine) (j : Port) : (s.setEngine e).switch j = s.switch j := rfl
@[simp] theorem State.setLink_switch (s : State) (l : Link) (j : Port) : (s.setLink l).switch j = s.switch j := rfl
@[simp] theorem State.setPool_switch (s : State) (x : Pool) (j : Port) : (s.setPool x).switch j = s.switch j := rfl
@[simp] theorem State.setReports_switch (s : State) (p : Port) (l : List Report) (j : Port) : (s.setReports p l).switch j = s.switch j := rfl
@[simp] theorem State.setRecords_switch (s : State) (p : Port) (l : List AccRecord) (j : Port) : (s.setRecords p l).switch j = s.switch j := rfl
@[simp] theorem State.setChangeover_switch (s : State) (c : Option Changeover) (j : Port) : (s.setChangeover c).switch j = s.switch j := rfl
@[simp] theorem State.setActive_switch (s : State) (a : Option Source) (j : Port) : (s.setActive a).switch j = s.switch j := rfl

@[simp] theorem State.setPort_line (s : State) (p : Port) (r : PortRec) (j : Port) : (s.setPort p r).line j = s.line j := rfl
@[simp] theorem State.setSwitch_line (s : State) (p : Port) (r : SwitchRec) (j : Port) : (s.setSwitch p r).line j = s.line j := rfl
@[simp] theorem State.setChannel_line (s : State) (c : SendNo) (x : Option Send) (j : Port) : (s.setChannel c x).line j = s.line j := rfl
@[simp] theorem State.setSample_line (s : State) (ch : SenseChannel) (r : ChannelRec) (j : Port) : (s.setSample ch r).line j = s.line j := rfl
@[simp] theorem State.setSource_line (s : State) (x : Source) (r : SourceRec) (j : Port) : (s.setSource x r).line j = s.line j := rfl
@[simp] theorem State.setEngine_line (s : State) (e : Engine) (j : Port) : (s.setEngine e).line j = s.line j := rfl
@[simp] theorem State.setLink_line (s : State) (l : Link) (j : Port) : (s.setLink l).line j = s.line j := rfl
@[simp] theorem State.setPool_line (s : State) (x : Pool) (j : Port) : (s.setPool x).line j = s.line j := rfl
@[simp] theorem State.setReports_line (s : State) (p : Port) (l : List Report) (j : Port) : (s.setReports p l).line j = s.line j := rfl
@[simp] theorem State.setRecords_line (s : State) (p : Port) (l : List AccRecord) (j : Port) : (s.setRecords p l).line j = s.line j := rfl
@[simp] theorem State.setChangeover_line (s : State) (c : Option Changeover) (j : Port) : (s.setChangeover c).line j = s.line j := rfl
@[simp] theorem State.setActive_line (s : State) (a : Option Source) (j : Port) : (s.setActive a).line j = s.line j := rfl

@[simp] theorem State.setPort_channel (s : State) (p : Port) (r : PortRec) (j : SendNo) : (s.setPort p r).channel j = s.channel j := rfl
@[simp] theorem State.setSwitch_channel (s : State) (p : Port) (r : SwitchRec) (j : SendNo) : (s.setSwitch p r).channel j = s.channel j := rfl
@[simp] theorem State.setLine_channel (s : State) (p : Port) (r : LineRec) (j : SendNo) : (s.setLine p r).channel j = s.channel j := rfl
@[simp] theorem State.setSample_channel (s : State) (ch : SenseChannel) (r : ChannelRec) (j : SendNo) : (s.setSample ch r).channel j = s.channel j := rfl
@[simp] theorem State.setSource_channel (s : State) (x : Source) (r : SourceRec) (j : SendNo) : (s.setSource x r).channel j = s.channel j := rfl
@[simp] theorem State.setEngine_channel (s : State) (e : Engine) (j : SendNo) : (s.setEngine e).channel j = s.channel j := rfl
@[simp] theorem State.setLink_channel (s : State) (l : Link) (j : SendNo) : (s.setLink l).channel j = s.channel j := rfl
@[simp] theorem State.setPool_channel (s : State) (x : Pool) (j : SendNo) : (s.setPool x).channel j = s.channel j := rfl
@[simp] theorem State.setReports_channel (s : State) (p : Port) (l : List Report) (j : SendNo) : (s.setReports p l).channel j = s.channel j := rfl
@[simp] theorem State.setRecords_channel (s : State) (p : Port) (l : List AccRecord) (j : SendNo) : (s.setRecords p l).channel j = s.channel j := rfl
@[simp] theorem State.setChangeover_channel (s : State) (c : Option Changeover) (j : SendNo) : (s.setChangeover c).channel j = s.channel j := rfl
@[simp] theorem State.setActive_channel (s : State) (a : Option Source) (j : SendNo) : (s.setActive a).channel j = s.channel j := rfl

@[simp] theorem State.setPort_sample (s : State) (p : Port) (r : PortRec) (j : SenseChannel) : (s.setPort p r).sample j = s.sample j := rfl
@[simp] theorem State.setSwitch_sample (s : State) (p : Port) (r : SwitchRec) (j : SenseChannel) : (s.setSwitch p r).sample j = s.sample j := rfl
@[simp] theorem State.setLine_sample (s : State) (p : Port) (r : LineRec) (j : SenseChannel) : (s.setLine p r).sample j = s.sample j := rfl
@[simp] theorem State.setChannel_sample (s : State) (c : SendNo) (x : Option Send) (j : SenseChannel) : (s.setChannel c x).sample j = s.sample j := rfl
@[simp] theorem State.setSource_sample (s : State) (x : Source) (r : SourceRec) (j : SenseChannel) : (s.setSource x r).sample j = s.sample j := rfl
@[simp] theorem State.setEngine_sample (s : State) (e : Engine) (j : SenseChannel) : (s.setEngine e).sample j = s.sample j := rfl
@[simp] theorem State.setLink_sample (s : State) (l : Link) (j : SenseChannel) : (s.setLink l).sample j = s.sample j := rfl
@[simp] theorem State.setPool_sample (s : State) (x : Pool) (j : SenseChannel) : (s.setPool x).sample j = s.sample j := rfl
@[simp] theorem State.setReports_sample (s : State) (p : Port) (l : List Report) (j : SenseChannel) : (s.setReports p l).sample j = s.sample j := rfl
@[simp] theorem State.setRecords_sample (s : State) (p : Port) (l : List AccRecord) (j : SenseChannel) : (s.setRecords p l).sample j = s.sample j := rfl
@[simp] theorem State.setChangeover_sample (s : State) (c : Option Changeover) (j : SenseChannel) : (s.setChangeover c).sample j = s.sample j := rfl
@[simp] theorem State.setActive_sample (s : State) (a : Option Source) (j : SenseChannel) : (s.setActive a).sample j = s.sample j := rfl

@[simp] theorem State.setPort_source (s : State) (p : Port) (r : PortRec) (j : Source) : (s.setPort p r).source j = s.source j := rfl
@[simp] theorem State.setSwitch_source (s : State) (p : Port) (r : SwitchRec) (j : Source) : (s.setSwitch p r).source j = s.source j := rfl
@[simp] theorem State.setLine_source (s : State) (p : Port) (r : LineRec) (j : Source) : (s.setLine p r).source j = s.source j := rfl
@[simp] theorem State.setChannel_source (s : State) (c : SendNo) (x : Option Send) (j : Source) : (s.setChannel c x).source j = s.source j := rfl
@[simp] theorem State.setSample_source (s : State) (ch : SenseChannel) (r : ChannelRec) (j : Source) : (s.setSample ch r).source j = s.source j := rfl
@[simp] theorem State.setEngine_source (s : State) (e : Engine) (j : Source) : (s.setEngine e).source j = s.source j := rfl
@[simp] theorem State.setLink_source (s : State) (l : Link) (j : Source) : (s.setLink l).source j = s.source j := rfl
@[simp] theorem State.setPool_source (s : State) (x : Pool) (j : Source) : (s.setPool x).source j = s.source j := rfl
@[simp] theorem State.setReports_source (s : State) (p : Port) (l : List Report) (j : Source) : (s.setReports p l).source j = s.source j := rfl
@[simp] theorem State.setRecords_source (s : State) (p : Port) (l : List AccRecord) (j : Source) : (s.setRecords p l).source j = s.source j := rfl
@[simp] theorem State.setChangeover_source (s : State) (c : Option Changeover) (j : Source) : (s.setChangeover c).source j = s.source j := by cases j <;> rfl
@[simp] theorem State.setActive_source (s : State) (a : Option Source) (j : Source) : (s.setActive a).source j = s.source j := by cases j <;> rfl

@[simp] theorem State.setSource_source_self (s : State) (x : Source) (r : SourceRec) :
    (s.setSource x r).source x = r := by cases x <;> rfl

theorem State.setSource_source_ne (s : State) {x y : Source} (r : SourceRec) (h : y ≠ x) :
    (s.setSource x r).source y = s.source y := by cases x <;> cases y <;> first | rfl | exact absurd rfl h

@[simp] theorem State.setReports_reportsOf_self (s : State) (p : Port) (l : List Report) :
    (s.setReports p l).reportsOf p = l := tget_tput_self _ _ _

@[simp] theorem State.setRecords_recordsOf_self (s : State) (p : Port) (l : List AccRecord) :
    (s.setRecords p l).recordsOf p = l := tget_tput_self _ _ _

/-! ## Selector updates -/

@[simp] theorem State.setChangeover_changeover (s : State) (c : Option Changeover) :
    (s.setChangeover c).sel.changeover = c := rfl
@[simp] theorem State.setChangeover_active (s : State) (c : Option Changeover) :
    (s.setChangeover c).sel.active = s.sel.active := rfl
@[simp] theorem State.setChangeover_settings (s : State) (c : Option Changeover) :
    (s.setChangeover c).sel.settings = s.sel.settings := rfl
@[simp] theorem State.setChangeover_loaded (s : State) (c : Option Changeover) :
    (s.setChangeover c).sel.loaded = s.sel.loaded := rfl
@[simp] theorem State.setActive_active (s : State) (a : Option Source) : (s.setActive a).sel.active = a := rfl
@[simp] theorem State.setActive_changeover (s : State) (a : Option Source) :
    (s.setActive a).sel.changeover = s.sel.changeover := rfl
@[simp] theorem State.setActive_settings (s : State) (a : Option Source) :
    (s.setActive a).sel.settings = s.sel.settings := rfl
@[simp] theorem State.setActive_loaded (s : State) (a : Option Source) :
    (s.setActive a).sel.loaded = s.sel.loaded := rfl
@[simp] theorem State.setSource_active (s : State) (x : Source) (r : SourceRec) :
    (s.setSource x r).sel.active = s.sel.active := by cases x <;> rfl
@[simp] theorem State.setSource_changeover (s : State) (x : Source) (r : SourceRec) :
    (s.setSource x r).sel.changeover = s.sel.changeover := by cases x <;> rfl
@[simp] theorem State.setSource_settings (s : State) (x : Source) (r : SourceRec) :
    (s.setSource x r).sel.settings = s.sel.settings := by cases x <;> rfl
@[simp] theorem State.setSource_loaded (s : State) (x : Source) (r : SourceRec) :
    (s.setSource x r).sel.loaded = s.sel.loaded := by cases x <;> rfl

/-! ## Changes of one record -/

@[simp] theorem State.mapEngine_engine (s : State) (f : Engine → Engine) : (s.mapEngine f).engine = f s.engine := rfl
@[simp] theorem State.mapEngine_ports (s : State) (f : Engine → Engine) : (s.mapEngine f).ports = s.ports := rfl
@[simp] theorem State.mapEngine_port (s : State) (f : Engine → Engine) (p : Port) : (s.mapEngine f).port p = s.port p := rfl
@[simp] theorem State.mapEngine_alloc (s : State) (f : Engine → Engine) (p : Port) :
    (s.mapEngine f).alloc p = s.alloc p := rfl
@[simp] theorem State.mapEngine_cfg (s : State) (f : Engine → Engine) (p : Port) : (s.mapEngine f).cfg p = s.cfg p := rfl
@[simp] theorem State.mapPort_engine (s : State) (p : Port) (f : PortRec → PortRec) : (s.mapPort p f).engine = s.engine := rfl
@[simp] theorem State.mapPort_port_self (s : State) (p : Port) (f : PortRec → PortRec) :
    (s.mapPort p f).port p = f (s.port p) := tget_tput_self _ _ _
theorem State.mapPort_port_ne (s : State) {p q : Port} (f : PortRec → PortRec) (h : q ≠ p) :
    (s.mapPort p f).port q = s.port q := tget_tput_ne _ _ h
theorem State.mapPort_port (s : State) (p q : Port) (f : PortRec → PortRec) :
    (s.mapPort p f).port q = if q = p then f (s.port p) else s.port q := tget_tput _ _ _ _

end Sys2Proof.Machine
end

