-- ==== Sys2Proof/Laws/Frames.lean ====
section
/-! SUPPORT. What each shared operation can change. Four frames, each a list of the fields that stay: a notice, a switch
operation, an operation of the engine, the end of a handling; one for the selector, one for the lines. Every frame holds of
a state and itself and composes, so that the frame of an operation follows from the frames of its parts. -/

namespace Sys2Proof.Machine

/-! ## The frames -/

/-- What a handling of the engine keeps, its end included (R64, R74, R98, R109, R116). -/
structure HandlingFrame (s t : State) : Prop where
  resetHeld : t.resetHeld = s.resetHeld
  lockLow : t.lockLow = s.lockLow
  mode : t.mode = s.mode
  initByLink : t.initByLink = s.initByLink
  powerUp : t.powerUp = s.powerUp
  sel : t.sel = s.sel
  sense : t.sense = s.sense
  pool : t.pool = s.pool
  store : t.store = s.store
  selEvents : t.selEvents = s.selEvents
  records : t.records = s.records
  pending : t.pending = s.pending
  link :
    t.link =
      { s.link with replies := t.link.replies, reserved := t.link.reserved, notices := t.link.notices }

/-- What an operation of the engine keeps before the end of a handling. -/
structure EngineFrame (s t : State) : Prop extends HandlingFrame s t where
  rails : t.rails = s.rails
  linesOn : t.linesOn = s.linesOn
  lines : t.lines = s.lines
  channels : t.channels = s.channels
  choices : t.choices = s.choices
  replies : t.link.replies = s.link.replies
  reserved : t.link.reserved = s.link.reserved

/-- What an operation of a switch keeps. -/
structure SwitchFrame (s t : State) : Prop extends EngineFrame s t where
  ports : t.ports = s.ports
  engine : t.engine = s.engine

/-- What the posting of a notice keeps. -/
structure NoticeFrame (s t : State) : Prop extends SwitchFrame s t where
  switches : t.switches = s.switches
  reports : t.reports = s.reports

/-- What an operation of the lines and the send channels keeps. -/
structure LineFrame (s t : State) : Prop extends HandlingFrame s t where
  rails : t.rails = s.rails
  linesOn : t.linesOn = s.linesOn
  switches : t.switches = s.switches
  ports : t.ports = s.ports
  engine : t.engine = s.engine
  reports : t.reports = s.reports
  notices : t.link.notices = s.link.notices

/-- What an evaluation of the selector keeps (R8, R9, R16). -/
structure SelectorFrame (s t : State) : Prop where
  resetHeld : t.resetHeld = s.resetHeld
  lockLow : t.lockLow = s.lockLow
  mode : t.mode = s.mode
  initByLink : t.initByLink = s.initByLink
  rails : t.rails = s.rails
  linesOn : t.linesOn = s.linesOn
  powerUp : t.powerUp = s.powerUp
  sense : t.sense = s.sense
  switches : t.switches = s.switches
  ports : t.ports = s.ports
  engine : t.engine = s.engine
  lines : t.lines = s.lines
  pool : t.pool = s.pool
  channels : t.channels = s.channels
  store : t.store = s.store
  reports : t.reports = s.reports
  records : t.records = s.records
  choices : t.choices = s.choices
  pending : t.pending = s.pending
  link : t.link = { s.link with notices := t.link.notices }
  settings : t.sel.settings = s.sel.settings
  loaded : t.sel.loaded = s.sel.loaded

/-- What a shed order, a cancellation and an admission keep of each port record (R90, R91, R76, R100). A port whose
request is 0 mW may lose its origin: it goes to OFF where another would enter SHED (R102). -/
structure PortsKeep (s t : State) : Prop where
  config : ∀ p, t.cfg p = s.cfg p
  request : ∀ p, (t.port p).request = (s.port p).request
  origin : ∀ p, (t.port p).origin = (s.port p).origin ∨ ((t.port p).request = 0 ∧ (t.port p).origin = none)
  clamped : ∀ p, (t.port p).clamped = (s.port p).clamped
  identity : ∀ p, (t.port p).identity = (s.port p).identity

/-! ### They hold of a state and itself, and compose -/

theorem HandlingFrame.refl (s : State) : HandlingFrame s s :=
  ⟨rfl, rfl, rfl, rfl, rfl, rfl, rfl, rfl, rfl, rfl, rfl, rfl, rfl⟩

theorem HandlingFrame.trans {s t u : State} (h : HandlingFrame s t) (k : HandlingFrame t u) : HandlingFrame s u where
  resetHeld := k.resetHeld.trans h.resetHeld
  lockLow := k.lockLow.trans h.lockLow
  mode := k.mode.trans h.mode
  initByLink := k.initByLink.trans h.initByLink
  powerUp := k.powerUp.trans h.powerUp
  sel := k.sel.trans h.sel
  sense := k.sense.trans h.sense
  pool := k.pool.trans h.pool
  store := k.store.trans h.store
  selEvents := k.selEvents.trans h.selEvents
  records := k.records.trans h.records
  pending := k.pending.trans h.pending
  link := by rw [k.link, h.link]

theorem EngineFrame.refl (s : State) : EngineFrame s s := ⟨.refl s, rfl, rfl, rfl, rfl, rfl, rfl, rfl⟩

theorem EngineFrame.trans {s t u : State} (h : EngineFrame s t) (k : EngineFrame t u) : EngineFrame s u :=
  ⟨h.toHandlingFrame.trans k.toHandlingFrame, k.rails.trans h.rails, k.linesOn.trans h.linesOn, k.lines.trans h.lines,
    k.channels.trans h.channels, k.choices.trans h.choices, k.replies.trans h.replies, k.reserved.trans h.reserved⟩

theorem SwitchFrame.refl (s : State) : SwitchFrame s s := ⟨.refl s, rfl, rfl⟩

theorem SwitchFrame.trans {s t u : State} (h : SwitchFrame s t) (k : SwitchFrame t u) : SwitchFrame s u :=
  ⟨h.toEngineFrame.trans k.toEngineFrame, k.ports.trans h.ports, k.engine.trans h.engine⟩

theorem NoticeFrame.refl (s : State) : NoticeFrame s s := ⟨.refl s, rfl, rfl⟩

theorem NoticeFrame.trans {s t u : State} (h : NoticeFrame s t) (k : NoticeFrame t u) : NoticeFrame s u :=
  ⟨h.toSwitchFrame.trans k.toSwitchFrame, k.switches.trans h.switches, k.reports.trans h.reports⟩

theorem LineFrame.refl (s : State) : LineFrame s s := ⟨.refl s, rfl, rfl, rfl, rfl, rfl, rfl, rfl⟩

theorem LineFrame.trans {s t u : State} (h : LineFrame s t) (k : LineFrame t u) : LineFrame s u :=
  ⟨h.toHandlingFrame.trans k.toHandlingFrame, k.rails.trans h.rails, k.linesOn.trans h.linesOn,
    k.switches.trans h.switches, k.ports.trans h.ports, k.engine.trans h.engine, k.reports.trans h.reports,
    k.notices.trans h.notices⟩

theorem SelectorFrame.refl (s : State) : SelectorFrame s s :=
  ⟨rfl, rfl, rfl, rfl, rfl, rfl, rfl, rfl, rfl, rfl, rfl, rfl, rfl, rfl, rfl, rfl, rfl, rfl, rfl, rfl, rfl, rfl⟩

theorem SelectorFrame.trans {s t u : State} (h : SelectorFrame s t) (k : SelectorFrame t u) : SelectorFrame s u where
  resetHeld := k.resetHeld.trans h.resetHeld
  lockLow := k.lockLow.trans h.lockLow
  mode := k.mode.trans h.mode
  initByLink := k.initByLink.trans h.initByLink
  rails := k.rails.trans h.rails
  linesOn := k.linesOn.trans h.linesOn
  powerUp := k.powerUp.trans h.powerUp
  sense := k.sense.trans h.sense
  switches := k.switches.trans h.switches
  ports := k.ports.trans h.ports
  engine := k.engine.trans h.engine
  lines := k.lines.trans h.lines
  pool := k.pool.trans h.pool
  channels := k.channels.trans h.channels
  store := k.store.trans h.store
  reports := k.reports.trans h.reports
  records := k.records.trans h.records
  choices := k.choices.trans h.choices
  pending := k.pending.trans h.pending
  link := by rw [k.link, h.link]
  settings := k.settings.trans h.settings
  loaded := k.loaded.trans h.loaded

theorem PortsKeep.refl (s : State) : PortsKeep s s :=
  ⟨fun _ => rfl, fun _ => rfl, fun _ => .inl rfl, fun _ => rfl, fun _ => rfl⟩

theorem PortsKeep.trans {s t u : State} (h : PortsKeep s t) (k : PortsKeep t u) : PortsKeep s u where
  config p := (k.config p).trans (h.config p)
  request p := (k.request p).trans (h.request p)
  origin p := by
    rcases k.origin p with e | e
    · rcases h.origin p with d | d
      · exact .inl (e.trans d)
      · exact .inr ⟨(k.request p).trans d.1, e.trans d.2⟩
    · exact .inr e
  clamped p := (k.clamped p).trans (h.clamped p)
  identity p := (k.identity p).trans (h.identity p)

/-- Equal tables keep everything of the port records. -/
theorem PortsKeep.of_ports {s t : State} (h : t.ports = s.ports) : PortsKeep s t := by
  refine ⟨?_, ?_, fun p => .inl ?_, ?_, ?_⟩ <;> (try intro p) <;> simp only [State.cfg, State.port, h]

/-- A relation that holds of a state and itself and composes holds across a loop whose body keeps it. -/
theorem forEach_rel {α : Type} {R : State → State → Prop} {f : α → State → State} (hr : ∀ s, R s s)
    (ht : ∀ {a b c}, R a b → R b c → R a c) (hf : ∀ x s, R s (f x s)) (l : List α) (s : State) :
    R s (forEach l f s) := by
  induction l generalizing s with
  | nil => exact hr s
  | cons x l ih => exact ht (hf x s) (ih (f x s))

/-- An invariant that the body of a loop keeps holds after the loop. -/
theorem forEach_keeps {α : Type} {I : State → Prop} {f : α → State → State} (hf : ∀ x s, I s → I (f x s)) (l : List α)
    {s : State} (h : I s) : I (forEach l f s) := by
  induction l generalizing s with
  | nil => exact h
  | cons x l ih => exact ih (hf x s h)

@[simp] theorem forEach_nil {α : Type} (f : α → State → State) (s : State) : forEach [] f s = s := rfl

@[simp] theorem forEach_cons {α : Type} (f : α → State → State) (x : α) (l : List α) (s : State) :
    forEach (x :: l) f s = forEach l f (f x s) := rfl

/-! ## Notices, replies and messages -/

/-- Posting changes the notice queue of the link alone. -/
theorem post_link (l : Link) (n : Notice) : l.post n = { l with notices := (l.post n).notices } := by
  unfold Link.post; split <;> (try split) <;> rfl

theorem postNotice_frame (n : Notice) (s : State) : NoticeFrame s (postNotice n s) := by
  refine ⟨⟨⟨⟨rfl, rfl, rfl, rfl, rfl, rfl, rfl, rfl, rfl, rfl, rfl, rfl, ?_⟩, rfl, rfl, rfl, rfl, rfl, ?_, ?_⟩, rfl, rfl⟩,
    rfl, rfl⟩ <;> simp only [postNotice, State.setLink] <;> rw [post_link]

theorem sendReport_frame (p : Port) (r : Report) (s : State) : SwitchFrame s (sendReport p r s) :=
  ⟨⟨⟨rfl, rfl, rfl, rfl, rfl, rfl, rfl, rfl, rfl, rfl, rfl, rfl, rfl⟩, rfl, rfl, rfl, rfl, rfl, rfl, rfl⟩, rfl, rfl⟩

theorem setSwitch_frame (p : Port) (w : SwitchRec) (s : State) : SwitchFrame s (s.setSwitch p w) :=
  ⟨⟨⟨rfl, rfl, rfl, rfl, rfl, rfl, rfl, rfl, rfl, rfl, rfl, rfl, rfl⟩, rfl, rfl, rfl, rfl, rfl, rfl, rfl⟩, rfl, rfl⟩

/-- R175: a deferred reply takes its reserved place. -/
theorem deferredReply_eq (c : Command) (tag : Byte) (r : Result) (fields : List Byte) (s : State) :
    deferredReply c tag r fields s =
      { s with
        link :=
          { s.link with
            reserved := s.link.reserved - 1
            replies := s.link.replies ++ [⟨replyFrame c.type tag r fields, none, false⟩] } } := rfl

/-! ## Switches -/

theorem faultUpdate_frame (p : Port) (w : SwitchRec) (s : State) : SwitchFrame s (faultUpdate p w s) :=
  (setSwitch_frame p w s).trans (postNotice_frame _ _).toSwitchFrame

theorem faultReport_frame (p : Port) (w : SwitchRec) (r : Report) (s : State) : SwitchFrame s (faultReport p w r s) :=
  (faultUpdate_frame p w s).trans (sendReport_frame p r _)

/-- R50 to R52: a fault report is the record, its notice and the report. -/
theorem faultReport_eq (p : Port) (w : SwitchRec) (r : Report) (s : State) :
    faultReport p w r s = switchReports p w r s := rfl

theorem switchOn_frame (p : Port) (s : State) : SwitchFrame s (switchOn p s) := by
  unfold switchOn; split <;> first | exact setSwitch_frame _ _ _ | exact .refl s

theorem pauseSwitch_frame (p : Port) (s : State) : SwitchFrame s (pauseSwitch p s) := by
  unfold pauseSwitch; split <;> first | exact setSwitch_frame _ _ _ | exact .refl s

theorem takePowerGood_frame (p : Port) (s : State) : SwitchFrame s (takePowerGood p s) :=
  (setSwitch_frame p _ s).trans (sendReport_frame p _ _)

theorem resumeSwitch_frame (p : Port) (s : State) : SwitchFrame s (resumeSwitch p s) := by
  unfold resumeSwitch
  split
  · split
    · exact takePowerGood_frame p s
    · exact setSwitch_frame _ _ _
  all_goals exact .refl s

theorem switchOff_frame (p : Port) (s : State) : SwitchFrame s (switchOff p s) := by
  unfold switchOff; split <;> first | exact setSwitch_frame _ _ _ | exact .refl s

/-- R38: a switch off order opens its switch. -/
theorem switchOff_opens (p : Port) (s : State) : ((switchOff p s).switch p).state = .opened := by
  unfold switchOff; split <;> simp_all [SwitchRec.gateOff, SwitchRec.disarm]

/-- R38: a switch off order touches no other switch. -/
theorem switchOff_other {p q : Port} (s : State) (h : q ≠ p) : (switchOff p s).switch q = s.switch q := by
  unfold switchOff; split <;> first | exact State.setSwitch_switch_ne _ _ h | rfl

theorem switchOn_other {p q : Port} (s : State) (h : q ≠ p) : (switchOn p s).switch q = s.switch q := by
  unfold switchOn; split <;> first | exact State.setSwitch_switch_ne _ _ h | rfl

theorem switchOff_reports (p : Port) (s : State) : (switchOff p s).reports = s.reports := by
  unfold switchOff; split <;> rfl

theorem switchOn_reports (p : Port) (s : State) : (switchOn p s).reports = s.reports := by
  unfold switchOn; split <;> rfl

theorem retryTrip_frame (p : Port) (k : FaultKind) (len : CoolLength) (counted : Bool) (s : State) :
    SwitchFrame s (retryTrip p k len counted s) := by
  unfold retryTrip
  dsimp only
  repeat' split
  all_goals exact faultReport_frame _ _ _ _

theorem filteredTripClosed_frame (p : Port) (s : State) : SwitchFrame s (filteredTripClosed p s) := by
  unfold filteredTripClosed
  split
  · exact faultReport_frame _ _ _ _
  · exact faultReport_frame _ _ _ _
  · exact retryTrip_frame _ _ _ _ _
  · exact retryTrip_frame _ _ _ _ _

theorem hardTripClosed_frame (p : Port) (s : State) : SwitchFrame s (hardTripClosed p s) := by
  unfold hardTripClosed
  split
  · exact faultReport_frame _ _ _ _
  · exact faultReport_frame _ _ _ _
  · exact retryTrip_frame _ _ _ _ _
  · exact retryTrip_frame _ _ _ _ _

theorem reconfigureSwitch_frame (p : Port) (old : PortConfig) (s : State) :
    SwitchFrame s (reconfigureSwitch p old s) := by
  unfold reconfigureSwitch
  simp only
  split
  · exact (setSwitch_frame _ _ _).trans (filteredTripClosed_frame _ _)
  · exact setSwitch_frame _ _ _

theorem clearFaults_frame (p : Port) (s : State) : SwitchFrame s (clearFaults p s) := faultUpdate_frame _ _ _

theorem dueReclose_frame (s : State) : SwitchFrame s (dueReclose s) :=
  ⟨⟨⟨rfl, rfl, rfl, rfl, rfl, rfl, rfl, rfl, rfl, rfl, rfl, rfl, rfl⟩, rfl, rfl, rfl, rfl, rfl, rfl, rfl⟩, rfl, rfl⟩

/-! ## The selector -/

/-- The posting of a notice keeps all that an evaluation keeps, and the selector. -/
theorem NoticeFrame.toSelectorFrame {s t : State} (h : NoticeFrame s t) : SelectorFrame s t where
  resetHeld := h.resetHeld
  lockLow := h.lockLow
  mode := h.mode
  initByLink := h.initByLink
  rails := h.rails
  linesOn := h.linesOn
  powerUp := h.powerUp
  sense := h.sense
  switches := h.switches
  ports := h.ports
  engine := h.engine
  lines := h.lines
  pool := h.pool
  channels := h.channels
  store := h.store
  reports := h.reports
  records := h.records
  choices := h.choices
  pending := h.pending
  link := by
    have hl := h.link
    rw [h.replies, h.reserved] at hl
    exact hl
  settings := by rw [h.sel]
  loaded := by rw [h.sel]

theorem setSource_frame (x : Source) (r : SourceRec) (s : State) : SelectorFrame s (s.setSource x r) := by
  constructor <;> cases x <;> rfl

theorem setChangeover_frame (c : Option Changeover) (s : State) : SelectorFrame s (s.setChangeover c) := by
  constructor <;> rfl

theorem setActive_frame (a : Option Source) (s : State) : SelectorFrame s (s.setActive a) := by
  constructor <;> rfl

theorem sendEvent_frame (e : SelEvent) (s : State) : SelectorFrame s (sendEvent e s) := by
  constructor <;> rfl

theorem postSourceState_frame (x : Source) (s : State) : SelectorFrame s (postSourceState x s) :=
  (postNotice_frame _ s).toSelectorFrame

theorem driveSel_frame (x : Source) (on : Bool) (s : State) : SelectorFrame s (driveSel x on s) := setSource_frame _ _ _

theorem driveActive_frame (a : Option Source) (on : Bool) (s : State) : SelectorFrame s (driveActive a on s) := by
  cases a with
  | none => exact .refl s
  | some x => exact driveSel_frame x on s

theorem postActive_frame (a : Option Source) (s : State) : SelectorFrame s (postActive a s) := by
  cases a with
  | none => exact .refl s
  | some x => exact postSourceState_frame x s

theorem beginChangeover_frame (t : Source) (s : State) : SelectorFrame s (beginChangeover t s) :=
  ((driveActive_frame _ _ s).trans (setChangeover_frame _ _)).trans (sendEvent_frame _ _)

theorem loseSource_frame (a : Source) (s : State) : SelectorFrame s (loseSource a s) :=
  (((driveSel_frame a false s).trans (setActive_frame none _)).trans (sendEvent_frame _ _)).trans
    (postSourceState_frame _ _)

/-- R8, R9: an evaluation changes the selector's pins, its active source and its changeover, sends an event at most, and
posts notices. -/
theorem evaluate_frame (s : State) : SelectorFrame s (evaluate s) := by
  unfold evaluate
  split
  · exact .refl s
  · split
    · split
      · exact .refl s
      · exact beginChangeover_frame _ s
    · exact beginChangeover_frame _ s
    · exact loseSource_frame _ s
    · exact .refl s

theorem changeSource_frame (x : Source) (st : SourceState) (s : State) : SelectorFrame s (changeSource x st s) := by
  unfold changeSource
  split
  · exact .refl s
  · exact ((setSource_frame x _ s).trans (postSourceState_frame x _)).trans (evaluate_frame _)

theorem selectorSample_frame (x : Source) (s : State) : SelectorFrame s (selectorSample x s) := by
  unfold selectorSample
  split
  · simp only
    split
    · exact (changeSource_frame x _ s).trans (evaluate_frame _)
    · exact changeSource_frame x _ s
  · exact .refl s

theorem applyEnable_frame (x : Source) (on : Bool) (s : State) : SelectorFrame s (applyEnable x on s) := by
  unfold applyEnable
  simp only
  split
  · split
    · split
      · exact ((setSource_frame x _ s).trans (changeSource_frame x _ _)).trans (changeSource_frame x _ _)
      · exact (setSource_frame x _ s).trans (changeSource_frame x _ _)
    · exact setSource_frame x _ s
  · exact (setSource_frame x _ s).trans (changeSource_frame x _ _)

/-! ## The engine -/

theorem mapEngine_frame (f : Engine → Engine) (s : State) : EngineFrame s (s.mapEngine f) :=
  ⟨⟨rfl, rfl, rfl, rfl, rfl, rfl, rfl, rfl, rfl, rfl, rfl, rfl, rfl⟩, rfl, rfl, rfl, rfl, rfl, rfl, rfl⟩

theorem mapPort_frame (p : Port) (f : PortRec → PortRec) (s : State) : EngineFrame s (s.mapPort p f) :=
  ⟨⟨rfl, rfl, rfl, rfl, rfl, rfl, rfl, rfl, rfl, rfl, rfl, rfl, rfl⟩, rfl, rfl, rfl, rfl, rfl, rfl, rfl⟩

theorem mapEngine_keep (f : Engine → Engine) (s : State) : PortsKeep s (s.mapEngine f) := .of_ports rfl

/-- A change of one port record that keeps its configuration, request, origin, mark and identity. -/
theorem mapPort_keep (p : Port) (f : PortRec → PortRec) (s : State)
    (h : ∀ r, (f r).config = r.config ∧ (f r).request = r.request ∧
      ((f r).origin = r.origin ∨ (r.request = 0 ∧ (f r).origin = none)) ∧
      (f r).clamped = r.clamped ∧ (f r).identity = r.identity) : PortsKeep s (s.mapPort p f) := by
  have hp : ∀ q, (s.mapPort p f).port q = if q = p then f (s.port p) else s.port q := fun q => State.mapPort_port s p q f
  obtain ⟨h1, h2, h3, h4, h5⟩ := h (s.port p)
  refine ⟨?_, ?_, ?_, ?_, ?_⟩ <;> intro q <;> simp only [State.cfg, hp] <;> split <;> simp_all

theorem SwitchFrame.keep {s t : State} (h : SwitchFrame s t) : PortsKeep s t := .of_ports h.ports

theorem NoticeFrame.keep {s t : State} (h : NoticeFrame s t) : PortsKeep s t := .of_ports h.ports

theorem LineFrame.keep {s t : State} (h : LineFrame s t) : PortsKeep s t := .of_ports h.ports

/-- An operation of the engine that keeps what `EngineFrame` and `PortsKeep` keep. -/
structure ShedFrame (s t : State) : Prop extends EngineFrame s t, PortsKeep s t

theorem ShedFrame.refl (s : State) : ShedFrame s s := ⟨.refl s, .refl s⟩

theorem ShedFrame.trans {s t u : State} (h : ShedFrame s t) (k : ShedFrame t u) : ShedFrame s u :=
  ⟨h.toEngineFrame.trans k.toEngineFrame, h.toPortsKeep.trans k.toPortsKeep⟩

theorem SwitchFrame.toShedFrame {s t : State} (h : SwitchFrame s t) : ShedFrame s t := ⟨h.toEngineFrame, h.keep⟩

theorem mapEngine_shedFrame (f : Engine → Engine) (s : State) : ShedFrame s (s.mapEngine f) :=
  ⟨mapEngine_frame f s, mapEngine_keep f s⟩

theorem opportunity_frame (s : State) : ShedFrame s (opportunity s) := mapEngine_shedFrame _ s

theorem startHold_frame (s : State) : ShedFrame s (startHold s) := mapEngine_shedFrame _ s

theorem storeEnvelope_frame (s : State) : ShedFrame s (storeEnvelope s) := mapEngine_shedFrame _ s

/-- R90, R102: what leaving for SHED, or for OFF with a request of 0 mW, keeps of a port record. -/
theorem drop_keeps (why : ShedReason) (r : PortRec) :
    (PortRec.drop why r).config = r.config ∧ (PortRec.drop why r).request = r.request ∧
      ((PortRec.drop why r).origin = r.origin ∨ (r.request = 0 ∧ (PortRec.drop why r).origin = none)) ∧
      (PortRec.drop why r).clamped = r.clamped ∧ (PortRec.drop why r).identity = r.identity := by
  unfold PortRec.drop
  split
  · next h => exact ⟨rfl, rfl, .inr ⟨h, rfl⟩, rfl, rfl⟩
  · exact ⟨rfl, rfl, .inl rfl, rfl, rfl⟩

/-- R90, R102: a port that leaves for SHED or OFF has no grant, no grace and no overdraw count. -/
theorem drop_empties (why : ShedReason) (r : PortRec) :
    (PortRec.drop why r).grant = 0 ∧ (PortRec.drop why r).grace = none ∧ (PortRec.drop why r).overdraw = 0 ∧
      (PortRec.drop why r).alloc = (if r.request = 0 then .off else .shed) := by
  unfold PortRec.drop
  split <;> exact ⟨rfl, rfl, rfl, rfl⟩

theorem drop_eq (why : ShedReason) (r : PortRec) : PortRec.drop why r = shedRecord why r := rfl

theorem dropToShed_frame (why : ShedReason) (p : Port) (s : State) : ShedFrame s (dropToShed why p s) := by
  have h : ShedFrame s (s.mapPort p (PortRec.drop why)) :=
    ⟨mapPort_frame _ _ s, mapPort_keep _ _ s (drop_keeps why)⟩
  exact ((h.trans (mapEngine_shedFrame _ _)).trans (switchOff_frame p _).toShedFrame).trans (opportunity_frame _)

theorem dropChildren_frame (n : Nat) : ∀ (p : Port) (s : State), ShedFrame s (dropChildren n p s) := by
  induction n with
  | zero => intro p s; exact .refl s
  | succ n ih =>
    intro p s
    refine forEach_rel ShedFrame.refl ShedFrame.trans (fun q s => ?_) _ s
    split
    · exact (dropToShed_frame _ q s).trans (ih q _)
    · exact .refl s

theorem dropTree_frame (why : ShedReason) (p : Port) (s : State) : ShedFrame s (dropTree why p s) :=
  (dropToShed_frame why p s).trans (dropChildren_frame 8 p _)

theorem requeue_frame (order : List Port) (s : State) : ShedFrame s (requeue order s) := by
  refine forEach_rel ShedFrame.refl ShedFrame.trans (fun p s => ?_) _ s
  split
  · exact mapEngine_shedFrame _ s
  · exact .refl s

theorem inOneStep_frame {f : State → State} (hf : ∀ s, ShedFrame s (f s)) (s : State) : ShedFrame s (inOneStep f s) :=
  (hf s).trans (requeue_frame _ _)

theorem startGrace_frame (why : ShedReason) (p : Port) (s : State) : ShedFrame s (startGrace why p s) :=
  ⟨mapPort_frame _ _ s, mapPort_keep _ _ s (fun _ => ⟨rfl, rfl, .inl rfl, rfl, rfl⟩)⟩

theorem shedOrder_frame (n : Nat) : ∀ (why : ShedReason) (p : Port) (s : State), ShedFrame s (shedOrder n why p s) := by
  induction n with
  | zero => intro why p s; exact .refl s
  | succ n ih =>
    intro why p s
    unfold shedOrder
    split
    · split
      · exact dropTree_frame why p s
      · exact (startGrace_frame why p s).trans
          (forEach_rel ShedFrame.refl ShedFrame.trans (fun q s => ih .dependency q s) _ _)
    · exact dropTree_frame why p s
    · exact dropTree_frame why p s
    · split
      · exact ⟨mapPort_frame _ _ s, mapPort_keep _ _ s (fun _ => ⟨rfl, rfl, .inl rfl, rfl, rfl⟩)⟩
      · exact .refl s
    all_goals exact .refl s

theorem shed_frame (why : ShedReason) (p : Port) (s : State) : ShedFrame s (shed why p s) :=
  inOneStep_frame (fun s => shedOrder_frame 8 why p s) s

theorem shedCheck_frame (n : Nat) : ∀ s : State, ShedFrame s (shedCheck n s) := by
  induction n with
  | zero => intro s; exact .refl s
  | succ n ih =>
    intro s
    unfold shedCheck
    split
    · exact .refl s
    · split
      · exact .refl s
      · exact ((shed_frame _ _ s).trans (startHold_frame _)).trans (ih _)

theorem cancelPort_frame (p : Port) (s : State) : ShedFrame s (cancelPort p s) := by
  have h : ShedFrame s (s.mapPort p (fun r => { r with alloc := .on, grace := none, reason := none, overdraw := 0 })) :=
    ⟨mapPort_frame _ _ s, mapPort_keep _ _ s (fun _ => ⟨rfl, rfl, .inl rfl, rfl, rfl⟩)⟩
  exact h.trans (opportunity_frame _)

theorem cancelWalk_frame (l : List Port) : ∀ s : State, ShedFrame s (cancelWalk l s) := by
  induction l with
  | nil => intro s; exact .refl s
  | cons p l ih =>
    intro s
    unfold cancelWalk
    split
    · split
      · exact (forEach_rel ShedFrame.refl ShedFrame.trans (fun q s => cancelPort_frame q s) _ s).trans (ih _)
      · exact .refl s
    · exact ih s

theorem afterRecompute_frame (old : Nat) (s : State) : ShedFrame s (afterRecompute old s) := by
  unfold afterRecompute
  simp only
  split
  · exact ((shedCheck_frame 8 s).trans (cancelWalk_frame _ _)).trans (opportunity_frame _)
  · exact shedCheck_frame 8 s

theorem recompute_frame (s : State) : ShedFrame s (recompute s) :=
  (storeEnvelope_frame s).trans (afterRecompute_frame _ _)

theorem recomputeUnlessHeld_frame (s : State) : ShedFrame s (recomputeUnlessHeld s) := by
  unfold recomputeUnlessHeld
  split
  · exact .refl s
  · exact recompute_frame s

theorem admitPort_frame (p : Port) (s : State) : ShedFrame s (admitPort p s) := by
  have h : ShedFrame s (s.mapPort p fun r =>
      { r with alloc := .starting, grant := r.request, reason := none, overdraw := 0 }) :=
    ⟨mapPort_frame _ _ s, mapPort_keep _ _ s (fun _ => ⟨rfl, rfl, .inl rfl, rfl, rfl⟩)⟩
  exact (h.trans (mapEngine_shedFrame _ _)).trans (switchOn_frame p _).toShedFrame

theorem takeVictims_frame (cand : Port) (need : Nat) (n : Nat) : ∀ s : State, ShedFrame s (takeVictims cand need n s) := by
  induction n with
  | zero => intro s; exact .refl s
  | succ n ih =>
    intro s
    unfold takeVictims
    split
    · exact .refl s
    · split
      · exact .refl s
      · exact (shed_frame _ _ s).trans (ih _)

theorem bump_frame (cand : Port) (s : State) : ShedFrame s (bump cand s) := by
  unfold bump
  split
  · exact .refl s
  · split
    · exact takeVictims_frame _ _ _ s
    · exact .refl s

theorem passWalk_frame (l : List Port) : ∀ s : State, ShedFrame s (passWalk l s) := by
  induction l with
  | nil => intro s; exact .refl s
  | cons p l ih =>
    intro s
    unfold passWalk
    split
    · exact ih s
    · split
      · split
        · exact (admitPort_frame p s).trans (ih _)
        · exact bump_frame p s
      · exact .refl s

theorem runOpportunity_frame (s : State) : ShedFrame s (runOpportunity s) := by
  unfold runOpportunity
  split
  · refine ShedFrame.trans ?_ (mapEngine_shedFrame _ _)
    split
    · exact .refl s
    · exact passWalk_frame _ s
  · exact .refl s

theorem updateOvercommit_frame (s : State) : ShedFrame s (updateOvercommit s) := by
  unfold updateOvercommit
  simp only
  split
  · exact .refl s
  · exact (mapEngine_shedFrame _ s).trans (postNotice_frame _ _).toSwitchFrame.toShedFrame

/-! ## Lines and send channels -/

theorem setLine_frame (p : Port) (l : LineRec) (s : State) : LineFrame s (s.setLine p l) :=
  ⟨⟨rfl, rfl, rfl, rfl, rfl, rfl, rfl, rfl, rfl, rfl, rfl, rfl, rfl⟩, rfl, rfl, rfl, rfl, rfl, rfl, rfl⟩

theorem setChannel_frame (c : SendNo) (x : Option Send) (s : State) : LineFrame s (s.setChannel c x) :=
  ⟨⟨rfl, rfl, rfl, rfl, rfl, rfl, rfl, rfl, rfl, rfl, rfl, rfl, rfl⟩, rfl, rfl, rfl, rfl, rfl, rfl, rfl⟩

theorem deferredReply_frame (c : Command) (tag : Byte) (r : Result) (fields : List Byte) (s : State) :
    LineFrame s (deferredReply c tag r fields s) :=
  ⟨⟨rfl, rfl, rfl, rfl, rfl, rfl, rfl, rfl, rfl, rfl, rfl, rfl, rfl⟩, rfl, rfl, rfl, rfl, rfl, rfl, rfl⟩

theorem endSend_frame (c : SendNo) (x : Send) (s : State) : LineFrame s (endSend c x s) :=
  (setChannel_frame c none s).trans (deferredReply_frame _ _ _ _ _)

theorem reachNext_frame (c : SendNo) (l : List Port) : ∀ (x : Send) (s : State), LineFrame s (reachNext c x l s) := by
  induction l with
  | nil => intro x s; exact endSend_frame c x s
  | cons p l ih =>
    intro x s
    unfold reachNext
    split
    · exact (setChannel_frame _ _ s).trans (setLine_frame _ _ _)
    · exact ih _ s

theorem cancelRest_frame (c : SendNo) (x : Send) (s : State) : LineFrame s (cancelRest c x s) := endSend_frame _ _ _

theorem leaveLine_frame (c : SendNo) (p : Port) (s : State) : LineFrame s (leaveLine c p s) := setLine_frame _ _ _

theorem recordOutcome_frame (c : SendNo) (o : SendOutcome) (s : State) : LineFrame s (recordOutcome c o s) := by
  unfold recordOutcome
  split
  · exact .refl s
  · simp only
    split
    · exact cancelRest_frame _ _ _
    · exact reachNext_frame _ _ _ _

theorem sendStarted_frame (c : SendNo) (s : State) : LineFrame s (sendStarted c s) := by
  unfold sendStarted
  split
  · exact .refl s
  · exact setChannel_frame _ _ _

theorem reportItem_frame (i : Option LineItem) (o : SendOutcome) (s : State) : LineFrame s (reportItem i o s) := by
  unfold reportItem
  split
  · exact recordOutcome_frame _ _ _
  · exact .refl s
  · exact .refl s

theorem startRecord_frame (p : Port) (s : State) : LineFrame s (startRecord p s) := by
  unfold startRecord tellStarted
  simp only
  split
  · exact setLine_frame _ _ _
  · exact (setLine_frame _ _ _).trans (sendStarted_frame _ _)

theorem holdLow_frame (p : Port) (s : State) : LineFrame s (holdLow p s) :=
  ⟨⟨rfl, rfl, rfl, rfl, rfl, rfl, rfl, rfl, rfl, rfl, rfl, rfl, rfl⟩, rfl, rfl, rfl, rfl, rfl, rfl, rfl⟩

/-- R130: a line that stands low has its idle time at 0; no other line is touched. -/
theorem holdLow_line (p q : Port) (s : State) :
    (holdLow p s).line q =
      if q = p then { s.line p with idle := 0, low := Config.lowTime s.choices } else s.line q :=
  State.setLine_line s p q _

theorem countIdle_frame (p : Port) (bound : Nat) (s : State) : LineFrame s (countIdle p bound s) :=
  ⟨⟨rfl, rfl, rfl, rfl, rfl, rfl, rfl, rfl, rfl, rfl, rfl, rfl, rfl⟩, rfl, rfl, rfl, rfl, rfl, rfl, rfl⟩

/-- R130: a line that stands high has an idle time within its bound; no other line is touched. -/
theorem countIdle_line (p q : Port) (bound : Nat) (s : State) :
    (countIdle p bound s).line q =
      if q = p then { s.line p with idle := min bound (Config.idleSeen s.choices), low := 0 } else s.line q :=
  State.setLine_line s p q _

theorem idleAfterChar_frame (p : Port) (x : LineSamples) (s : State) : LineFrame s (idleAfterChar p x s) := by
  unfold idleAfterChar
  split
  · exact countIdle_frame _ _ _
  · exact holdLow_frame _ _

/-- R130: the end of a character moves the idle time and the low time of its line alone. -/
theorem idleAfterChar_line (p q : Port) (x : LineSamples) (s : State) :
    (idleAfterChar p x s).line q =
      if q = p then
        { s.line p with
          idle := ((idleAfterChar p x s).line p).idle
          low := ((idleAfterChar p x s).line p).low }
      else s.line q := by
  unfold idleAfterChar
  split
  · by_cases h : q = p <;> simp [countIdle_line, h]
  · by_cases h : q = p <;> simp [holdLow_line, h]

/-- R128, R130, R133, R134: a microsecond does to each line what `tickLine` says, with the edge of its own. -/
theorem tick_line (p : Port) (s : State) (h : s.resetHeld = false) :
    (tick s).line p = tickLine (Config.fallingEdge s.choices p.val) (s.line p) := by
  simp [tick, h, State.line, tget]

/-- R130: a microsecond leaves the idle time of a line within 2 character times, or where it was above them. -/
theorem tickLine_idle (edge : Option Nat) (l : LineRec) : (tickLine edge l).idle ≤ max l.idle Config.lineIdle := by
  unfold tickLine LineRec.passIdle
  split
  · split <;> simp
  · simp

theorem collide_frame (p : Port) (s : State) : LineFrame s (collide p s) := by
  unfold collide
  simp only
  split
  · exact ((setLine_frame _ _ _).trans (holdLow_frame _ _)).trans (reportItem_frame _ _ _)
  · exact (setLine_frame _ _ _).trans (holdLow_frame _ _)

theorem queueStateRecord_frame (p : Port) (s : State) : LineFrame s (queueStateRecord p s) := by
  unfold queueStateRecord
  split
  · exact setLine_frame _ _ _
  · exact .refl s

theorem turnOnLine_frame (p : Port) (s : State) : LineFrame s (turnOnLine p s) := by
  unfold turnOnLine
  split
  · exact .refl s
  · exact (setLine_frame _ _ _).trans (queueStateRecord_frame _ _)

theorem countChoice_frame (l : List SendNo) (s : State) : LineFrame s (countChoice l s) := by
  unfold countChoice
  split
  · exact ⟨⟨rfl, rfl, rfl, rfl, rfl, rfl, rfl, rfl, rfl, rfl, rfl, rfl, rfl⟩, rfl, rfl, rfl, rfl, rfl, rfl, rfl⟩
  · exact .refl s

theorem turnOffLine_frame (p : Port) (s : State) : LineFrame s (turnOffLine p s) := by
  unfold turnOffLine
  split
  · exact ((setLine_frame _ _ _).trans (countChoice_frame _ _)).trans
      (forEach_rel LineFrame.refl LineFrame.trans (fun c s => recordOutcome_frame c _ s) _ _)
  · exact .refl s

theorem setLineRate_frame (p : Port) (r : LineRate) (s : State) : LineFrame s (setLineRate p r s) := setLine_frame _ _ _

/-! ## The end of a handling -/

/-- What a handling keeps: the blocks outside the engine, and of each port its configuration, request, origin, mark and
identity. -/
structure FinishFrame (s t : State) : Prop extends HandlingFrame s t, PortsKeep s t

theorem FinishFrame.refl (s : State) : FinishFrame s s := ⟨.refl s, .refl s⟩

theorem FinishFrame.trans {s t u : State} (h : FinishFrame s t) (k : FinishFrame t u) : FinishFrame s u :=
  ⟨h.toHandlingFrame.trans k.toHandlingFrame, h.toPortsKeep.trans k.toPortsKeep⟩

theorem ShedFrame.toFinishFrame {s t : State} (h : ShedFrame s t) : FinishFrame s t :=
  ⟨h.toHandlingFrame, h.toPortsKeep⟩

theorem LineFrame.toFinishFrame {s t : State} (h : LineFrame s t) : FinishFrame s t := ⟨h.toHandlingFrame, h.keep⟩

theorem announcePort_frame (p : Port) (s : State) : FinishFrame s (announcePort p s) :=
  (postNotice_frame _ s).toSwitchFrame.toShedFrame.toFinishFrame.trans (queueStateRecord_frame _ _).toFinishFrame

theorem announceChanges_frame (s0 s : State) : FinishFrame s (announceChanges s0 s) := by
  refine forEach_rel FinishFrame.refl FinishFrame.trans (fun p s => ?_) _ s
  split
  · exact announcePort_frame p s
  · exact .refl s

/-- R64, R109: announcing changes no port, switch or list. -/
theorem announceChanges_engine (s0 s : State) :
    (announceChanges s0 s).ports = s.ports ∧ (announceChanges s0 s).engine = s.engine ∧
      (announceChanges s0 s).switches = s.switches ∧ (announceChanges s0 s).reports = s.reports ∧
      (announceChanges s0 s).rails = s.rails ∧ (announceChanges s0 s).linesOn = s.linesOn := by
  refine forEach_rel
    (R := fun s t => t.ports = s.ports ∧ t.engine = s.engine ∧ t.switches = s.switches ∧ t.reports = s.reports ∧
      t.rails = s.rails ∧ t.linesOn = s.linesOn)
    (fun s => ⟨rfl, rfl, rfl, rfl, rfl, rfl⟩)
    (fun h k => ⟨k.1.trans h.1, k.2.1.trans h.2.1, k.2.2.1.trans h.2.2.1, k.2.2.2.1.trans h.2.2.2.1,
      k.2.2.2.2.1.trans h.2.2.2.2.1, k.2.2.2.2.2.trans h.2.2.2.2.2⟩) (fun p s => ?_) _ s
  split
  · have h := queueStateRecord_frame p (postNotice (portStateNotice p (s.port p)) s)
    exact ⟨h.ports, h.engine, h.switches, h.reports, h.rails, h.linesOn⟩
  · exact ⟨rfl, rfl, rfl, rfl, rfl, rfl⟩

/-- The lines of every port turned off. -/
theorem linesOff_frame (s : State) : LineFrame s (forEach allPorts turnOffLine s) :=
  forEach_rel LineFrame.refl LineFrame.trans (fun p s => turnOffLine_frame p s) _ s

/-- The two rail marks changed alone. -/
theorem railMarks_frame (a b : Bool) (s : State) : FinishFrame s { s with rails := a, linesOn := b } :=
  ⟨⟨rfl, rfl, rfl, rfl, rfl, rfl, rfl, rfl, rfl, rfl, rfl, rfl, rfl⟩, .of_ports rfl⟩

/-- What the wind-down keeps of the engine and the switches. -/
structure WindDownFrame (s t : State) : Prop extends FinishFrame s t where
  ports : t.ports = s.ports
  engine : t.engine = s.engine
  switches : t.switches = s.switches
  reports : t.reports = s.reports

theorem WindDownFrame.refl (s : State) : WindDownFrame s s := ⟨.refl s, rfl, rfl, rfl, rfl⟩

theorem WindDownFrame.trans {s t u : State} (h : WindDownFrame s t) (k : WindDownFrame t u) : WindDownFrame s u :=
  ⟨h.toFinishFrame.trans k.toFinishFrame, k.ports.trans h.ports, k.engine.trans h.engine,
    k.switches.trans h.switches, k.reports.trans h.reports⟩

/-- R116: turning the rails off changes no port, switch or list. -/
theorem turnRailsOff_frame (s : State) : WindDownFrame s (turnRailsOff s) := by
  have h := linesOff_frame s
  unfold turnRailsOff
  generalize forEach allPorts turnOffLine s = u at h ⊢
  exact .trans ⟨h.toFinishFrame, h.ports, h.engine, h.switches, h.reports⟩
    ⟨railMarks_frame _ _ u, rfl, rfl, rfl, rfl⟩

/-- R116: the wind-down changes no port, switch or list. -/
theorem windDown_frame (s : State) : WindDownFrame s (windDown s) := by
  have h := turnRailsOff_frame s
  unfold windDown
  generalize turnRailsOff s = u at h ⊢
  split
  · have k := postNotice_frame (.mode u.mode u.rails .windDown) u
    exact h.trans ⟨k.toSwitchFrame.toShedFrame.toFinishFrame, k.ports, k.engine, k.switches, k.reports⟩
  · exact .refl s

/-- R64, R74, R98, R109, R116: the end of a handling keeps every block but the engine, the switches and the lines, and of
each port what a shed order keeps. -/
theorem finish_frame (s0 s : State) : FinishFrame s (finish s0 s) :=
  (((runOpportunity_frame s).trans (updateOvercommit_frame _)).toFinishFrame.trans (announceChanges_frame s0 _)).trans
    (windDown_frame _).toFinishFrame

/-- Ports and switches at the end of a handling are those the admission pass leaves. -/
theorem finish_ports (s0 s : State) :
    (finish s0 s).ports = (runOpportunity s).ports ∧ (finish s0 s).switches = (runOpportunity s).switches ∧
      (finish s0 s).reports = (runOpportunity s).reports ∧
      (finish s0 s).engine = (updateOvercommit (runOpportunity s)).engine := by
  have hu : (updateOvercommit (runOpportunity s)).ports = (runOpportunity s).ports ∧
      (updateOvercommit (runOpportunity s)).switches = (runOpportunity s).switches ∧
      (updateOvercommit (runOpportunity s)).reports = (runOpportunity s).reports := by
    unfold updateOvercommit; simp only; split <;> exact ⟨rfl, rfl, rfl⟩
  have ha := announceChanges_engine s0 (updateOvercommit (runOpportunity s))
  have hw := windDown_frame (announceChanges s0 (updateOvercommit (runOpportunity s)))
  unfold finish
  exact ⟨hw.ports.trans (ha.1.trans hu.1), hw.switches.trans (ha.2.2.1.trans hu.2.1),
    hw.reports.trans (ha.2.2.2.1.trans hu.2.2), hw.engine.trans ha.2.1⟩

/-- R74: with held yes, in INIT, or with no opportunity, no pass runs. -/
theorem runOpportunity_idle (s : State) (h : s.engine.held = true ∨ s.mode = .init ∨ s.engine.opportunity = false) :
    runOpportunity s = s.mapEngine (fun e => { e with opportunity := false }) := by
  unfold runOpportunity
  split
  · next ho =>
    rw [if_pos]
    rcases h with h | h | h
    · exact .inl h
    · exact .inr h
    · rw [h] at ho; cases ho
  · next ho =>
    have : s.engine.opportunity = false := by simpa using ho
    have he : { s.engine with opportunity := false } = s.engine := by rw [← this]
    unfold State.mapEngine State.setEngine
    simp only [he]

end Sys2Proof.Machine
end

