-- ==== Sys2Proof/Laws/Commands.lean ====
section
/-! SUPPORT. The decoder and the command queue: no command that is carried out touches the queue (R173, R174), so a frame
taken from the head of a queue is handled as it would be alone, and the rest of the queue stays in order. -/

namespace Sys2Proof.Machine

/-! ## What keeps the command queue -/

theorem HandlingFrame.commands {s t : State} (h : HandlingFrame s t) : t.link.commands = s.link.commands := by
  rw [h.link]

theorem SelectorFrame.commands {s t : State} (h : SelectorFrame s t) : t.link.commands = s.link.commands := by
  rw [h.link]

@[simp] theorem reply_commands (c : Command) (tag : Byte) (r : Result) (fields : List Byte) (s : State) :
    (reply c tag r fields s).link.commands = s.link.commands := rfl

@[simp] theorem decoderReply_commands (type tag : Byte) (r : Result) (s : State) :
    (decoderReply type tag r s).link.commands = s.link.commands := rfl

@[simp] theorem setPrepared_commands (b : Bool) (s : State) : (setPrepared b s).link.commands = s.link.commands := rfl

@[simp] theorem finish_commands (s0 s : State) : (finish s0 s).link.commands = s.link.commands :=
  (finish_frame s0 s).commands

/-! ## The allocation engine -/

/-- R102: a request cut to 0 mW outside the granted list. -/
theorem emptyRequest_frame (p : Port) (s : State) : EngineFrame s (emptyRequest p s) :=
  ((mapPort_frame p _ s).trans (mapEngine_frame _ _)).trans (opportunity_frame _).toEngineFrame

/-- R70: an accepted request changes the engine alone. -/
theorem acceptRequest_frame (p : Port) (asked : Nat) (o : Origin) (s : State) : EngineFrame s (acceptRequest p asked o s) := by
  have off : ∀ (req : Nat) (cut : Bool), EngineFrame s (requestOff p req cut o s) := by
    intro req cut
    unfold requestOff
    split
    · exact emptyRequest_frame p s
    · exact ((mapPort_frame p _ s).trans ((mapPort_frame p _ _).trans (mapEngine_frame _ _))).trans
        (opportunity_frame _).toEngineFrame
  have queued : ∀ (req : Nat) (cut : Bool), EngineFrame s (requestQueued p req cut o s) := by
    intro req cut
    unfold requestQueued
    split
    · exact emptyRequest_frame p s
    · exact (mapPort_frame p _ s).trans (opportunity_frame _).toEngineFrame
  have granted : ∀ (req : Nat) (cut : Bool), EngineFrame s (requestGranted p req cut o s) := by
    intro req cut
    unfold requestGranted
    dsimp only
    repeat' split
    · exact (mapPort_frame p _ s).trans (opportunity_frame _).toEngineFrame
    · exact mapPort_frame p _ s
    · exact mapPort_frame p _ s
  unfold acceptRequest
  dsimp only
  split
  all_goals first | exact off _ _ | exact queued _ _ | exact granted _ _ | exact .refl s

/-- R72: a port goes to OFF. -/
theorem goOff_frame (p : Port) (s : State) : EngineFrame s (goOff p s) :=
  ((mapPort_frame p _ s).trans (mapEngine_frame _ _)).trans (switchOff_frame p _).toEngineFrame

/-- What an operation of the engine keeps, it keeps within one step too. -/
theorem inOneStep_engineFrame {f : State → State} (hf : ∀ s, EngineFrame s (f s)) (s : State) :
    EngineFrame s (inOneStep f s) := (hf s).trans (requeue_frame _ _).toEngineFrame

/-- R72: a release changes the engine, the switches and their reports. -/
theorem releaseIfHeld_frame (p : Port) (s : State) : EngineFrame s (releaseIfHeld p s) := by
  have h : EngineFrame s (release p s) := by
    unfold release
    split
    · exact inOneStep_engineFrame (fun u =>
        ((goOff_frame p u).trans (dropChildren_frame 8 p _).toEngineFrame).trans (opportunity_frame _).toEngineFrame) s
    · exact goOff_frame p s
  unfold releaseIfHeld
  split
  · exact .refl s
  · exact .refl s
  all_goals exact h

/-- R73: the engine's part of a clear. -/
theorem clearFaulted_frame (p : Port) (s : State) : EngineFrame s (clearFaulted p s) := by
  unfold clearFaulted
  split
  · exact mapPort_frame _ _ s
  · exact .refl s

/-- R85: the effects of a port's new configuration on the engine. -/
theorem applyConfig_frame (p : Port) (old : PortConfig) (s : State) : EngineFrame s (applyConfig p old s) := by
  have cap : ∀ u : State, EngineFrame u (applyCap p u) := by
    intro u
    unfold applyCap
    dsimp only
    repeat' split
    · exact ((mapPort_frame p _ u).trans (mapEngine_frame _ _)).trans (opportunity_frame _).toEngineFrame
    · exact (mapPort_frame p _ u).trans (opportunity_frame _).toEngineFrame
    · exact mapPort_frame p _ u
    · exact .refl u
  have key : ∀ u : State, EngineFrame u (applyKey p old u) := by
    intro u
    unfold applyKey
    split
    · exact mapEngine_frame _ u
    · exact .refl u
  have parent : ∀ u : State, EngineFrame u (applyParent p old u) := by
    intro u
    have drop := (inOneStep_frame (dropTree_frame .dependency p) u).toEngineFrame
    unfold applyParent
    repeat' split
    · exact .refl u
    · exact .refl u
    · exact (shed_frame _ _ u).toEngineFrame
    all_goals first | exact drop | exact .refl u
  exact (((cap s).trans (key _)).trans (parent _)).trans
    ((shedCheck_frame 8 _).toEngineFrame.trans (opportunity_frame _).toEngineFrame)

/-! ## The commands -/

/-- R84: storing a port's configuration. -/
theorem storeConfig_commands (p : Port) (c : PortConfig) (s : State) :
    (storeConfig p c s).link.commands = s.link.commands := by
  have lines : ∀ u : State, (applyLineConfig p c u).link.commands = u.link.commands := by
    intro u
    have r := (setLineRate_frame p c.lineRate u).commands
    unfold applyLineConfig
    dsimp only
    repeat' split
    · exact (turnOnLine_frame p _).commands.trans r
    · exact (turnOffLine_frame p _).commands.trans r
    · exact r
  have disable : ∀ u : State, (applyDisable p c u).link.commands = u.link.commands := by
    intro u; unfold applyDisable; split <;> rfl
  have gain : ∀ u : State, (chooseGain p u).link.commands = u.link.commands := by
    intro u; unfold chooseGain; split <;> rfl
  unfold storeConfig
  rw [disable, lines, gain, (reconfigureSwitch_frame p _ _).commands]
  rfl

/-- R115: the rails and the lines are turned on. -/
theorem turnRailsOn_frame (s : State) : FinishFrame s (turnRailsOn s) := by
  refine (railMarks_frame true true s).trans
    (forEach_rel LineFrame.refl LineFrame.trans (fun p u => ?_) _ _ : LineFrame _ (turnRailsOn s)).toFinishFrame
  split
  · exact turnOnLine_frame p u
  · exact .refl u

/-- R118: a mode other than STANDBY. -/
theorem powerUpMode_frame (dst : Mode) (s : State) : FinishFrame s (powerUpMode dst s) := by
  unfold powerUpMode
  split
  · exact .refl s
  · split
    · exact (opportunity_frame s).toFinishFrame
    · exact (turnRailsOn_frame s).trans (opportunity_frame _).toFinishFrame

/-- R119: the shed orders of a change of mode. -/
theorem modeShed_frame (l : List Port) (s : State) :
    ShedFrame s (inOneStep (fun s => forEach l (shedOrder 8 .mode) s) s) :=
  inOneStep_frame (fun u => forEach_rel ShedFrame.refl ShedFrame.trans (shedOrder_frame 8 .mode) l u) s

/-- R118: the mode field and its notice. -/
theorem enterMode_commands (dst : Mode) (s : State) : (enterMode dst s).link.commands = s.link.commands := by
  unfold enterMode
  exact (postNotice_frame _ { s with mode := dst }).commands

/-- R118: an accepted change of mode. -/
theorem changeMode_commands (dst : Mode) (s : State) : (changeMode dst s).link.commands = s.link.commands := by
  unfold changeMode
  dsimp only
  rw [finish_commands, (powerUpMode_frame _ _).commands, (modeShed_frame _ _).commands, enterMode_commands]

/-- R14: an accepted SOURCE_CONFIGURE. -/
theorem configureSource_commands (x : Source) (pl : List Byte) (s : State) :
    (configureSource x pl s).link.commands = s.link.commands := by
  unfold configureSource
  dsimp only
  rw [(evaluate_frame _).commands, (applyEnable_frame x _ _).commands]
  rfl

/-- R147: RELAY_SEND. -/
theorem doRelaySend_commands (tag : Byte) (pl : List Byte) (s : State) :
    (doRelaySend tag pl s).link.commands = s.link.commands := by
  unfold doRelaySend
  split
  · rfl
  · rfl
  · exact (reachNext_frame _ _ _ _).commands

/-- R153: RELAY_CANCEL. -/
theorem doRelayCancel_commands (tag : Byte) (pl : List Byte) (s : State) :
    (doRelayCancel tag pl s).link.commands = s.link.commands := by
  simp only [doRelayCancel, cancelSend]
  repeat' split
  all_goals rfl

/-- R174: no command that is carried out touches the command queue. -/
theorem carryOut_commands (c : Command) (tag : Byte) (pl : List Byte) (s : State) :
    (carryOut c tag pl s).link.commands = s.link.commands := by
  have recomputed : ∀ u : State, (recomputeUnlessHeld u).link.commands = u.link.commands := fun u =>
    (recomputeUnlessHeld_frame u).commands
  cases c <;> simp only [carryOut]
  case portConfigure =>
    simp only [doPortConfigure, configureFor]
    repeat' split
    all_goals simp only [reply_commands, finish_commands]
    rw [(applyConfig_frame _ _ _).commands, storeConfig_commands]
  case portRequest =>
    simp only [doPortRequest, requestFor, replyRequest]
    repeat' split
    all_goals simp only [reply_commands, finish_commands]
    rw [(acceptRequest_frame _ _ _ _).commands]
  case portRelease =>
    simp only [doPortRelease, releaseFor]
    repeat' split
    all_goals simp only [reply_commands, finish_commands]
    rw [(releaseIfHeld_frame _ _).commands]
  case portClear =>
    simp only [doPortClear, clearFor]
    repeat' split
    all_goals simp only [reply_commands, finish_commands]
    rw [(clearFaulted_frame _ _).commands,
      (clearFaults_frame _ _).commands]
  case setEnvelope =>
    simp only [doSetEnvelope]
    split
    · rfl
    · simp only [reply_commands, finish_commands, recomputed]
      rfl
  case setMode =>
    simp only [doSetMode, replyMode]
    repeat' split
    all_goals simp only [reply_commands, changeMode_commands]
  case sourceConfigure =>
    simp only [doSourceConfigure]
    repeat' split
    all_goals simp only [reply_commands, configureSource_commands]
  case relaySend => exact doRelaySend_commands tag pl s
  case relayCancel => exact doRelayCancel_commands tag pl s
  case relayFetch =>
    simp only [doRelayFetch, fetchAny, fetchPort, fetchRecord]
    repeat' split
    all_goals rfl
  case lineReset => simp only [doLineReset]; repeat' split
                    all_goals rfl
  case linkSet => simp only [doLinkSet]; split <;> rfl
  case noticeConfig => simp only [doNoticeConfig]; repeat' split
                       all_goals rfl
  case noticeFetch => simp only [doNoticeFetch]; split <;> rfl
  case reset => simp only [doReset]; repeat' split
                all_goals rfl
  case measure => simp only [doMeasure]; repeat' split
                  all_goals rfl
  case portQuery => simp only [doPortQuery]; split <;> rfl
  case profileRead => simp only [doProfileRead]; repeat' split
                      all_goals rfl
  case profileWrite =>
    simp only [doProfileWrite, writePayload, writeLive]
    repeat' split
    all_goals rfl
  case profileProtect =>
    simp only [doProfileProtect, protectSession, protectMap]
    repeat' split
    all_goals rfl
  all_goals rfl

/-- R174: the decoder's handling of a frame leaves the command queue as it is. -/
theorem decodeFrame_commands (f : Frame) (s : State) : (decodeFrame f s).link.commands = s.link.commands := by
  simp only [decodeFrame, decodeListed]
  repeat' split
  all_goals simp only [setPrepared_commands, decoderReply_commands, reply_commands, carryOut_commands]

/-- R173, R174: the taking of a head. The frame is handled as it would be alone, and the frames behind it stay. -/
theorem takeHead_cons (f : Frame) (rest : List Frame) (s : State) (h : s.link.commands = f :: rest)
    (ready : s.link.ready = true) :
    takeHead s =
      let t := decodeFrame f (s.setLink { s.link with commands := [] })
      t.setLink { t.link with commands := rest } := by
  simp only [takeHead, h, ready, if_true, keepWaiting, decodeFrame_commands, State.setLink, List.nil_append]

/-- The taking of a head with nothing behind it. -/
theorem takeHead_single (f : Frame) (s : State) (h : s.link.commands = [f]) (ready : s.link.ready = true) :
    takeHead s = decodeFrame f (s.setLink { s.link with commands := [] }) := by
  simp only [takeHead, h, ready, if_true, keepWaiting, List.append_nil, State.setLink]

/-- R173, R174: a frame that arrives where nothing waits and the decoder can take it is decoded at once. -/
theorem offerFrame_alone (f : Frame) (s : State) (held : s.resetHeld = false) (empty : s.link.commands = [])
    (ready : s.link.ready = true) : offerFrame f s = decodeFrame f s := by
  have queued : handGoodFrame f s = s.setLink { s.link with commands := [f] } := by
    simp [handGoodFrame, empty, Config.commandSlots]
  have alone : (s.setLink { s.link with commands := [] }) = s := by
    unfold State.setLink
    rw [← empty]
  have taken := takeHead_single f (s.setLink { s.link with commands := [f] }) rfl ready
  have reset : ((s.setLink { s.link with commands := [f] }).setLink
      { (s.setLink { s.link with commands := [f] }).link with commands := [] }) =
      s.setLink { s.link with commands := [] } := rfl
  rw [reset, alone] at taken
  simp only [offerFrame, held, Bool.false_eq_true, if_false, empty, queued, taken]

/-- R173, R174: a row whose frame heads a queue that the decoder can take from. -/
theorem offerFrame_head (f : Frame) (rest : List Frame) (s : State) (held : s.resetHeld = false)
    (head : s.link.commands = f :: rest) (ready : s.link.ready = true) :
    offerFrame f s =
      let t := offerFrame f (s.setLink { s.link with commands := [] })
      t.setLink { t.link with commands := rest } := by
  rw [offerFrame_alone f (s.setLink { s.link with commands := [] }) held rfl ready]
  simp only [offerFrame, held, Bool.false_eq_true, if_false, head, if_true, takeHead_cons f rest s head ready]

end Sys2Proof.Machine
end

