-- ==== Sys2Proof/Tests/Slice0.lean ====
section
/-! SUPPORT. Tests: the checks of WellFormed, values of the manual's worked cases, and for each statement a witness of its
hypotheses, clause by clause. -/

namespace Sys2Proof.Tests

-- One theorem at a time: many evaluations side by side run out of threads.
set_option Elab.async false

open Sys2Proof Sys2Proof.Machine

/-! ## Helpers -/

/-- The state after one command. -/
def after (i : Instr) (s : State) : State :=
  match exec i s with
  | .next t => t
  | .fault _ => s
  | .refused _ => s

/-- RUN on SA, lines idle, every port OFF, envelope 100,000 mW. -/
def live : State :=
  { State.reset with
    mode := .run
    rails := true
    linesOn := true
    sel :=
      { resetSelector with
        loaded := true, active := some .sa, sa := { resetSource .sa with state := .healthy, selPin := true } }
    lines := Vector.replicate 8 { resetLine .d16 with rx := .hunt, tx := .idle }
    engine := { resetEngine 25000 5000 2000 with envelope := 100000 } }

/-- A port of the granted list, ON with its switch CLOSED. -/
def withOn (p : Port) (grant : Nat) (s : State) : State :=
  ((s.mapPort p (fun r => { r with alloc := .on, grant := grant, request := grant, origin := some .link })).mapEngine
    (fun e => { e with granted := e.granted ++ [p] })).setSwitch p { resetSwitch with state := .closed 0, armed := true }

/-- A port in STARTING with its switch RAMPING. -/
def withStarting (p : Port) (grant : Nat) (s : State) : State :=
  ((s.mapPort p (fun r => { r with alloc := .starting, grant := grant, request := grant, origin := some .link })).mapEngine
    (fun e => { e with granted := e.granted ++ [p], slot0 := some p })).setSwitch p
      { resetSwitch with state := .ramping .ms4 0 }

/-- A port in WAITING. -/
def withWaiting (p : Port) (request : Nat) (s : State) : State :=
  (s.mapPort p (fun r => { r with alloc := .waiting, request := request, origin := some .link })).mapEngine
    (fun e => { e with queue := e.queue ++ [p] })

/-- A port record with another allocation state. -/
def withAlloc (p : Port) (a : AllocState) (s : State) : State := s.mapPort p (fun r => { r with alloc := a })

/-- A port configuration changed. -/
def withCfg (p : Port) (f : PortConfig → PortConfig) (s : State) : State :=
  s.mapPort p (fun r => { r with config := f r.config })

/-- A switch state. -/
def withSwitch (p : Port) (x : SwitchState) (s : State) : State := s.setSwitch p { s.switch p with state := x }

/-- A source state. -/
def withSource (x : Source) (st : SourceState) (s : State) : State := s.setSource x { s.source x with state := st }

/-- A filtered code on a channel. -/
def withCode (ch : SenseChannel) (code : Nat) (s : State) : State :=
  s.setSample ch { s.sample ch with acc := 8 * code, raw := BitVec.ofNat 12 code, seeded := true }

/-- A line record changed. -/
def withLine (p : Port) (f : LineRec → LineRec) (s : State) : State := s.setLine p (f (s.line p))

/-- The link changed. -/
def withLink (f : Link → Link) (s : State) : State := s.setLink (f s.link)

/-- A conversion under way on a channel, at the channel's gain. -/
def during (ch : SenseChannel) (s : State) : State :=
  { s with sense := { s.sense with converting := some ⟨ch, (s.sample ch).gain⟩ } }

/-- The round of conversions has come to a channel. -/
def turnOf (ch : SenseChannel) (s : State) : State := { s with sense := { s.sense with nextChannel := ch } }

/-- The reports of a switch that wait for the engine. -/
def withReport (p : Port) (r : Report) (s : State) : State := s.setReports p [r]

/-- DRAIN mode. -/
def drain (s : State) : State := { s with sel := { s.sel with settings := { s.sel.settings with mode := .drain } } }

/-- Protection enforced by the session lock, with P0 and P1 protected. -/
def locked (s : State) : State :=
  { s with store := { s.store with sessionLock := true, copyA := ⟨.openMode, 2, .low, false⟩ } }

/-- The payload of a PORT_REQUEST. -/
def ask (p power : Nat) : List Byte := byte p :: leBytes 4 power

/-- The result code of the last reply. -/
def lastResult (s : State) : Option Byte := s.link.replies.getLast?.bind (fun e => e.frame.payload.head?)

/-! ## Well-formed commands -/

theorem test_wellFormed_payloads :
    (Instr.setMode 1 (List.replicate 249 0)).wellFormed = false ∧ (Instr.setMode 1 (List.replicate 248 0)).wellFormed = true ∧
      (Instr.measure 1 (List.replicate 249 0)).wellFormed = false ∧
      (Instr.relaySend 1 (List.replicate 249 0)).wellFormed = false := by decide +kernel

theorem test_wellFormed_forms :
    (Instr.relayFetch 1 [0xFF]).wellFormed = false ∧ (Instr.relayFetchAny 1 [3]).wellFormed = false ∧
      (Instr.profileWrite 1 [2, 1]).wellFormed = false ∧ (Instr.profileWriteLive 1 [2, 0]).wellFormed = false ∧
      (Instr.profileProtectModeMap 1 [1]).wellFormed = false ∧ (Instr.profileProtectSession 1 [0, 0, 0, 0, 0]).wellFormed = false ∧
      (Instr.unknownCommand 0x30 1 []).wellFormed = false := by decide +kernel

theorem test_wellFormed_accepts :
    (Instr.relayFetch 1 [7]).wellFormed = true ∧ (Instr.relayFetchAny 1 [0xFF]).wellFormed = true ∧
      (Instr.profileWriteLive 1 [2, 1]).wellFormed = true ∧ (Instr.profileProtectSession 1 [1]).wellFormed = true ∧
      (Instr.unknownCommand 0x7F 1 []).wellFormed = true ∧ Instr.por.wellFormed = true := by decide +kernel

/-- No row of the table has bits, so no word spells a command. -/
theorem test_decode_spells_none : decodeTableWord 8 0x30 = none := rfl

/-! ## Values of the manual -/

/-- 12.4.1, every step of the register. -/
theorem test_crc8_of_a_request :
    crc8 [0x02] = 0x0E ∧ crc8 [0x02, 0x02] = 0x24 ∧ crc8 [0x02, 0x02, 0xE8] = 0x6A ∧
      crc8 [0x02, 0x02, 0xE8, 0x03] = 0x18 ∧ recordChars 0x02 [0xE8, 0x03] = [0x02, 0x02, 0xE8, 0x03, 0x18] := by
  decide +kernel

/-- R172: polynomial 0x1021 and initial value 0xFFFF, worked by hand for one byte of zeros and for none. -/
theorem test_crc16_by_hand : crc16 [] = 0xFFFF ∧ crc16Byte 0 0x01 = 0x1021 ∧ crc16Byte 0 0x80 = 0x9188 := by decide +kernel

/-- Table 2-6: the filter and P_P2 after the switch closes. -/
theorem test_filter_of_table_2_6 :
    let r0 : ChannelRec := { resetChannel 6 with acc := 16384, seeded := true }
    let r1 := r0.complete 2560 (some .g16) true
    let r2 := r1.complete 2560 (some .g16) true
    r1.acc = 16896 ∧ r1.filtered = 200 ∧ 14102 * r1.filtered / 1000 = 2820 ∧ r2.acc = 17344 ∧ r2.filtered = 375 ∧
      14102 * r2.filtered / 1000 = 5288 := by decide +kernel

/-- Table 2-8: the last two rows, the conversion at gain 8 and its completion. -/
theorem test_gain_change_of_table_2_8 :
    let s : State :=
      turnOf 5 ((withCode 5 2560 live).setSample 5 { (withCode 5 2560 live).sample 5 with pendingGain := some .g8 })
    let t := after (.conversionStart 5) s
    (t.sample 5).gain = some .g16 ∧ (t.sample 5).filtered = 1600 ∧
      ((after (.sampleCompletion 5 2304 true) (withCfg 1 (fun c => { c with tripCurrent := 10000 }) t)).sample 5).acc = 18432 ∧
      ((after (.sampleCompletion 5 2304 true) (withCfg 1 (fun c => { c with tripCurrent := 10000 }) t)).sample 5).filtered =
        1600 := by decide +kernel

/-- Tables 4-5, 4-6 and 4-7. -/
theorem test_envelope_of_tables_4_5_to_4_7 :
    envelopeOf (derated ⟨true, 10000, 13200, 11600⟩ 14201) 25000 27146 = 112864 ∧
      envelopeOf (derated ⟨true, 10000, 13200, 11600⟩ 12408) 25000 27146 = 33514 ∧
      envelopeOf (derated ⟨true, 20000, 11000, 10000⟩ 16390) 25000 0 = 250000 ∧
      derated ⟨true, 10000, 13200, 11600⟩ 11902 = 22465 ∧
      envelopeOf (derated ⟨true, 10000, 13200, 11600⟩ 11902) 25000 0 = 0 ∧
      derated ⟨true, 10000, 13200, 11600⟩ 11594 = 0 := by decide +kernel

/-- Section 2.5.3: P_BODY at V_BUS code 1282 and I_BODY code 2202. -/
theorem test_body_power : (withCode 3 1282 (withCode 12 2202 live)).bodyPower = 27146 := by decide +kernel

/-- Table 4-10. -/
theorem test_overdraw_of_table_4_10 : tolerance 12000 = 1500 ∧ regrantPower 14030 = 14250 := by decide +kernel

/-- Table 1-5: SD is LOW at 10,043 mV and UNDER at 8,789 mV, and ABSENT below 6,000 mV. -/
theorem test_grades_of_table_1_5 :
    grade (factorySource .sd) .healthy 11484 = .healthy ∧ grade (factorySource .sd) .healthy 10043 = .low ∧
      grade (factorySource .sd) .low 8789 = .under ∧ grade (factorySource .sd) .under 5995 = .absent := by decide +kernel

/-- Table 1-6: SA at 6,358 mV, 12,078 mV. -/
theorem test_grades_of_table_1_6 :
    grade (factorySource .sa) .absent 6358 = .under ∧ grade (factorySource .sa) .under 12078 = .qualifying := by
  decide +kernel

/-- Table 3-9: the third trip in a row at retry limit 3 opens the switch with RETRY_LIMIT. -/
theorem test_retry_limit_of_table_3_9 :
    let s := withCfg 6 (fun c => { c with retryLimit := 3, tripMode := .retryFast }) live
    let w : SwitchRec := { resetSwitch with state := .cooling (.reclose 1000) .ms5, retry := 2, tripCount := 3, lastFault := .hardTrip }
    let t := after (.hardTrip 6) (s.setSwitch 6 w)
    (t.switch 6).state = .opened ∧ (t.switch 6).retry = 3 ∧ (t.switch 6).tripCount = 4 ∧
      (t.switch 6).lastFault = .retryLimit ∧ t.reportsOf 6 = [.retryLimit] := by decide +kernel

/-- Table 9-6. -/
theorem test_protected_sets_of_table_9_6 :
    allPorts.filter (Protection.protects ⟨.pin, 2, .high, false⟩) = [6, 7] ∧
      allPorts.filter (Protection.protects ⟨.pin, 2, .low, true⟩) = [2, 3, 4, 5, 6, 7] ∧
      allPorts.filter (Protection.protects ⟨.pin, 3, .high, true⟩) = [0, 1, 2, 3, 4] ∧
      allPorts.filter (Protection.protects ⟨.pin, 0, .low, true⟩) = allPorts ∧
      allPorts.filter (Protection.protects ⟨.pin, 8, .high, true⟩) = [] := by decide +kernel

/-- R124: a line character sampled sixteen times a bit gives one valid start and its eleven bits' votes; R125: a break is
22 low bit times. -/
theorem test_sampling_of_a_character :
    sampleRun Sampler.lineSample (charSamples 0xA5 true) .idle =
      [.validStart, .character ((cleanData 0xA5).toList ++ [cleanVote true, cleanVote true])] := by decide +kernel

theorem test_sampling_of_a_break :
    SampleEvent.breakSeen ∈ sampleRun Sampler.lineSample (List.replicate 352 false) .idle ∧
      SampleEvent.breakSeen ∉ sampleRun Sampler.lineSample (List.replicate 351 false) .idle := by decide +kernel

/-- R169: a character of the control link, sampled sixteen times a bit; a vote that disagrees marks it as noisy. -/
theorem test_sampling_of_a_link_character :
    sampleRun Sampler.linkSample ((linkCharBits 0x5A).flatMap bitSamples) .idle =
        [.validStart, .character ((cleanData 0x5A).toList ++ [cleanVote true])] ∧
      linkNoise (cleanLinkChar 0x5A) = false ∧
      linkNoise { cleanLinkChar 0x5A with data := (cleanData 0x5A).set 3 ⟨true, false, true⟩ } = true := by decide +kernel

/-- R123, R169: the bits of 0xA6 on AL and on LTX. LTX is high after the frame and when nothing is sent. -/
theorem test_bits_on_al_and_ltx :
    lineCharBits true 0xA6 = [false, false, true, true, false, false, true, false, true, true, true] ∧
      linkCharBits 0xA6 = [false, false, true, true, false, false, true, false, true, true] ∧
      (let l : Link := { resetLink with sending := some ⟨[0xA6], none, false⟩ }
       l.ltx 0 = false ∧ l.ltx 2 = true ∧ l.ltx 7 = false ∧ l.ltx 9 = true ∧ l.ltx 10 = true) ∧
      resetLink.ltx 0 = true := by decide +kernel

/-- R3, R42, R43: the comparator thresholds. -/
theorem test_comparator_levels :
    overvoltageLevel false 19800 = true ∧ overvoltageLevel false 19799 = false ∧ overvoltageLevel true 19300 = true ∧
      overvoltageLevel true 19299 = false ∧ tripComparator 2000 2000 = true ∧ hardComparator 2000 3999 = false ∧
      hardComparator 2000 4000 = true := by decide +kernel

/-- R113: the first INIT of a part never written ends in RUN with the rails on. -/
theorem test_first_init_ends_in_run :
    (after .loadingComplete State.reset).mode = .run ∧ (after .loadingComplete State.reset).rails = true := by
  decide +kernel

/-- R69: an admitted request is answered OK, at STARTING. -/
theorem test_request_is_admitted :
    let t := after (.portRequest 1 (ask 0 12000)) live
    lastResult t = some 0x00 ∧ t.alloc 0 = .starting ∧ (t.port 0).grant = 12000 ∧ (t.switch 0).state = .ramping .ms4 0 := by
  decide +kernel

/-- R69: a request above the cap of 30,000 mW is cut, with OK_CLAMPED. -/
theorem test_request_is_cut :
    let t := after (.portRequest 1 (ask 0 40000)) live
    lastResult t = some 0x01 ∧ (t.port 0).grant = 30000 ∧ (t.port 0).clamped = true := by decide +kernel

/-- R142: a fetch returns the oldest record of its port. -/
theorem test_fetch_takes_the_oldest :
    let s := { live with pool := ⟨[⟨2, [1], false⟩, ⟨6, [9], true⟩, ⟨2, [2], false⟩], Vector.replicate 8 false⟩ }
    let t := after (.relayFetch 1 [2]) s
    t.pool.arrivals = [⟨6, [9], true⟩, ⟨2, [2], false⟩] ∧
      (t.link.replies.map (fun e => e.frame.payload)) = [[0x00, 2, 1, 1, 0, 0, 1, 2]] := by decide +kernel

/-- R162: a pin reset that cuts off a write leaves the slot INVALID. -/
theorem test_reset_cuts_off_a_write :
    let s := { live with store := { live.store with slots := tput live.store.slots 2 ⟨true, [1]⟩, write := some ⟨.slot 2 [7], 1, false⟩ } }
    (tget (after .pinReset s).store.slots 2) = ⟨false, []⟩ ∧ (after .pinReset s).store.write = none := by decide +kernel

/-! ## Witnesses: the step, resets and INIT -/

theorem test_witness_IdleStepMovesOnlyTimers :
    (live.pending = [] ∧ live.resetHeld = false) ∧ ((after .por live).pending = [] ∧ (after .por live).resetHeld = true) := by
  decide +kernel

theorem test_witness_HardResetReturnsEveryBlock :
    ((Instr.por = .por ∧ false = false) ∧ (Instr.pinReset = .pinReset ∧ true = (locked live).store.sessionLock)) ∧
      (after .por (locked live)).store.sessionLock = false ∧ (after .pinReset (locked live)).store.sessionLock = true := by
  decide +kernel

/-- A frame on LTX, with a LINK_SET reply's divisor or the RESET reply's mark. -/
def sending (d : Option LinkDivisor) (r : Bool) (s : State) : State := withLink (fun l => { l with sending := some ⟨[], d, r⟩ }) s

theorem test_witness_FrameEndTakesDivisorOrResets :
    live.link.sending = none ∧ (sending (some .d1) false live).link.sending = some ⟨[], some .d1, false⟩ ∧
      (sending none true live).link.sending = some ⟨[], none, true⟩ ∧
      (after .frameEnd (sending (some .d1) false live)).link.divisor = .d1 ∧
      (after .frameEnd (sending none true live)).mode = .init := by decide +kernel

/-- Slots that hold a cycle of parents P2, P5, P2, a cold start of P2 and one of P6 above its cap, and one of P4 at cap 0. -/
def stored : State :=
  let slot := fun (p : Port) (par : Option Port) (cap cold : Nat) =>
    (⟨true, writePortSlot { factoryPort p with parent := par, cap := cap } cold⟩ : Slot)
  { State.reset with
    store :=
      { factoryStore with
        slots :=
          tput (tput (tput (tput factoryStore.slots 2 (slot 2 (some 5) 30000 9000)) 5 (slot 5 (some 2) 30000 0)) 6
            (slot 6 none 4000 5000)) 4 (slot 4 none 0 700) } }

theorem test_witness_LoadingCompleteEndsInit :
    (stored.mode = .init ∧ stored.resetHeld = false ∧ stored.initByLink = false) ∧
      (let s := after .frameEnd (sending none true live)
       s.mode = .init ∧ s.resetHeld = false ∧ s.initByLink = true ∧ (after .loadingComplete s).mode = .standby) := by
  decide +kernel

theorem test_witness_LoadingCompleteEndsInit_table : AllocationConsistent stored ∧ RailsAndLines stored :=
  ⟨by decide +kernel, by decide +kernel⟩

/-- R108: the first port of the cycle loses its parent. R89: P2 and P6 wait, P4 stays OFF. -/
theorem test_loaded_parents_and_cold_start :
    let t := after .loadingComplete stored
    (t.cfg 2).parent = none ∧ (t.cfg 5).parent = some 2 ∧ t.engine.queue = [2, 6] ∧ (t.port 6).request = 4000 ∧
      (t.port 6).clamped = true ∧ (t.port 2).origin = some .profile ∧ t.alloc 4 = .off ∧ t.sel.active = none ∧
      (t.line 2).tx = .breaking := by decide +kernel

/-! ## Witnesses: the source selector -/

/-- Both plates HEALTHY in DRAIN mode, at two filtered codes. -/
def plates (a b : Nat) : State := drain (withSource .sb .healthy (withCode 0 a (withCode 1 b live)))

/-- R7 step 2: 198 mV keeps SA, 209 mV moves the bus; step 4: equal voltages give SA. -/
theorem test_witness_SelectionFollowsItsMode :
    (live.sel.settings.mode = .priority ∧ selection none live = some .sa ∧ selection none State.reset = none) ∧
      ((plates 1218 1200).sel.settings.mode = .drain ∧ (plates 1218 1200).usable .sd = false ∧
        (plates 1218 1200).usable .sa = true ∧ selection (some .sa) (plates 1218 1200) = some .sa) ∧
      selection (some .sa) (plates 1219 1200) = some .sb ∧ selection none (plates 1200 1200) = some .sa ∧
      selection none (plates 1201 1200) = some .sb ∧
      ((withSource .sd .low (plates 1200 1200)).usable .sd = true ∧
        selection (some .sa) (withSource .sd .low (plates 1200 1200)) = some .sd) ∧
      (withSource .sa .under (plates 1200 1200)).usable .sa = false := by decide +kernel

theorem test_witness_EvaluationHasThreeOutcomes :
    (live.setChangeover (some ⟨.sb, 3000⟩)).sel.changeover.isSome = true ∧
      (live.sel.changeover = none ∧ selection live.sel.active live = live.sel.active) ∧
      (let s := withSource .sd .healthy live
       s.sel.changeover = none ∧ selection s.sel.active s = some .sd ∧ s.sel.active ≠ some .sd) ∧
      (let s := withSource .sa .under live
       s.sel.changeover = none ∧ selection s.sel.active s = none ∧ s.sel.active = some .sa) := by decide +kernel

/-- PLATE B in QUALIFYING at a filtered code, its qualify timer at `n`. -/
def qualifying (n code : Nat) : State :=
  let s := withCode 1 code (withSource .sb .qualifying live)
  s.setSource .sb { s.source .sb with qualify := some n }

theorem test_witness_SourceEventsGradeTheSource :
    (live.sel.loaded = true ∧ (live.source .sa).state ≠ .disabled ∧ (live.source .sa).state ≠ .over) ∧
      State.reset.sel.loaded = false ∧ (withSource .sb .disabled live).source .sb ≠ live.source .sb ∧
      ((withSource .sb .over live).source .sb).state = .over ∧
      (((qualifying 0 1200).source .sb).state = .qualifying ∧ ((qualifying 0 1200).source .sb).qualify = some 0) ∧
      ((after (.qualifyExpiry .sb) (qualifying 0 1200)).source .sb).state = .healthy ∧
      ((after (.qualifyExpiry .sb) (qualifying 0 1199)).source .sb).state = .low ∧
      ((after (.qualifyExpiry .sb) (qualifying 1 1200)).source .sb).state = .qualifying := by
  decide +kernel

/-- A changeover about to end. -/
def ending (x : Source) (s : State) : State := s.setChangeover (some ⟨x, 0⟩)

theorem test_witness_ChangeoverEndConnectsOrContinues :
    (∀ x ∈ allSources, x ∈ live.sel.settings.order) ∧ live.sel.changeover = none ∧
      (after .changeoverEnd (live.setChangeover (some ⟨.sb, 1⟩))).sel.changeover = some ⟨.sb, 1⟩ ∧
      (let s := ending .sb (withSource .sa .under (withSource .sb .healthy (withSwitch 3 (.cooling .due .ms5) live)))
       s.sel.changeover = some ⟨.sb, 0⟩ ∧ s.usable .sb = true ∧ selection (some .sb) s = some .sb ∧
         ((after .changeoverEnd s).switch 3).state = .cooling (.reclose 2000) .ms5) ∧
      (let s := ending .sb (withSource .sb .healthy live)
       s.usable .sb = true ∧ selection (some .sb) s = some .sa ∧ (after .changeoverEnd s).sel.changeover = some ⟨.sa, 3000⟩) ∧
      ((ending .sd live).usable .sd = false ∧ selection none (ending .sd live) = some .sa) ∧
      ((ending .sd (withSource .sa .under live)).usable .sd = false ∧
        selection none (ending .sd (withSource .sa .under live)) = none) := by decide +kernel

/-! ## Witnesses: the sense unit -/

/-- A conversion of channel 4 at a new gain. -/
def converting : State :=
  { live with sense := { live.sense with converting := some ⟨4, some .g8⟩ } }

theorem test_witness_SampleUpdatesItsChannelAndSource :
    live.sense.converting = none ∧ (during 0 live).sense.converting = some ⟨0, none⟩ ∧ (live.sample 0).gain = none ∧
      (live.sample 0).seeded = false ∧ converting.sense.converting = some ⟨4, some .g8⟩ ∧
      ((withCode 4 2560 converting).sample 4).gain ≠ some .g8 ∧
      ((after (.sampleCompletion 4 4095 true) (withCode 4 2560 converting)).sample 4).acc = 32760 ∧
      ((after (.sampleCompletion 0 1364 true) (during 0 (withCode 0 1291 live))).sample 0).acc = 10401 ∧
      (after (.sampleCompletion 5 100 true) (during 0 live)).sense.converting = some ⟨0, none⟩ := by decide +kernel

/-- R25: at the seeding completion of a conversion at gain 8 the gain is chosen again, 16 at 6,350 mA and 8 at 6,400 mA
(Table 2-5). -/
theorem test_gain_is_chosen_again_at_the_seeding_completion :
    (let s := withCfg 0 (fun c => { c with tripCurrent := 6350 }) (withCode 4 2560 converting)
     ((after (.sampleCompletion 4 4095 true) s).sample 4).pendingGain = some .g16) ∧
      (let s := withCfg 0 (fun c => { c with tripCurrent := 6400 }) (withCode 4 2560 converting)
       ((after (.sampleCompletion 4 4095 true) s).sample 4).pendingGain = none) := by decide +kernel

/-- The state of SD after one unseeded sample with a code, from an earlier state. -/
def sdAfter (st : SourceState) (code : Nat) : SourceState :=
  ((after (.sampleCompletion 2 (BitVec.ofNat 12 code) true) (during 2 (withSource .sd st live))).source .sd).state

/-- Table 1-3 at the boundaries of SD's 6,000, 10,000, 10,400, 11,000 and 11,200 mV, in steps of 11 mV. -/
theorem test_grades_at_their_boundaries :
    sdAfter .healthy 545 = .absent ∧ sdAfter .healthy 546 = .under ∧ sdAfter .healthy 909 = .under ∧
      sdAfter .healthy 910 = .low ∧ sdAfter .healthy 999 = .low ∧ sdAfter .healthy 1000 = .healthy ∧
      sdAfter .low 1018 = .low ∧ sdAfter .low 1019 = .healthy ∧ sdAfter .under 945 = .under ∧
      sdAfter .under 946 = .qualifying ∧ sdAfter .absent 910 = .qualifying ∧ sdAfter .qualifying 909 = .under ∧
      sdAfter .over 1200 = .over ∧ sdAfter .disabled 1200 = .disabled := by decide +kernel

/-- R5, R8, R16: a change of grade evaluates and gives a notice; in DRAIN mode a plate's completion evaluates without one. -/
theorem test_witness_SampleUpdatesItsChannelAndSource_evaluates :
    (let t := after (.sampleCompletion 0 500 true) (during 0 live)
     (t.source .sa).state = .absent ∧ t.sel.active = none ∧ t.selEvents = [.noSource]) ∧
      (let t := after (.sampleCompletion 2 1200 true) (during 2 live)
       t.link.notices = [.sourceState .sd .qualifying 13200 (some .sa) false] ∧ t.sel.changeover = none) ∧
      ((plates 1230 1200).sel.settings.mode = .drain ∧
        (after (.sampleCompletion 1 1200 true) (during 1 (plates 1230 1200))).sel.changeover = some ⟨.sb, 3000⟩ ∧
        ((after (.sampleCompletion 1 1200 true) (during 1 (plates 1230 1200))).source .sb).state = .healthy) := by
  decide +kernel

theorem test_witness_ConversionStartsAtPendingGain :
    (live.resetHeld = false ∧ live.sense.converting = none ∧ live.sense.nextChannel = 0) ∧
      (after (.conversionStart 12) (turnOf 12 live)).sense.nextChannel = 0 ∧
      (after (.conversionStart 0) live).sense.nextChannel = 1 ∧
      (after (.conversionStart 0) live).sense.converting.isSome = true ∧ live.sense.nextChannel ≠ 1 ∧
      (after .por live).resetHeld = true := by decide +kernel

theorem test_witness_FilterReachesAConstantCode :
    (let r : ChannelRec := { resetChannel 0 with seeded := true, acc := 32767 }
     r.seeded = true ∧ r.acc ≤ 32767 ∧ r.acc / 8 ≠ 0) ∧
      (let r : ChannelRec := { resetChannel 0 with seeded := true, acc := 0 }
       r.seeded = true ∧ r.acc ≤ 8 * (4095#12).toNat) := by decide +kernel

/-! ## Witnesses: the switches -/

theorem test_witness_PowerGoodClosesTheSwitch :
    ((withSwitch 0 (.ramping .ms4 0) live).switch 0).state = .ramping .ms4 0 ∧
      ((withSwitch 0 (.paused .ms4 7) live).switch 0).state = .paused .ms4 7 ∧
      ((withSwitch 0 (.cooling (.reclose 2000) .ms5) live).switch 0).state = .cooling (.reclose 2000) .ms5 ∧
      (live.switch 0).state.code = 0 ∧ ((withSwitch 0 (.closed 0) live).switch 0).state.code = 3 ∧
      ((withSwitch 0 (.cooling (.wait 1) .ms5) live).switch 0).state = .cooling (.wait 1) .ms5 ∧
      ((withSwitch 0 (.cooling .due .ms5) live).switch 0).state = .cooling .due .ms5 := by decide +kernel

/-- A switch with a retry counter and a filter count at the width; the factory retry limit is 4, the width 16 µs. -/
def retried (n : Nat) (x : SwitchState) : State :=
  live.setSwitch 0 { resetSwitch with state := x, retry := n, armed := true, tripLevel := true, filter := some 16 }

theorem test_witness_SwitchTimersRunOut :
    ((retried 0 (.ramping .ms64 128000)).switch 0).state = .ramping .ms64 128000 ∧
      ((after (.startTimeout 0) (retried 0 (.ramping .ms64 128000))).switch 0).state = .opened ∧
      ((after (.startTimeout 0) (retried 0 (.ramping .ms64 127999))).switch 0).state = .ramping .ms64 127999 ∧
      ((retried 0 .opened).switch 0).state.code ≠ 1 ∧
      ((after (.coolingExpiry 0) (retried 1 (.cooling (.wait 1) .ms5))).switch 0).state = .cooling (.wait 1) .ms5 ∧
      ((after (.recloseTimeout 0) (retried 1 (.cooling (.reclose 1) .ms5))).switch 0).retry = 1 ∧
      ((retried 1 (.cooling (.wait 0) .ms5)).switch 0).state = .cooling (.wait 0) .ms5 ∧
      (((retried 2 (.cooling (.reclose 0) .ms5)).switch 0).state = .cooling (.reclose 0) .ms5 ∧
        ((retried 2 (.cooling (.reclose 0) .ms5)).switch 0).retry + 1 < ((retried 2 .opened).cfg 0).retryLimit) ∧
      (∀ n ∈ [3, 4],
        ((retried n .opened).cfg 0).retryLimit ≤ ((retried n (.cooling (.reclose 0) .ms100)).switch 0).retry + 1 ∧
          ((after (.recloseTimeout 0) (retried n (.cooling (.reclose 0) .ms100))).switch 0).retry = 4) ∧
      ((retried 3 (.closed 999999)).switch 0).state = .closed 999999 ∧
      ((after (.cleanRun 0) (retried 3 (.closed 999999))).switch 0).retry = 3 ∧
      ((after (.cleanRun 0) (retried 3 (.closed 1000000))).switch 0).retry = 0 ∧
      ((retried 0 .opened).switch 0).state.code ≠ 3 := by decide +kernel

/-- The same with a trip mode. -/
def inTripMode (m : TripMode) (n : Nat) (x : SwitchState) : State := withCfg 0 (fun c => { c with tripMode := m }) (retried n x)

theorem test_witness_TripsFollowTheTripMode :
    ((retried 0 (.ramping .ms4 0)).switch 0).state = .ramping .ms4 0 ∧
      ((retried 0 (.paused .ms4 0)).switch 0).state = .paused .ms4 0 ∧
      (∀ m ∈ [TripMode.report, .latch, .retryFast, .retrySlow], ∀ n ∈ [2, 3, 4],
        ((inTripMode m n (.closed 0)).switch 0).state = .closed 0 ∧ ((inTripMode m n (.closed 0)).cfg 0).tripMode = m ∧
          ((inTripMode m n (.closed 0)).switch 0).armed = true ∧
          ((inTripMode m n (.closed 0)).switch 0).filter = some 16 ∧
          ((inTripMode m n (.closed 0)).cfg 0).tripFilter.micros ≤ 16 ∧
          (((inTripMode m n (.closed 0)).switch 0).retry + 1 < ((inTripMode m n (.closed 0)).cfg 0).retryLimit ↔ n = 2)) ∧
      (∀ n ∈ [2, 3], ((retried n (.cooling (.reclose 1) .ms5)).switch 0).state = .cooling (.reclose 1) .ms5) ∧
      ((retried 0 .opened).switch 0).state = .opened ∧
      ((retried 0 (.cooling (.wait 1) .ms5)).switch 0).state = .cooling (.wait 1) .ms5 ∧
      ((retried 0 (.cooling .due .ms5)).switch 0).state = .cooling .due .ms5 := by decide +kernel

/-- R42, R53: FILTERED_TRIP after a PORT_CONFIGURE of the same moment that has restarted the count (15 µs stand for it) or
made the filter wider trips nothing; at the width it trips. -/
theorem test_filtered_trip_needs_the_width :
    let s := inTripMode .latch 0 (.closed 9)
    let short := s.setSwitch 0 { s.switch 0 with filter := some 15 }
    after (.filteredTrip 0) short = short ∧
      (let wide := withCfg 0 (fun c => { c with tripFilter := .us64 }) s
       after (.filteredTrip 0) wide = wide) ∧
      ((after (.filteredTrip 0) s).switch 0).state = .opened ∧
      (let disarmed := s.setSwitch 0 { s.switch 0 with armed := false, filter := none }
       after (.filteredTrip 0) disarmed = disarmed) := by decide +kernel

/-- R43, R45, R46: a hard trip by trip mode, with one retry left. -/
theorem test_hard_trip_by_mode :
    ((after (.hardTrip 0) (inTripMode .latch 0 (.closed 9))).switch 0).state = .opened ∧
      ((after (.hardTrip 0) (inTripMode .retrySlow 2 (.closed 9))).switch 0).state = .cooling (.wait 100000) .ms100 ∧
      ((after (.filteredTrip 0) (inTripMode .report 0 (.closed 9))).switch 0).state = .closed 0 ∧
      ((after (.filteredTrip 0) (inTripMode .retryFast 3 (.closed 9))).switch 0).lastFault = .retryLimit := by
  decide +kernel

/-! ## Witnesses: events of the allocation engine -/

/-- P2 HELD in a changeover, its switch PAUSED; `good` says that it already shows power good. SA stands at 14,201 mV. -/
def heldPort (good : Bool) : State :=
  let s := withCode 0 1291 (withAlloc 2 .held (withStarting 2 5000 live))
  { s.setSwitch 2 { resetSwitch with state := .paused .ms4 7, powerGood := good } with
    selEvents := [.changeoverEnd], engine := { s.engine with held := true } }

theorem test_witness_HeldFollowsTheChangeover :
    (let s : State := { withStarting 2 5000 live with selEvents := [.changeoverBegin] }
     s.mode ≠ .init ∧ s.resetHeld = false ∧ s.selEvents = .changeoverBegin :: [] ∧ s.engine.held = false ∧
       s.alloc 2 = .starting ∧ (after .changeoverBeginEvent s).alloc 2 = .held) ∧
      ((heldPort false).mode ≠ .init ∧ (heldPort false).resetHeld = false ∧
        (heldPort false).selEvents = .changeoverEnd :: [] ∧ (heldPort false).alloc 2 = .held) ∧
      (after .changeoverEndEvent (heldPort false)).alloc 2 = .starting ∧
      ((after .changeoverEndEvent (heldPort false)).switch 2).state = .ramping .ms4 7 ∧
      ((after .changeoverEndEvent (heldPort true)).switch 2).state = .closed 0 ∧
      (after .changeoverEndEvent (heldPort true)).reportsOf 2 = [.startComplete] ∧
      (after .changeoverEndEvent (withCode 0 1000 (heldPort true))).alloc 2 = .shed := by decide +kernel

theorem test_witness_HeldFollowsTheChangeover_table :
    AllocationConsistent (heldPort false) ∧ EnvelopeRespected (heldPort false) :=
  ⟨by decide +kernel, by decide +kernel⟩

/-- P0 ON, P1 STARTING, P2 WAITING. -/
def busy : State := withWaiting 2 90000 (withStarting 1 4000 (withOn 0 5000 live))

/-- P3 ON with a request of 0 mW beside them, after its cap has been cut. -/
def losing : State :=
  { withOn 3 0 (withCfg 3 (fun c => { c with cap := 0 }) busy) with selEvents := [.noSource] }

theorem test_witness_NoSourceShedsEveryGrantedPort :
    losing.mode ≠ .init ∧ losing.resetHeld = false ∧ losing.selEvents = .noSource :: [] ∧ 0 ∈ losing.engine.granted ∧
      3 ∈ losing.engine.granted ∧ (losing.port 3).request = 0 ∧ 2 ∉ losing.engine.granted ∧
      (after .noSourceEvent losing).engine.queue = [0, 1, 2] ∧ (after .noSourceEvent losing).alloc 3 = .off := by
  decide +kernel

theorem test_witness_NoSourceShedsEveryGrantedPort_table : AllocationConsistent losing := by decide +kernel

/-- P0 in SHEDDING, at the end of its grace. -/
def shedding (held : Bool) : State :=
  ((withOn 0 5000 live).mapPort 0 (fun r => { r with alloc := .shedding, reason := some .envelope, grace := some 0 })).mapEngine
    (fun e => { e with held := held })

/-- P0 ON with a grace, P3 and P4 its children ON, P4 without a grace, P5 a child of P3 in SHEDDING. -/
def family : State :=
  let c := fun (q : Port) (p : Port) (grace : Nat) =>
    withCfg q (fun c => { c with parent := some p, shedGrace := grace })
  ((withOn 5 1000 (withOn 4 2000 (withOn 3 6000 (withOn 0 5000 (c 5 3 500 (c 4 0 0 (c 3 0 500 live))))))).mapPort 5
    (fun r => { r with alloc := .shedding, reason := some .overdraw, grace := some 9 }))

theorem test_witness_ShedOrderAndEngineTimers :
    ((shedding true).alloc 0 = .shedding ∧ 0 ∉ (shedding true).engine.queue ∧ (shedding true).engine.held = true ∧
        ((shedding true).port 0).reason.isSome = true ∧ ((shedding true).port 0).request ≠ 0) ∧
      ((after (.graceExpiry 0) (shedding true)).alloc 0 = .shed ∧
        (after (.graceExpiry 0) (shedding false)).alloc 0 = .starting) ∧
      ((after (.graceExpiry 0) ((shedding false).mapPort 0 (fun r => { r with request := 0 }))).alloc 0 = .off) ∧
      ((shedding true).port 0).grace = some 0 ∧ live.alloc 0 ≠ .shedding ∧ live.engine.restoreHold = none ∧
      (after .restoreHoldExpiry (live.mapEngine (fun e => { e with restoreHold := some 0 }))).engine.restoreHold = none ∧
      (after .restoreHoldExpiry (startHold live)).engine.restoreHold = some 2000000 := by decide +kernel

theorem test_witness_ShedOrderAndEngineTimers_table : TableConsistent family ∧ TableConsistent busy :=
  ⟨by decide +kernel, by decide +kernel⟩

/-- R91, R105, R106: in grace each child goes by its own; without one all leave, P5 with its own reason. -/
theorem test_shed_order_and_children :
    (let t := shed .envelope 0 family
     t.alloc 0 = .shedding ∧ t.alloc 3 = .shedding ∧ (t.port 3).reason = some .dependency ∧ t.alloc 4 = .shed ∧
       (t.port 5).grace = some 9 ∧ t.alloc 5 = .shedding) ∧
      (let t := shed .envelope 0 (withCfg 0 (fun c => { c with shedGrace := 0 }) family)
       t.alloc 0 = .shed ∧ t.alloc 3 = .shed ∧ (t.port 3).reason = some .dependency ∧
         (t.port 5).reason = some .overdraw ∧ t.engine.granted = []) ∧
      ((shed .mode 5 family).port 5).reason = some .mode ∧ shed .preempted 5 family = family ∧
      (shed .envelope 1 busy).alloc 1 = .shed ∧ shed .envelope 2 busy = busy := by decide +kernel

theorem test_witness_StartCompleteTurnsThePortOn :
    (let s := withReport 1 .startComplete (withSwitch 1 (.closed 0) (withStarting 1 4000 live))
     s.reportsOf 1 = .startComplete :: [] ∧ (s.switch 1).state.code = 3 ∧ s.alloc 1 = .starting ∧
       (after (.startComplete 1) s).alloc 1 = .on ∧ (after (.startComplete 1) s).engine.slot0 = none) ∧
      ((withSwitch 1 (.cooling .due .ms5) live).switch 1).state.code = 4 ∧ (withAlloc 1 .held live).alloc 1 = .held ∧
      ((withReport 1 .startComplete live).reportsOf 1 = .startComplete :: [] ∧ (live.switch 1).state.code < 3) ∧
      ((withReport 1 (.startFail .timeout) live).reportsOf 1 = .startFail .timeout :: [] ∧ (live.alloc 1).slotted = false) ∧
      ((withReport 1 (.trip .trip .opened) live).reportsOf 1 = .trip .trip .opened :: [] ∧ (live.alloc 1).granted = false) ∧
      ((withReport 1 (.trip .trip .cooling) live).reportsOf 1 = .trip .trip .cooling :: [] ∧ TripOutcome.cooling ≠ .opened) ∧
      (withReport 1 .retryLimit live).reportsOf 1 = .retryLimit :: [] := by decide +kernel

/-- P0 ON with its switch OPEN, P3 its child ON. -/
def tripped (r : Report) : State :=
  withReport 0 r (withSwitch 0 .opened (withOn 3 6000 (withOn 0 5000 (withCfg 3 (fun c => { c with parent := some 0 }) live))))

theorem test_witness_SwitchFaultSendsThePortToFaulted_start :
    let s := withReport 1 (.startFail .timeout) (withSwitch 1 .opened (withStarting 1 4000 live))
    (s.switch 1).state = .opened ∧ s.reportsOf 1 = .startFail .timeout :: [] ∧
      (s.alloc 1).slotted = true ∧ (after (.startFail 1) s).alloc 1 = .faulted := by decide +kernel

theorem test_witness_SwitchFaultSendsThePortToFaulted_start_table :
    AllocationConsistent (withReport 1 (.startFail .timeout) (withSwitch 1 .opened (withStarting 1 4000 live))) := by
  decide +kernel

theorem test_witness_SwitchFaultSendsThePortToFaulted_trip :
    let s := tripped (.trip .hardTrip .opened)
    (s.switch 0).state = .opened ∧ s.reportsOf 0 = .trip .hardTrip .opened :: [] ∧
      (s.alloc 0).granted = true ∧ 3 ∈ s.engine.granted ∧ (s.cfg 3).parent = some 0 ∧
      (after (.trip 0) s).alloc 0 = .faulted ∧ (after (.trip 0) s).alloc 3 = .shed := by decide +kernel

theorem test_witness_SwitchFaultSendsThePortToFaulted_trip_table :
    AllocationConsistent (tripped (.trip .hardTrip .opened)) := by
  decide +kernel

theorem test_witness_SwitchFaultSendsThePortToFaulted_limit :
    let s := tripped .retryLimit
    (s.switch 0).state = .opened ∧ s.reportsOf 0 = .retryLimit :: [] ∧
      (s.alloc 0).granted = true := by decide +kernel

theorem test_witness_SwitchFaultSendsThePortToFaulted_limit_table :
    AllocationConsistent (tripped .retryLimit) := by
  decide +kernel

/-- A port under the ACCESSORY policy. -/
def byAccessory (p : Port) (s : State) : State := withCfg p (fun c => { c with policy := .accessory }) s

theorem test_witness_AccessoryRecordsReachTheEngine :
    (live.mode ≠ .init ∧ (live.line 0).tx ≠ .off ∧ live.recordsOf 0 = [] ∧ (live.cfg 0).policy = .link) ∧
      (((byAccessory 0 live).cfg 0).policy = .accessory ∧ (byAccessory 0 live).alloc 0 = .off ∧
        (byAccessory 0 live).recordsOf 0 = [] ∧ (1000#16) ≠ 0 ∧
        (after (.request 0 1000) (byAccessory 0 live)).alloc 0 = .starting) ∧
      ((withAlloc 0 .faulted (byAccessory 0 live)).alloc 0 = .faulted) ∧
      ((byAccessory 0 (withOn 0 5000 live)).alloc 0 ≠ .off ∧ (byAccessory 0 (withOn 0 5000 live)).alloc 0 ≠ .faulted ∧
        (after (.request 0 0) (byAccessory 0 (withOn 0 5000 live))).alloc 0 = .off) := by decide +kernel

/-- Two records that P0 has handed over and the engine has not taken. -/
def handedOver (power : BitVec 16) (s : State) : State :=
  s.setRecords 0 [.announce 7 power (Vector.replicate 8 3), .request 2000]

/-- R64, R71: the head of the inbox is taken, the rest stays, and a record that comes while others wait joins the end. -/
theorem test_witness_AccessoryRecordsReachTheEngine_inbox :
    let ident : Vector Byte 8 := Vector.replicate 8 3
    let s := handedOver 0 (byAccessory 0 (withOn 0 5000 live))
    (s.mode ≠ .init ∧ s.recordsOf 0 = [.announce 7 0 ident, .request 2000] ∧ (s.cfg 0).policy = .accessory ∧
        s.alloc 0 = .on) ∧
      (let t := after (.announce 0 7 0 ident) s
       t.recordsOf 0 = [.request 2000] ∧ t.alloc 0 = .off ∧ (t.port 0).identity = some ⟨7, ident⟩ ∧
         (after (.request 0 2000) t).alloc 0 = .starting ∧ (after (.request 0 2000) t).recordsOf 0 = []) ∧
      (after (.request 0 900) s).recordsOf 0 = [.announce 7 0 ident, .request 2000, .request 900] ∧
      (let off := withLine 0 (fun l => { l with tx := .off }) s
       (off.line 0).tx = .off ∧ (after (.request 0 900) off).recordsOf 0 = off.recordsOf 0) := by decide +kernel

/-- Table 4-10 at its last sample but one: P3 ON at 12,000 mW drawing about 14 W. -/
def overdrawn (count envelope : Nat) (cls : PortClass) : State :=
  withCfg 3 (fun c => { c with cls := cls })
    (withCode 3 1282 (withCode 7 2367 (((withOn 3 12000 live).mapPort 3 (fun r => { r with overdraw := count })).mapEngine
      (fun e => { e with envelope := envelope }))))

theorem test_witness_OverdrawIsCountedAndResolved :
    (let s := during 7 (overdrawn 49 100000 .normal)
     s.sense.converting = some ⟨portChannel 3, some .g16⟩ ∧ s.mode ≠ .init ∧ s.sel.changeover = none ∧ s.alloc 3 = .on ∧
       s.engine.held = false ∧ ((after (.sampleCompletion 7 2367 true) s).port 3).grant = 14250) ∧
      ((after (.sampleCompletion 7 2367 true) (during 7 (overdrawn 48 100000 .normal))).port 3).overdraw = 49 ∧
      ((after (.sampleCompletion 7 2048 true) (during 7 (withCode 7 2048 (overdrawn 48 100000 .normal)))).port 3).overdraw = 0 ∧
      (after (.sampleCompletion 7 2367 true) (during 7 (overdrawn 49 14249 .normal))).alloc 3 = .shedding ∧
      (after (.sampleCompletion 7 2367 true)
        (during 7 (withCfg 3 (fun c => { c with shedGrace := 0 }) (overdrawn 49 14249 .normal)))).alloc 3 = .shed ∧
      ((after (.sampleCompletion 7 2367 true) (during 7 (overdrawn 49 14249 .essential))).port 3).grant = 14250 ∧
      ((overdrawn 49 14249 .essential).cfg 3).parent = none := by decide +kernel

theorem test_witness_OverdrawIsCountedAndResolved_table :
    AllocationConsistent (during 7 (overdrawn 49 100000 .normal)) ∧
      AllocationConsistent (during 7 (overdrawn 49 14249 .normal)) ∧
      AllocationConsistent (during 7 (overdrawn 49 14249 .essential)) :=
  ⟨by decide +kernel, by decide +kernel, by decide +kernel⟩

/-- R83, R77, R106: P3, overdrawn, goes into grace with its STARTING child P5 sent to SHED, whose slot and grant give a pass.
The pass bumps P2, the parent of P3, without grace for P1, and P3 goes with it. -/
def bumpedParent : State :=
  let s := withWaiting 1 30000 ((withStarting 5 1000 (overdrawn 49 40000 .normal)).mapEngine
    (fun e => { e with granted := [2, 3, 5] }))
  withCfg 3 (fun c => { c with parent := some 2, rank := 6, shedGrace := 500 })
    (withCfg 5 (fun c => { c with parent := some 3 })
      (withCfg 1 (fun c => { c with cls := .essential })
        (withCfg 2 (fun c => { c with cls := .normal, rank := 7, shedGrace := 0 })
          ((s.mapPort 2 (fun r => { r with alloc := .on, grant := 26000, request := 26000 })).setSwitch 2
            { resetSwitch with state := .closed 0 }))))

theorem test_witness_OverdrawIsCountedAndResolved_bumped : AllocationConsistent (during 7 bumpedParent) := by
  decide +kernel

theorem test_overdrawn_port_goes_with_its_bumped_parent :
    let t := after (.sampleCompletion 7 2367 true) (during 7 bumpedParent)
    t.alloc 2 = .shed ∧ t.port 3 = shedRecord .overdraw ((during 7 bumpedParent).port 3) ∧
      (t.switch 3).state = .opened ∧ t.alloc 5 = .shed := by decide +kernel

/-- R80: between the end of a changeover and its event held is yes, and overdraw does not count. -/
theorem test_overdraw_waits_while_held :
    ((after (.sampleCompletion 7 2367 true)
      ((during 7 (overdrawn 48 100000 .normal)).mapEngine (fun e => { e with held := true }))).port 3).overdraw = 48 := by
  decide +kernel

theorem test_witness_EnvelopeIsRecomputedAndFollowed :
    let s := withCode 0 1291 (withCode 3 1282 (withCode 12 2202 live))
    (during 12 s).sense.converting = some ⟨12, some .g4⟩ ∧ s.mode ≠ .init ∧ s.sel.changeover = none ∧
      s.engine.held = false ∧ s.selEvents = [] ∧ (s.sel.active = some .sa ∧ (0 : SenseChannel) = sourceChannel .sa) ∧
      (after (.sampleCompletion 12 2202 true) (during 12 s)).engine.envelope = 112864 ∧
      (after (.sampleCompletion 3 1282 true) (during 3 (withCode 0 1128 s))).engine.envelope = 33514 ∧
      (after (.sampleCompletion 0 1291 false) (during 0 s)).engine.envelope = 112864 ∧
      (live.newEnvelope ≤ live.engine.envelope ∧ s.engine.envelope < s.newEnvelope) := by decide +kernel

/-- The family with an envelope. -/
def familyAt (envelope : Nat) : State := family.mapEngine (fun e => { e with envelope := envelope })

/-- R96: with 13,000 mW retained and an envelope of 12,999 mW the lowest key, P4, is the victim; P0 would take all. -/
theorem test_witness_EnvelopeIsRecomputedAndFollowed_check :
    (familyAt 12999).retained = 13000 ∧ (familyAt 12999).engine.envelope < (familyAt 12999).retained ∧
      LowestKeyed (familyAt 12999)
        ((familyAt 12999).engine.granted.filter
          (fun q => (familyAt 12999).alloc q != .shedding && !(familyAt 12999).essential q)) 4 ∧
      (familyAt 12999).engine.granted.Nodup ∧ (shedCheck 8 (familyAt 12999)).alloc 4 = .shed ∧
      (shedCheck 8 (familyAt 12999)).alloc 3 = .on ∧ shedCheck 8 (familyAt 13000) = familyAt 13000 := by decide +kernel

/-- P0, P3 and P4 shed by the envelope, P3 and P4 as children of P0; P6 shed by the envelope after them. -/
def shrunk (envelope : Nat) : State :=
  let g := fun (p : Port) (why : ShedReason) (s : State) =>
    s.mapPort p (fun r => { r with alloc := .shedding, reason := some why, grace := some 9 })
  g 6 .envelope (g 4 .dependency (g 3 .dependency (g 0 .envelope
    (withOn 6 4000 (withOn 4 2000 (withOn 3 6000 (withOn 0 5000 (withCfg 4 (fun c => { c with parent := some 0 })
      (withCfg 3 (fun c => { c with parent := some 0 }) (live.mapEngine (fun e => { e with envelope := envelope })))))))))))

theorem test_witness_EnvelopeIsRecomputedAndFollowed_walk :
    TableConsistent (shrunk 13000) ∧ MayReturn (shrunk 13000) 0 ∧ MayReturn (shrunk 13000) 6 ∧
      GoesBefore (shrunk 13000) 0 6 :=
  ⟨by decide +kernel, by decide +kernel, by decide +kernel, by decide +kernel⟩

/-- R99, R100: at 13,000 mW the group of P0 returns and P6 does not; at 12,999 mW the walk stops at once; at 17,000 mW all
return. -/
theorem test_cancellation_of_groups :
    (shrunk 13000).group 0 = [0, 3, 4] ∧ (shrunk 13000).cancelOrder = [0, 6] ∧
      (let t := cancelWalk (shrunk 13000).cancelOrder (shrunk 13000)
       t.alloc 0 = .on ∧ t.alloc 3 = .on ∧ t.alloc 4 = .on ∧ t.alloc 6 = .shedding) ∧
      cancelWalk (shrunk 12999).cancelOrder (shrunk 12999) = shrunk 12999 ∧
      (cancelWalk (shrunk 17000).cancelOrder (shrunk 17000)).alloc 6 = .on := by decide +kernel

theorem test_witness_HandlingEndsInOrder :
    (let s := withOn 0 5000 live
     s.link.mask.getLsbD 0 = true ∧ ((finish live s).port 0).changedFrom (live.port 0) = true ∧ s.engine.opportunity = false) ∧
      (opportunity live).engine.opportunity = true ∧ (opportunity live).engine.held = false ∧
      (finish live { live with mode := .standby }).mode = .standby ∧
      (finish live { live with mode := .standby }).engine.granted = [] ∧ (shedding true).engine.held = true := by
  decide +kernel

/-- Table 4-9: P6 (DEFERRABLE 3) at 15,000 mW and P2 (NORMAL 4) at 10,000 mW are ON, P3 (NORMAL 1) waits for 20,000 mW. -/
def table49 (envelope : Nat) : State :=
  let c := fun (p : Port) (k : PortClass) (r : Nat) => withCfg p (fun c => { c with cls := k, rank := r })
  withWaiting 3 20000 (withOn 2 10000 (withOn 6 15000
    (c 3 .normal 1 (c 2 .normal 4 (c 6 .deferrable 3 (live.mapEngine (fun e => { e with envelope := envelope })))))))

theorem test_witness_HandlingEndsInOrder_pass :
    TableConsistent (table49 40000) ∧ ¬PassSkips (table49 40000) 3 ∧ PassSkips (startHold (table49 40000)) 3 :=
  ⟨by decide +kernel, by decide +kernel, by decide +kernel⟩

/-- R75 to R77 with the values of Table 4-9: at 45,000 mW P3 fits; at 44,999 mW P6, the lowest key, is bumped and P2 is not;
at 19,999 mW no victims make room; with both slots taken, and with P3 skipped, nothing moves. -/
theorem test_pass_of_table_4_9 :
    (table49 40000).engine.queue = [] ++ 3 :: [] ∧ (admissionPass (table49 45000)).alloc 3 = .starting ∧
      (let t := admissionPass (table49 44999)
       t.alloc 3 = .waiting ∧ t.alloc 6 = .shedding ∧ t.alloc 2 = .on) ∧
      LowestKeyed (table49 44999) ((table49 44999).bumpPool 3) 6 ∧ (table49 44999).bumpRoom 3 = [6, 2] ∧
      admissionPass (table49 19999) = table49 19999 ∧
      admissionPass (startHold (table49 45000)) = startHold (table49 45000) := by decide +kernel

/-- R118: a port shed by a change of mode is not held back by the restore hold. -/
theorem test_mode_shed_port_passes_the_hold :
    let s := (startHold (table49 45000)).mapPort 3 (fun r => { r with alloc := .shed, reason := some .mode })
    (admissionPass s).alloc 3 = .starting := by decide +kernel

/-! ## Witnesses: commands -/

theorem test_witness_PortRequestFollowsItsTable_refusals :
    DecoderFree live ∧ (ask 0 0).length = 5 ∧ byteAt (ask 0 0) 0 = (0 : Port).val ∧ fieldAt (ask 0 0) 1 4 = 0 ∧
      lastResult (after (.portRequest 1 (ask 0 0)) live) = some 0x14 ∧
      ((byAccessory 0 live).cfg 0).policy = .accessory ∧
      lastResult (after (.portRequest 1 (ask 0 500)) (byAccessory 0 live)) = some 0x15 ∧
      lastResult (after (.portRequest 1 (ask 0 500)) (withAlloc 0 .faulted live)) = some 0x15 ∧
      lastResult (after (.portRequest 1 (ask 0 500)) (shedding false)) = some 0x10 := by decide +kernel

/-- R70: at a grant of 5,000 mW a request just below, equal, at the last mW that fits, and one above; a request at and
above the cap; a cap of 0 mW. -/
theorem test_witness_PortRequestFollowsItsTable_clauses :
    let s := (withOn 0 5000 live).mapEngine (fun e => { e with envelope := 9000 })
    DecoderFree s ∧ s.alloc 0 = .on ∧ ((after (.portRequest 1 (ask 0 4999)) s).port 0).grant = 4999 ∧
      lastResult (after (.portRequest 1 (ask 0 5000)) s) = some 0x00 ∧
      ((after (.portRequest 1 (ask 0 9000)) s).port 0).grant = 9000 ∧
      lastResult (after (.portRequest 1 (ask 0 9001)) s) = some 0x16 ∧
      (s.alloc 1 = .off ∧ lastResult (after (.portRequest 1 (ask 1 30000)) s) = some 0x02) ∧
      ((withWaiting 2 500 s).alloc 2 = .waiting ∧ lastResult (after (.portRequest 1 (ask 2 500)) (withWaiting 2 500 s)) = some 0x02) ∧
      (lastResult (after (.portRequest 1 (ask 1 500)) (withCfg 1 (fun c => { c with cap := 0 }) s)) = some 0x01) := by
  decide +kernel

theorem test_witness_PortReleaseAndClear :
    let s := tripped (.trip .trip .opened)
    DecoderFree s ∧ ([3#8]).length = 1 ∧ byteAt [3] 0 = (3 : Port).val ∧ s.enforced = false := by
  decide +kernel

theorem test_witness_PortReleaseAndClear_protected :
    let s := locked (tripped (.trip .trip .opened))
    s.enforced = true ∧ s.protectedPort 1 = true ∧ s.protectedPort 2 = false := by decide +kernel

theorem test_witness_PortReleaseAndClear_states :
    let s := tripped (.trip .trip .opened)
    (withAlloc 5 .faulted s).alloc 5 = .faulted ∧ s.alloc 5 = .off := by decide +kernel

theorem test_witness_PortReleaseAndClear_table :
    AllocationConsistent (tripped (.trip .trip .opened)) ∧
      AllocationConsistent (withAlloc 5 .faulted (tripped (.trip .trip .opened))) :=
  ⟨by decide +kernel, by decide +kernel⟩

theorem test_witness_PortReleaseAndClear_granted :
    let s := tripped (.trip .trip .opened)
    s.alloc 0 ≠ .faulted ∧ s.alloc 0 ≠ .off ∧ 0 ∈ s.engine.granted ∧ 3 ∈ s.engine.granted ∧ (s.cfg 3).parent = some 0 := by
  decide +kernel

/-- R72, R54, R166: results of release and clear. -/
theorem test_release_and_clear :
    lastResult (after (.portRelease 1 [1]) (locked live)) = some 0x12 ∧
      lastResult (after (.portRelease 1 [5]) (withAlloc 5 .faulted live)) = some 0x15 ∧
      (after (.portRelease 1 [0]) (withOn 0 5000 live)).alloc 0 = .off ∧
      (after (.portClear 1 [5]) (withAlloc 5 .faulted live)).alloc 5 = .off := by decide +kernel

/-- A SOURCE_CONFIGURE of SB: capacity 10,050, soft floor 9,000 below hard floor 16,000, PRIORITY, SD SA SB, 200 ms. -/
def sourcePayload : List Byte :=
  [1, 1] ++ leBytes 2 10050 ++ leBytes 2 9000 ++ leBytes 2 16000 ++ [0, 2, 0, 1] ++ leBytes 2 200

/-- A PORT_CONFIGURE of P2 with its line off. -/
def portPayload : List Byte :=
  [2, 0, 7, 0] ++ leBytes 4 120000 ++ leBytes 2 4000 ++ [16, 3, 15, 4] ++ leBytes 2 2000 ++ [0xFF, 0, 16]

/-- A PORT_CONFIGURE of P0 with parent P7, trip current 10,000 mA and a retry limit of 1. -/
def childPayload : List Byte :=
  [0, 1, 0, 0] ++ leBytes 4 30000 ++ leBytes 2 10000 ++ [16, 3, 1, 4] ++ leBytes 2 500 ++ [7, 1, 16]

theorem test_witness_ConfigurationCommandsStoreTheirFields :
    (DecoderFree live ∧ sourcePayload.length = 14 ∧ sourceOfCode (byteAt sourcePayload 0) = some .sb ∧
        sourceCodesValid sourcePayload = true ∧ live.enforced = false ∧
        ((after (.sourceConfigure 1 sourcePayload) live).source .sb).config = ⟨true, 10000, 16400, 16000⟩ ∧
        (after (.sourceConfigure 1 sourcePayload) live).sel.settings.order = [.sd, .sa, .sb] ∧
        lastResult (after (.sourceConfigure 1 sourcePayload) live) = some 0x01) ∧
      ((leBytes 4 100001 ++ leBytes 4 20000 ++ leBytes 2 499).length = 10 ∧
        (after (.setEnvelope 1 (leBytes 4 100001 ++ leBytes 4 20000 ++ leBytes 2 499)) live).engine.restoreHoldTime = 500) ∧
      (portPayload.length = 19 ∧ byteAt portPayload 0 = (2 : Port).val ∧ portCodesValid (portPayload.drop 1) = true ∧
        live.parentCloses 2 (readPortFields (factoryPort 2) (portPayload.drop 1)).parent = false ∧
        ((after (.portConfigure 1 portPayload) live).line 2).tx = .off) ∧
      (let p := fun n : Byte => [n] ++ childPayload.drop 1
       DecoderFree (locked live) ∧ (p 7).length = 19 ∧ portCodesValid ((p 7).drop 1) = true ∧
         live.parentCloses 7 (readPortFields (factoryPort 7) ((p 7).drop 1)).parent = true ∧
         lastResult (after (.portConfigure 1 (p 7)) live) = some 0x15 ∧
         lastResult (after (.portConfigure 1 (p 1)) (locked live)) = some 0x12 ∧
         lastResult (after (.portConfigure 1 (p 8)) live) = some 0x14 ∧
         lastResult (after (.setEnvelope 1 (List.replicate 10 0)) (locked live)) = some 0x12 ∧
         lastResult (after (.sourceConfigure 1 sourcePayload) (locked live)) = some 0x12 ∧
         lastResult (after (.sourceConfigure 1 (3 :: sourcePayload.drop 1)) live) = some 0x14) := by decide +kernel

/-- R107, R53, R25: P0 is ON and its new parent is OFF. -/
theorem test_witness_ConfigurationCommandsStoreTheirFields_parent :
    let s := (withOn 0 5000 live).setSwitch 0 { resetSwitch with state := .closed 0, armed := true, retry := 3 }
    (DecoderFree s ∧ childPayload.length = 19 ∧ byteAt childPayload 0 = (0 : Port).val ∧
        portCodesValid (childPayload.drop 1) = true ∧ s.enforced = false ∧
        s.parentCloses 0 (readPortFields (factoryPort 0) (childPayload.drop 1)).parent = false ∧
        (s.switch 0).filter = none ∧ s.sense.converting = none ∧ 0 ∈ s.engine.granted ∧ (s.cfg 0).parent = none ∧
        s.alloc 7 = .off) ∧
      (let t := after (.portConfigure 1 childPayload) s
       (t.cfg 0).parent = some 7 ∧ t.alloc 0 = .shed ∧ (t.switch 0).retry = 0 ∧
         (t.sample 4).pendingGain = some .g8) ∧
      (let u := { s with sense := { s.sense with converting := some ⟨4, some .g8⟩ } }
       (u.sample (portChannel 0)).gain = some .g16 ∧
         ((after (.portConfigure 1 childPayload) u).sample 4).pendingGain = none) := by decide +kernel

/-- R53: a filter count of 20 µs in CLOSED reaches a new width of 4 µs, and not one of 64 µs. -/
theorem test_witness_ConfigurationCommandsStoreTheirFields_filter :
    let s := live.setSwitch 0 { resetSwitch with state := .closed 7, armed := true, filter := some 20, tripLevel := true }
    ((reconfigureSwitch 0 { s.cfg 0 with tripFilter := .us64 } (withCfg 0 (fun c => { c with tripFilter := .us4 }) s)).switch
        0).lastFault = .trip ∧
      ((reconfigureSwitch 0 (s.cfg 0) (withCfg 0 (fun c => { c with tripFilter := .us64 }) s)).switch 0).filter = some 20 ∧
      ((reconfigureSwitch 0 (s.cfg 0) (withCfg 0 (fun c => { c with tripCurrent := 200 }) s)).switch 0).filter = some 0 := by
  decide +kernel

theorem test_witness_SetModeShedsAndPowers_table : AllocationConsistent (withOn 0 5000 live) := by decide +kernel

theorem test_witness_SetModeShedsAndPowers :
    (DecoderFree live ∧ ([2#8]).length = 1 ∧ targetModeOfCode (byteAt [2] 0) = some .run ∧ live.mode = .run) ∧
      ((locked (withOn 0 5000 live)).enforced = true ∧
        ((locked (withOn 0 5000 live)).modeTested .standby).any (locked (withOn 0 5000 live)).protectedPort = true ∧
        lastResult (after (.setMode 1 [1]) (locked (withOn 0 5000 live))) = some 0x12) ∧
      (Mode.standby ≠ live.mode ∧ (withOn 0 5000 live).enforced = false ∧
        0 ∈ (withOn 0 5000 live).engine.granted ∧ (withOn 0 5000 live).essential 0 = false ∧
        (after (.setMode 1 [1]) (withOn 0 5000 live)).alloc 0 = .shedding ∧ (after (.setMode 1 [1]) live).rails = false ∧
        (after (.setMode 1 [3]) (withOn 0 5000 live)).mode = .economy) := by decide +kernel

/-! ## Witnesses: the lines -/

theorem test_witness_LineEventsMoveTheLineAlone :
    ((live.line 0).rx ≠ .off ∧ (live.line 0).tx ≠ .sending ∧ (live.line 0).tx ≠ .breaking) ∧
      ((State.reset.line 0).rx = .off ∧ (State.reset.line 0).gap = none ∧ (State.reset.line 0).pendingRate = none) ∧
      ((withLine 0 (fun l => { l with rx := .record ⟨1, none, [], false⟩, gap := some 0 }) live).line 0).gap = some 0 ∧
      (let l := (withLine 0 (fun l => { l with pendingRate := some .d8, tx := .backoff, backoff := some 5 }) live).line 0
       l.pendingRate = some .d8 ∧ l.rx = .hunt ∧ l.charInProgress = false ∧ l.tx ≠ .sending ∧ l.tx ≠ .breaking ∧
         l.tx = .backoff ∧ l.backoff.isSome = true) ∧
      ((withLine 7 (fun l => { l with tx := .backoff, idle := 13749 }) live).line 7).backoff = none ∧
      ((after (.backoffStart 7) (withLine 7 (fun l => { l with tx := .backoff, idle := 13749 }) live)).line 7).backoff = none ∧
      ((after (.backoffStart 7) (withLine 7 (fun l => { l with tx := .backoff, idle := 13750 }) live)).line 7).backoff =
        some (18 * 6875) ∧
      (let s := withLine 0 (fun l => { l.driveBreak with breakRemaining := some 0 }) live
       (s.line 0).tx = .breaking ∧ (s.line 0).breakRemaining = some 0 ∧ ((after (.breakEnd 0) s).line 0).tx = .idle ∧
         ((after (.breakEnd 0) s).line 0).idle = 0) ∧
      ((after (.breakEnd 0) (withLine 0 (fun l => l.driveBreak) live)).line 0).tx = .breaking ∧
      ((after (.backoffExpiry 0) (withLine 0 (fun l => { l with tx := .backoff, backoff := some 0 }) live)).line 0).tx = .idle ∧
      ((live.line 0).tx ≠ .breaking ∧ (live.line 0).tx ≠ .backoff) := by decide +kernel

/-- A send of channel 1 that waits at P3. -/
def waitingSend (targets : List Port) : Send := ⟨0x21, targets, [9], 3, .waiting 500000, [], false⟩

/-- Channel 1 in SENDING at P3, in the wait list of P3. -/
def sendingAt (targets : List Port) (s : State) : State :=
  withLine 3 (fun l => { l with waitList := [1] }) ((withLink (fun l => { l with reserved := 1 }) s).setChannel 1 (some (waitingSend targets)))

/-- The same at the end of its wait. -/
def timedOut (targets : List Port) : State :=
  (sendingAt targets live).setChannel 1 (some { waitingSend targets with stage := .waiting 0 })

/-- A line that has been idle for a time. -/
def idleFor (n : Nat) (s : State) : State := withLine 3 (fun l => { l with idle := n }) s

/-- A STATE record. -/
def aRecord : StateRecord := ⟨.on, 5000, 0⟩

theorem test_witness_RecordStartChoosesTheItem :
    let s := idleFor 13750 live
    ((s.line 3).tx = .idle ∧ (s.line 3).rx = .hunt ∧ (s.line 3).charInProgress = false ∧ 13750 ≤ (s.line 3).idle ∧
        (s.line 3).current = none ∧ (s.line 3).pendingInternal = none ∧ (s.line 3).setAside = none ∧
        (s.line 3).waitList = []) ∧
      ((withLine 3 (fun l => { l with current := some (.internal aRecord) }) s).line 3).current = some (.internal aRecord) ∧
      (let l := (withLine 3 (fun l => { l with current := some (.channel 1), pendingInternal := some aRecord }) s).line 3
       l.current = some (.channel 1) ∧ l.pendingInternal = some aRecord) ∧
      ((withLine 3 (fun l => { l with current := some (.channel 1) }) s).line 3).pendingInternal = none ∧
      ((withLine 3 (fun l => { l with setAside := some ⟨1, 3⟩ }) s).line 3).setAside = some ⟨1, 3⟩ ∧
      (((sendingAt [3] s).line 3).waitList = 1 :: [] ∧ (sendingAt [3] s).channel 1 = some (waitingSend [3]) ∧
        ((after (.recordStart 3) (sendingAt [3] s)).line 3).record = recordChars 0x13 [9]) ∧
      ((after (.recordStart 3) (sendingAt [3] (idleFor 13749 live))).line 3).tx = .idle ∧
      (State.reset.line 3).tx ≠ .idle := by decide +kernel

/-- R123, R130: the bits on AL of a record being sent. -/
theorem test_witness_RecordStartChoosesTheItem_bits :
    let l := (withLine 3 (fun l => { l with tx := .sending, record := [0x11, 0x82] }) live).line 3
    l.tx = .sending ∧ l.record[1]? = some 0x82 ∧ l.released 0 = false ∧ l.released 9 = true ∧ l.released 12 = false ∧
      l.released 13 = true ∧ l.released 20 = false ∧ l.released 21 = true ∧ l.released 22 = true ∧
      l.driveBreak.released 5 = false := by decide +kernel

theorem test_witness_AttemptsEndInDeliveryOrCollision :
    let s := withLine 3 (fun l => { l with tx := .sending, current := some (.internal aRecord), collisions := 3 }) live
    let c := withLine 3 (fun l => { l with tx := .sending, current := some (.channel 1), waitList := [], collisions := 2 })
      (sendingAt [3] live)
    ((s.line 3).tx = .sending ∧ (s.line 3).current = some (.internal aRecord) ∧ (s.line 3).collisions + 1 = 4) ∧
      ((c.line 3).tx = .sending ∧ (c.line 3).current = some (.channel 1) ∧ (c.line 3).collisions + 1 ≠ 4) ∧
      ((after (.collision 3) s).line 3).lastEvent = .collisionFail ∧ ((after (.collision 3) c).line 3).tx = .backoff ∧
      (after (.recordSent 3) c).channel 1 = none := by decide +kernel

theorem test_witness_CleanRecordsAreReceivedWhole :
    ((live.line 0).rx = .hunt ∧ (live.line 0).tx = .idle) ∧
      ((withLine 0 (fun l => { l with tx := .backoff }) live).line 0).tx = .backoff ∧
      ((after (.lineValidStart 0) live).line 0).charInProgress = true ∧
      (List.replicate 60 (0 : Byte)).length ≤ 60 := by decide +kernel

/-- P0's receiver in a state, with a character in progress. -/
def receiving (rx : LineRx) : State := withLine 0 (fun l => { l with rx := rx, charInProgress := true }) live

/-- P0's line after a clean character. -/
def heardBy (rx : LineRx) (d : Byte) (mark : Bool) : LineRec :=
  (after (.characterReceived 0 (cleanChar d mark)) (receiving rx)).line 0

/-- R126, R127, R129 at the limits: a length of 60 and of 61, the last byte of a body, a good and a bad check (the values of
12.4.1), an unknown kind, and a mark within a record. -/
theorem test_witness_CleanRecordsAreReceivedWhole_characters :
    (∀ k : Fin 8, (0xE8#8).getLsbD k.val = voteLevel ((cleanChar 0xE8 false).data.get k)) ∧
      (let l := (receiving (.record ⟨2, some 2, [0xE8, 0x03], false⟩)).line 0
       l.rx ≠ .off ∧ l.tx ≠ .sending ∧ l.tx ≠ .breaking ∧ l.charInProgress = true) ∧
      crc8 [2, 2, 0xE8, 0x03] = 0x18 ∧ [(0xE8#8), 0x03] = leBytes 2 (1000#16).toNat ∧
      (heardBy (.record ⟨3, none, [], false⟩) 60 false).rx = .record ⟨3, some 60, [], false⟩ ∧
      (heardBy (.record ⟨3, none, [], false⟩) 61 false).lastEvent = .framing ∧
      (heardBy (.record ⟨2, some 2, [0xE8], false⟩) 0x03 false).rx = .record ⟨2, some 2, [0xE8, 0x03], false⟩ ∧
      (heardBy (.record ⟨2, some 2, [0xE8, 0x03], false⟩) 0x19 false).lastEvent = .badCheck ∧
      (heardBy (.record ⟨4, some 0, [], false⟩) (crc8 [4, 0]) false).lastEvent = .unknown ∧
      (heardBy (.record ⟨2, some 2, [0xE8], false⟩) 0x03 true).rx = .record ⟨3, none, [], false⟩ := by decide +kernel

/-- R129: DATA, REQUEST and ANNOUNCE, whole at their checks. -/
theorem test_check_completes_each_kind :
    (after (.characterReceived 0 (cleanChar (crc8 [3, 1, 7]) false)) (receiving (.record ⟨3, some 1, [7], true⟩))).pool.arrivals =
        [⟨0, [7], true⟩] ∧
      (after (.characterReceived 0 (cleanChar 0x18 false))
        (receiving (.record ⟨2, some 2, [0xE8, 0x03], false⟩))).recordsOf 0 = [.request 1000] ∧
      (let body : List Byte := [5, 0xE8, 0x03, 1, 2, 3, 4, 5, 6, 7, 8]
       (after (.characterReceived 0 (cleanChar (crc8 (1 :: 11 :: body)) false))
         (receiving (.record ⟨1, some 11, body, false⟩))).recordsOf 0 = [.announce 5 1000 #v[1, 2, 3, 4, 5, 6, 7, 8]]) := by
  decide +kernel

/-- R130: the samples of a character bound the idle time at its stop decision: all bits high, the mark bit low, and a glitch
at sample 8 of the stop bit. A tick in which no edge falls moves it, and one with an edge restarts it. -/
theorem test_idle_time_is_bounded_by_the_samples :
    highAtMost (cleanChar 0xFF true) = 161 ∧ highAtMost (cleanChar 0xFF false) = 16 ∧
      highAtMost { cleanChar 0xFF true with stop := ⟨true, false, true⟩ } = 1 ∧
      ((live.line 0).passIdle none).idle = 24 ∧ ((idleFor 13740 live).line 3).idles = true ∧
      (((idleFor 13740 live).line 3).passIdle none).idle = 13750 ∧
      (((idleFor 13740 live).line 3).passIdle (some 5)).idle = 0 ∧
      (((idleFor 13740 live).line 3).passIdle (some 5)).low = 5 := by decide +kernel

/-- R133: a character whose start came before a collision is not received. -/
theorem test_character_without_a_start_is_not_received :
    after (.characterReceived 0 (cleanChar 0x01 true)) live = live := by decide +kernel

theorem test_witness_LineOrdersTakeEffect_reset :
    (DecoderFree live ∧ ([7#8]).length = 1 ∧ byteAt [7] 0 = (7 : Port).val ∧ live.mode ≠ .standby ∧ (live.line 7).tx ≠ .off) ∧
      (DecoderFree { live with mode := .standby } ∧ lastResult (after (.lineReset 1 [7]) { live with mode := .standby }) = some 0x11) ∧
      ((withLine 7 (fun _ => resetLine .d16) live).line 7).tx = .off ∧
      ((after (.lineReset 1 [7]) live).line 7).breakRemaining = some 13750 := by decide +kernel

/-- R134, R135, R109, R131: a line OFF, one on with nothing to send, one that keeps a channel waiting, and one whose STATE
record waits in BACKOFF beside an older pending one, which the newer record replaces together with it. -/
theorem test_witness_LineOrdersTakeEffect_orders :
    let o := withLine 3 (fun _ => resetLine .d16) live
    let b := withLine 3 (fun l => { l with tx := .backoff, current := some (.internal aRecord), pendingInternal := some aRecord }) live
    ((o.line 3).tx = .off ∧ (o.line 3).current = none ∧ ((turnOnLine 3 o).line 3).pendingInternal = some ⟨.off, 0, 0⟩) ∧
      ((live.line 3).tx ≠ .off ∧ (live.line 3).current = none) ∧
      (((sendingAt [3] live).line 3).waitList = [1] ∧
        (turnOffLine 3 (sendingAt [3] live)).link.replies.map (fun e => e.frame.payload) = [[0x00, 0x08, 3]]) ∧
      ((b.line 3).tx ≠ .off ∧ (b.line 3).tx ≠ .sending ∧ (b.line 3).current = some (.internal aRecord)) ∧
      ((queueStateRecord 3 b).line 3).current = some (.internal ⟨.off, 0, 0⟩) ∧
      ((queueStateRecord 3 b).line 3).pendingInternal = none := by decide +kernel

/-! ## Witnesses: the pool and the channels -/

/-- A pool with `n` records of P2, and P2's mark. -/
def pooled (n : Nat) (mark : Bool) : State :=
  { live with pool := ⟨List.replicate n ⟨2, [1], false⟩, tput (Vector.replicate 8 false) 2 mark⟩ }

theorem test_witness_PoolArrivalsAreKeptOrMarked :
    (8 ≤ (pooled 8 true).pool.held 2 ∧ tget (pooled 8 true).pool.overrun 2 = true) ∧
      (8 ≤ (pooled 8 false).pool.held 2 ∧ tget (pooled 8 false).pool.overrun 2 = false) ∧
      ((pooled 7 false).pool.held 2 = 7 ∧ ¬(32 ≤ (pooled 7 false).pool.arrivals.length ∨ 8 ≤ (pooled 7 false).pool.held 2)) ∧
      (32 ≤ (pooled 32 false).pool.arrivals.length ∧ (pooled 32 false).pool.held 5 = 0) ∧
      ((pooled 7 false).pool.held 5 = 0 ∧ PoolBounded (pooled 8 false).pool) ∧
      (poolArrive 2 [] false (pooled 7 false)).pool.held 2 = 8 ∧ (poolArrive 5 [] false (pooled 7 false)).link.notices = [.recordWaiting 5 1 false] := by
  decide +kernel

theorem test_witness_RelayFetchTakesTheOldestRecord :
    let s : State := { live with pool := ⟨[⟨6, [9], true⟩, ⟨2, [1], false⟩], Vector.replicate 8 true⟩ }
    DecoderFree s ∧ ([2#8]).length = 1 ∧ byteAt [2] 0 = (2 : Port).val ∧
      s.pool.arrivals = [⟨6, [9], true⟩] ++ ⟨2, [1], false⟩ :: [] ∧ (∀ q ∈ [(⟨6, [9], true⟩ : HeldRecord)], q.port ≠ 2) ∧
      (∀ r ∈ s.pool.arrivals, r.port ≠ 7) ∧ live.pool.arrivals = [] ∧
      (tget (after (.relayFetch 1 [7]) s).pool.overrun 7) = false ∧
      (after (.relayFetchAny 1 [0xFF]) s).pool.arrivals = [⟨2, [1], false⟩] := by decide +kernel

theorem test_witness_RelaySendTakesAChannel :
    (DecoderFree live ∧ live.mode ≠ .standby ∧ (List.replicate 60 (0 : Byte)).length ≤ 60 ∧ (0x48#8) ≠ 0) ∧
      (let s := ((live.setChannel 0 (some (waitingSend [3]))).setChannel 1 (some (waitingSend [3]))).setChannel 2 (some (waitingSend [3]))
       (∀ c : SendNo, (s.channel c).isSome = true) ∧ DecoderFree s) ∧
      (live.channel 0 = none ∧ (∀ d : SendNo, d < 0 → (live.channel d).isSome = true) ∧ portsOfMask 0x48 = 3 :: [6] ∧
        (live.line 3).tx ≠ .off ∧ ((after (.relaySend 1 [0x48, 5]) live).line 3).waitList = [0]) ∧
      (let s := { live with lines := Vector.replicate 8 (resetLine .d16) }
       (∀ p ∈ portsOfMask 0x48, (s.line p).tx = .off) ∧ s.channel 0 = none ∧
         (after (.relaySend 1 [0x48, 5]) s).link.replies.map (fun e => e.frame.payload) = [[0x00, 0x48, 3, 3]]) ∧
      (let s := live.setLine 3 (resetLine .d16)
       portsOfMask 0x48 = [3] ++ 6 :: [] ∧ (∀ q ∈ [(3 : Port)], (s.line q).tx = .off) ∧ (s.line 6).tx ≠ .off ∧
         ((after (.relaySend 1 [0x48, 5]) s).channel 0).map (fun x => (x.position, x.outcomes)) = some (6, [.lineOff])) := by
  decide +kernel

theorem test_witness_WaitsEndInTimeoutOrCancel :
    ((timedOut [3]).channel 1 = some { waitingSend [3] with stage := .waiting 0 } ∧
        (waitingSend [3]).cancelRequested = false ∧ [(3 : Port)].filter (fun q => (3 : Port) < q) = []) ∧
      ([(1 : Port), 3, 6].filter (fun q => (3 : Port) < q) = 6 :: [] ∧ ((timedOut [1, 3, 6]).line 6).tx ≠ .off) ∧
      ((after (.channelWaitExpiry 1) (sendingAt [3, 6] live)).line 6).waitList = [] ∧
      ((live.setChannel 1 (some { waitingSend [3] with stage := .onLine })).channel 1 =
        some { waitingSend [3] with stage := .onLine }) ∧
      (DecoderFree (sendingAt [3, 6] live) ∧ ([1#8]).length = 1 ∧ byteAt [1] 0 = (1 : SendNo).val ∧
        (after (.relayCancel 7 [1]) (sendingAt [3, 6] live)).link.replies.map (fun e => e.frame.payload) =
          [[0x00, 0x48, 5, 5], [0x00]]) ∧
      ((after (.channelWaitExpiry 1) (timedOut [3, 6])).line 6).waitList = [1] ∧
      (let s := (timedOut [3, 5, 6]).setLine 5 (resetLine .d16)
       [(3 : Port), 5, 6].filter (fun q => (3 : Port) < q) = [5] ++ 6 :: [] ∧ (∀ q ∈ [(5 : Port)], (s.line q).tx = .off) ∧
         (s.line 6).tx ≠ .off ∧
         ((after (.channelWaitExpiry 1) s).channel 1).map (fun x => x.outcomes) = some [.timeout, .lineOff]) ∧
      (let s := (timedOut [3, 5]).setLine 5 (resetLine .d16)
       (after (.channelWaitExpiry 1) s).link.replies.map (fun e => e.frame.payload) = [[0x00, 0x28, 4, 3]]) := by
  decide +kernel

/-! ## Witnesses: the profile store -/

/-- A PROFILE_WRITE of a slot in its PAYLOAD form, from factory values. -/
def portSlotPayload (n : Fin 9) : List Byte := byte n.val :: 0 :: writePortSlot (factoryPort 2) 120000

def systemPayload : List Byte := 8 :: 0 :: writeSystem factorySystem

/-- A write in progress. -/
def writing (w : WriteTarget) (s : State) : State :=
  withLink (fun l => { l with reserved := 1 }) { s with store := { s.store with write := some ⟨w, 0x31, true⟩ } }

theorem test_witness_StoreWritesBegin_payload :
    (DecoderFree live ∧ byteAt (portSlotPayload 2) 0 = (2 : Fin 9).val ∧ (portSlotPayload 2).length = 24 ∧
        byteAt (portSlotPayload 2) 1 = 0 ∧ payloadValid 2 ((portSlotPayload 2).drop 2) = true ∧ live.storeBusy = false ∧
        live.enforced = false ∧ ownParent 2 ((portSlotPayload 2).drop 2) = false) ∧
      (byteAt systemPayload 0 = (8 : Fin 9).val ∧ systemPayload.length = 40 ∧ payloadValid 8 (systemPayload.drop 2) = true) ∧
      (DecoderFree (writing (.slot 2 []) live) ∧ (writing (.slot 2 []) live).storeBusy = true) ∧
      (DecoderFree (locked live) ∧ (locked live).enforced = true ∧ (locked live).guardsSlot 8 = true ∧
        (locked live).guardsSlot 1 = true ∧ (locked live).guardsSlot 2 = false) ∧
      ownParent 2 (writePortSlot { factoryPort 2 with parent := some 2 } 0) = true := by decide +kernel

theorem test_witness_StoreWritesBegin_forms :
    (([8, 1] : List Byte).length = 2 ∧ byteAt [8, 1] 0 = (8 : Fin 9).val ∧ byteAt [8, 1] 1 = 1) ∧
      (byteAt [1] 0 = (1 : Fin 9).val ∧ (after (.profileProtectSession 1 [1]) live).store.sessionLock = true) ∧
      (byteAt [0, byte ProtMode.fixed.code, 9, byte Direction.high.code, flagByte true] 0 = (0 : Fin 9).val ∧
        (after (.profileProtectModeMap 1 [0, 2, 9, 1, 1]) live).store.write =
          some ⟨.protection ⟨.fixed, 8, .high, true⟩, 1, true⟩) := by decide +kernel

theorem test_witness_StoreWritesComplete :
    (writing (.slot 2 [7]) live).store.write = some ⟨.slot 2 [7], 0x31, true⟩ ∧
      (writing (.protection ⟨.fixed, 2, .low, false⟩) live).store.write =
        some ⟨.protection ⟨.fixed, 2, .low, false⟩, 0x31, true⟩ ∧
      live.store.write = none ∧
      lastResult (after .writeComplete (writing (.slot 2 [7]) live)) = some 0x01 ∧
      (after .protectionWriteComplete (writing (.protection ⟨.fixed, 2, .low, false⟩) live)).enforced = true := by decide +kernel

theorem test_witness_ProfilesComeBackWhole_port : (factoryPort 7).inRange := by
  unfold PortConfig.inRange; decide +kernel

theorem test_witness_ProfilesComeBackWhole_boundary :
    { factoryPort 7 with cap := 120000, tripCurrent := 200, shedGrace := 2000, retryLimit := 15 }.inRange := by
  unfold PortConfig.inRange; decide +kernel

theorem test_witness_ProfilesComeBackWhole_system : factorySystem.inRange := by
  unfold SystemProfile.inRange; decide +kernel

theorem test_witness_ProfilesComeBackWhole_system_boundary :
    { factorySystem with sa := ⟨false, 20000, 16400, 16000⟩ }.inRange := by
  unfold SystemProfile.inRange; decide +kernel

theorem test_witness_SlotsChangeOnlyAtTheirCompletion :
    exec .writeComplete (writing (.slot 2 [7]) live) = .next (after .writeComplete (writing (.slot 2 [7]) live)) ∧
      (after .writeComplete (writing (.slot 2 [7]) live)).store.slots ≠ (writing (.slot 2 [7]) live).store.slots :=
  ⟨rfl, by decide +kernel⟩

/-! ## Witnesses: the control link -/

/-- Hypotheses of QueriesAnswerAndChangeNothing, LinkSettingsAndNoticeFetch and ResetNeedsItsPreparation. -/
theorem test_witness_commands_of_the_link :
    DecoderFree live ∧
      (([20#8] : List Byte).length = 1 ∧ linkDivisorOfCode (byteAt [20] 0) = some .d20) ∧
      (([63, 1] : List Byte).length = 2 ∧ byteAt [63, 1] 0 < 64 ∧ deliveryOfCode (byteAt [63, 1] 1) = some .held) ∧
      (DecoderFree (postNotice (.mode .run true .setMode) live) ∧
        (postNotice (.mode .run true .setMode) live).link.notices = .mode .run true .setMode :: []) ∧
      live.link.notices = [] ∧ live.link.prepared = false ∧
      (DecoderFree (withLink (fun l => { l with prepared := true }) live) ∧ live.storeBusy = false) ∧
      (DecoderFree (withLink (fun l => { l with prepared := true }) (writing (.slot 2 []) live)) ∧
        (writing (.slot 2 []) live).storeBusy = true) := by decide +kernel

/-- R180: the reply to IDENTIFY, from Table 10-5: type 0x81, tag, result OK. -/
theorem test_identify :
    (after (.identify 9 []) live).link.replies.map (fun e => e.frame) =
      [⟨0x81, 9, [0x00, 0x17, 0x0A, 0x40, 0x18, 0x41, 8, 3, 3, 32, 8, 2, 32, 248, 60]⟩] := by decide +kernel

/-- R181, R15, R86: the first bytes of three replies, from Tables 12-1, 12-2 and 12-7. The device is in RUN on SA with an
envelope of 100,000 mW; SA is HEALTHY at a filtered code of 1209, 13,299 mV, at its factory capacity and floors; P2 is OFF with its factory
configuration. -/
theorem test_query_bytes :
    let payload := fun i => ((after i (withCode 0 1209 live)).link.replies.map (fun e => e.frame.payload)).flatten
    payload (.getStatus 9 []) = [0, 2, 0, 0, 0xA0, 0x86, 1, 0] ++ List.replicate 15 0 ∧
      (payload (.sourceQuery 9 [])).take 15 = [0, 1, 3, 0xF3, 0x33, 0, 0x10, 0x27, 0x90, 0x33, 0x50, 0x2D, 0, 0, 1] ∧
      (payload (.portQuery 9 [2])).length = 55 ∧
      (payload (.portQuery 9 [2])).take 21 =
        [0, 2, 1, 2, 0, 0x30, 0x75, 0, 0, 0xA0, 0x0F, 16, 3, 4, 4, 0xF4, 1, 0xFF, 1, 16, 0] := by decide +kernel

/-- A full reply queue. -/
def repliesFull (s : State) : State :=
  withLink (fun l => { l with replies := List.replicate 8 ⟨⟨0x81, 1, [0]⟩, none, false⟩ }) s

/-- Frames that wait for the decoder. -/
def queued (n : Nat) (s : State) : State := withLink (fun l => { l with commands := List.replicate n ⟨0x01, 5, []⟩ }) s

theorem test_witness_DecoderRefusesOrWaits :
    ((Instr.identify 9 []).frame = some ⟨0x01, 9, []⟩ ∧ live.resetHeld = false ∧ live.link.commands = [] ∧
        live.link.hasPlace = true ∧ live.link.resetPending = false ∧ State.reset.mode = .init ∧
        State.reset.link.commands = [] ∧ State.reset.link.hasPlace = true) ∧
      commandOfType 0x7F = none ∧
      ((Instr.relaySend 1 []).frame = some ⟨0x40, 1, []⟩ ∧ commandOfType 0x40 = some .relaySend ∧
        lengthMatches .relaySend [] = false ∧ lengthMatches .relaySend [1] = true) ∧
      ((repliesFull live).link.hasPlace = false ∧ (repliesFull live).link.commands = []) ∧
      ((queued 3 live).link.commands = ⟨0x01, 5, []⟩ :: List.replicate 2 ⟨0x01, 5, []⟩ ∧
        (⟨0x01, 5, []⟩ : Frame) ≠ ⟨0x01, 9, []⟩ ∧ (queued 3 live).link.commands.length < 4) ∧
      (4 ≤ (queued 4 live).link.commands.length ∧ (queued 4 live).link.hasPlace = true) ∧
      (repliesFull (queued 4 live)).link.hasPlace = false ∧
      (let s := withLink (fun l => { l with commands := [⟨0x01, 9, []⟩, ⟨0x02, 6, []⟩] }) live
       s.link.commands = ⟨0x01, 9, []⟩ :: [⟨0x02, 6, []⟩] ∧ s.link.hasPlace = true ∧ s.link.resetPending = false ∧
         (after (.identify 9 []) s).link.commands = [⟨0x02, 6, []⟩] ∧ lastResult (after (.identify 9 []) s) = some 0x00 ∧
         (after (.identify 9 []) (repliesFull s)).link.commands.length = 2) ∧
      lastResult (after (.identify 9 []) (queued 4 live)) = some 0x10 := by decide +kernel

theorem test_witness_LinkEventsMoveTheLinkAlone :
    (live.resetHeld = false ∧ live.link.gap = none ∧ live.link.buffer = none ∧ live.link.charInProgress = false ∧
        live.link.sending = none ∧ live.link.replies = [] ∧ live.link.delivery = .push ∧ live.link.resetPending = false) ∧
      (let s := withLink (fun l => { l with buffer := some [], gap := some 0, charInProgress := true }) live
       s.link.gap = some 0 ∧ s.link.buffer.isSome = true ∧ s.link.charInProgress = true) ∧
      voteLevel (cleanVote false) = false ∧ (0x59#8) ≠ 0x5A ∧ (sending none false live).link.sending.isSome = true ∧
      (repliesFull live).link.replies = ⟨⟨0x81, 1, [0]⟩, none, false⟩ :: List.replicate 7 ⟨⟨0x81, 1, [0]⟩, none, false⟩ ∧
      (postNotice (.mode .run true .setMode) live).link.notices = .mode .run true .setMode :: [] ∧
      (after .frameBegin (postNotice (.mode .run true .setMode) live)).link.notices = [] := by decide +kernel

/-- R176, R169: a frame on LTX. R170: a character without a start is none. -/
theorem test_witness_LinkEventsMoveTheLinkAlone_ltx :
    let s := after .frameBegin (repliesFull live)
    s.link.sending.isSome = true ∧ s.link.ltx 0 = false ∧ s.link.ltx 2 = true ∧ s.link.ltx 3 = false ∧
      after (.linkCharacterReceived (cleanLinkChar 0x5A)) live = live := by decide +kernel

theorem test_witness_FramesAreReceivedWhole :
    (queued 3 live).resetHeld = false ∧ (queued 3 live).link.buffer = none ∧ (queued 3 live).link.commands.length < 4 ∧
      (List.replicate 248 (0x5A#8)).length ≤ 248 := by decide +kernel

theorem test_witness_NoticesAreCoalesced :
    let l : Link := { resetLink with mask := 0b011111, notices := [.envelope 1 0 0 false, .sourceState .sb .low 0 none false] }
    l.mask.getLsbD ((Notice.mode .run true .setMode).kind - 1) = false ∧
      l.mask.getLsbD ((Notice.sourceState .sb .under 0 none false).kind - 1) = true ∧
      l.notices = [.envelope 1 0 0 false] ++ .sourceState .sb .low 0 none false :: [] ∧ NoticesDistinct l.notices ∧
      (∀ m ∈ l.notices, m.kind ≠ (Notice.sourceState .sd .low 0 none false).kind ∨
        m.subject ≠ (Notice.sourceState .sd .low 0 none false).subject) := by decide +kernel

/-! ## Witnesses: protection and the invariants -/

theorem test_witness_EnforcedProtectionHoldsAgainstTheHost :
    ((Instr.portConfigure 1 portPayload).frame = some ⟨0x20, 1, portPayload⟩ ∧ (locked live).enforced = true ∧
        (locked live).protectedPort 1 = true) ∧
      exec (.portConfigure 1 portPayload) (locked live) = .next (after (.portConfigure 1 portPayload) (locked live)) :=
  ⟨by decide +kernel, rfl⟩

/-- P0 ON, P1 STARTING, P2 WAITING, a request waiting: a state that meets every invariant, for StepKeepsAllocationConsistent,
StepKeepsEnvelopeRespected, StepKeepsTheBus, StepKeepsCountersBounded and StepKeepsRailsAndLines. Its step is
`test_witness_step`. -/
def invariantState : State := { busy with pending := [.portRequest 1 (ask 4 500)] }

theorem test_witness_AllocationConsistent : AllocationConsistent invariantState := by decide +kernel

theorem test_witness_EnvelopeRespected : EnvelopeRespected invariantState := by decide +kernel

theorem test_witness_BusAgreement : BusAgreement invariantState := by decide +kernel

theorem test_witness_BreakBeforeMake : BreakBeforeMake invariantState := by decide +kernel

theorem test_witness_AccumulatorsBounded : AccumulatorsBounded invariantState := by decide +kernel

theorem test_witness_FaultCountsBounded : FaultCountsBounded invariantState := by decide +kernel

theorem test_witness_RailsAndLines : RailsAndLines invariantState := by decide +kernel

theorem test_witness_StepKeepsQueuesAndSends :
    QueuesBounded (sendingAt [1, 3, 6] live) ∧ SendInOrder { waitingSend [1, 3, 6] with outcomes := [.delivered] } ∧
      SendsInOrder (sendingAt [3, 6] live) := by decide +kernel

/-- The step of the witness above. -/
theorem test_witness_step :
    step { busy with pending := [.portRequest 1 (ask 4 500)] } = .next (after (.portRequest 1 (ask 4 500)) busy) := rfl

theorem test_witness_StepKeepsFixedProtection :
    ProtectionFixed { live with store := { live.store with copyA := ⟨.fixed, 2, .low, false⟩ } } := by decide +kernel

end Sys2Proof.Tests
end

section
/-! The source selector: what an evaluation, a change of a source's state and the end of a changeover do to the selector
(R6 to R13), in terms of the selection result. -/

namespace Sys2Proof.Machine

/-! ## Reads after the selector's writes -/

theorem mem_allSources (x : Source) : x ∈ allSources := by cases x <;> decide

theorem State.setSource_source (s : State) (x y : Source) (r : SourceRec) :
    (s.setSource x r).source y = if y = x then r else s.source y := by
  split
  · next h => rw [h, State.setSource_source_self]
  · next h => exact State.setSource_source_ne s r h

@[simp] theorem State.setSource_voltage (s : State) (x y : Source) (r : SourceRec) :
    (s.setSource x r).voltage y = s.voltage y := rfl

@[simp] theorem postNotice_sel (n : Notice) (s : State) : (postNotice n s).sel = s.sel := rfl

@[simp] theorem postNotice_source (n : Notice) (s : State) (y : Source) : (postNotice n s).source y = s.source y := rfl

@[simp] theorem postNotice_selEvents (n : Notice) (s : State) : (postNotice n s).selEvents = s.selEvents := rfl

@[simp] theorem postSourceState_sel (x : Source) (s : State) : (postSourceState x s).sel = s.sel := rfl

@[simp] theorem postSourceState_source (x y : Source) (s : State) :
    (postSourceState x s).source y = s.source y := rfl

@[simp] theorem postSourceState_selEvents (x : Source) (s : State) :
    (postSourceState x s).selEvents = s.selEvents := rfl

@[simp] theorem sendEvent_sel (e : SelEvent) (s : State) : (sendEvent e s).sel = s.sel := rfl

@[simp] theorem sendEvent_source (e : SelEvent) (s : State) (y : Source) : (sendEvent e s).source y = s.source y := rfl

@[simp] theorem sendEvent_selEvents (e : SelEvent) (s : State) : (sendEvent e s).selEvents = s.selEvents ++ [e] := rfl

@[simp] theorem dueReclose_sel (s : State) : (dueReclose s).sel = s.sel := rfl

@[simp] theorem dueReclose_source (s : State) (y : Source) : (dueReclose s).source y = s.source y := rfl

@[simp] theorem dueReclose_selEvents (s : State) : (dueReclose s).selEvents = s.selEvents := rfl

@[simp] theorem postActive_sel (a : Option Source) (s : State) : (postActive a s).sel = s.sel := by cases a <;> rfl

@[simp] theorem postActive_source (a : Option Source) (s : State) (y : Source) :
    (postActive a s).source y = s.source y := by cases a <;> rfl

@[simp] theorem postActive_selEvents (a : Option Source) (s : State) : (postActive a s).selEvents = s.selEvents := by
  cases a <;> rfl

/-- Driving one SEL pin writes that pin. -/
theorem driveSel_source (x y : Source) (on : Bool) (s : State) :
    (driveSel x on s).source y =
      { s.source y with selPin := if x = y then on else (s.source y).selPin } := by
  unfold driveSel
  rw [State.setSource_source]
  by_cases h : y = x
  · subst h; simp
  · simp [h, Ne.symm h]

theorem driveActive_source (a : Option Source) (y : Source) (on : Bool) (s : State) :
    (driveActive a on s).source y =
      { s.source y with selPin := if a = some y then on else (s.source y).selPin } := by
  cases a with
  | none => simp [driveActive]
  | some x => simp [driveActive, driveSel_source]

/-- Driving a SEL pin is no part of the rest of the selector. -/
theorem driveActive_sel (a : Option Source) (on : Bool) (s : State) :
    (driveActive a on s).sel.active = s.sel.active ∧ (driveActive a on s).sel.changeover = s.sel.changeover ∧
      (driveActive a on s).selEvents = s.selEvents := by
  cases a with
  | none => exact ⟨rfl, rfl, rfl⟩
  | some x => simp [driveActive, driveSel]

/-! ## The selection result (R6, R7) -/

/-- R6, R7: the selection result depends on the settings, the grades and the voltages alone. -/
theorem selection_congr {s t : State} (ref : Option Source) (settings : t.sel.settings = s.sel.settings)
    (state : ∀ x, (t.source x).state = (s.source x).state) (sense : t.sense = s.sense) :
    selection ref t = selection ref s := by
  have usable : t.usable = s.usable := funext fun x => by simp only [State.usable, state x]
  have voltage : t.voltage = s.voltage := funext fun x => by simp only [State.voltage, State.sample, sense]
  simp only [selection, settings, usable, voltage]

/-- R7: with SD down, DRAIN mode answers SA or SB, one that is usable, or NONE where neither is. -/
theorem drainSelection_of_sd_down {usable : Source → Bool} (v : Source → Nat) (ref : Option Source)
    (sd : usable .sd = false) :
    (usable .sa = true ∧ drainSelection usable v ref = some .sa) ∨
      (usable .sb = true ∧ drainSelection usable v ref = some .sb) ∨
      (usable .sa = false ∧ usable .sb = false ∧ drainSelection usable v ref = none) := by
  simp only [drainSelection, sd, Bool.false_eq_true, if_false]
  cases sa : usable .sa <;> cases sb : usable .sb
  case true.true =>
    simp only [if_true, Bool.true_and]
    rcases ref with _ | _ | _ | _ <;> dsimp only <;> split <;> simp
  all_goals rcases ref with _ | _ | _ | _ <;> simp

/-- R7: DRAIN mode answers a usable source. -/
theorem drainSelection_some {usable : Source → Bool} {v : Source → Nat} {ref : Option Source} {x : Source}
    (h : drainSelection usable v ref = some x) : usable x = true := by
  cases sd : usable .sd with
  | true =>
    have first : drainSelection usable v ref = some .sd := if_pos sd
    cases first.symm.trans h
    exact sd
  | false =>
    rcases drainSelection_of_sd_down v ref sd with ⟨sa, e⟩ | ⟨sb, e⟩ | ⟨-, -, e⟩ <;> cases e.symm.trans h
    · exact sa
    · exact sb

/-- R7: DRAIN mode answers NONE only where no source is usable. -/
theorem drainSelection_none {usable : Source → Bool} {v : Source → Nat} {ref : Option Source}
    (h : drainSelection usable v ref = none) (x : Source) : usable x = false := by
  cases sd : usable .sd with
  | true =>
    have first : drainSelection usable v ref = some .sd := if_pos sd
    cases first.symm.trans h
  | false =>
    rcases drainSelection_of_sd_down v ref sd with ⟨-, e⟩ | ⟨-, e⟩ | ⟨sa, sb, -⟩
    · cases e.symm.trans h
    · cases e.symm.trans h
    · cases x with
      | sa => exact sa
      | sb => exact sb
      | sd => exact sd

/-- R6, R7: a selection result is usable. -/
theorem usable_of_selection {s : State} {ref : Option Source} {x : Source} (h : selection ref s = some x) :
    s.usable x = true := by
  unfold selection at h
  split at h
  · exact List.find?_some h
  · exact drainSelection_some h

/-- R6, R7, R10: with every source in the priority order, NONE is selected only where no source is usable. -/
theorem unusable_of_selection {s : State} {ref : Option Source}
    (order : ∀ x ∈ allSources, x ∈ s.sel.settings.order) (h : selection ref s = none) (x : Source) : s.usable x = false := by
  unfold selection at h
  split at h
  · simpa using List.find?_eq_none.1 h x (order x (mem_allSources x))
  · exact drainSelection_none h x

/-! ## Beginning a changeover, losing the source (R9, R11) -/

theorem beginChangeover_sel (t : Source) (s : State) :
    (beginChangeover t s).sel.changeover = some ⟨t, 3000⟩ ∧ (beginChangeover t s).sel.active = s.sel.active ∧
      (beginChangeover t s).selEvents = s.selEvents ++ [.changeoverBegin] := by
  obtain ⟨active, -, events⟩ := driveActive_sel s.sel.active false s
  exact ⟨rfl, active, congrArg (· ++ [SelEvent.changeoverBegin]) events⟩

theorem beginChangeover_source (t y : Source) (s : State) :
    (beginChangeover t s).source y =
      { s.source y with selPin := if s.sel.active = some y then false else (s.source y).selPin } := by
  simp [beginChangeover, driveActive_source]

theorem loseSource_sel (a : Source) (s : State) :
    (loseSource a s).sel.changeover = s.sel.changeover ∧ (loseSource a s).sel.active = none ∧
      (loseSource a s).selEvents = s.selEvents ++ [.noSource] := by
  simp [loseSource, driveSel]

theorem loseSource_source (a y : Source) (s : State) :
    (loseSource a s).source y = { s.source y with selPin := if a = y then false else (s.source y).selPin } := by
  simp [loseSource, driveSel_source]

/-! ## The evaluation (R8, R9) -/

/-- R8: none is made during a changeover. -/
theorem evaluate_of_changeover {s : State} (h : s.sel.changeover.isSome = true) : evaluate s = s := by
  simp [evaluate, State.changeoverFlag, h]

/-- R9: a result equal to the active source changes nothing. -/
theorem evaluate_of_same {s : State} (h : selection s.sel.active s = s.sel.active) : evaluate s = s := by
  unfold evaluate
  split
  · rfl
  · rw [h]
    cases s.sel.active <;> simp

/-- R9: another source as the result begins a changeover to it. -/
theorem evaluate_of_other {s : State} {x : Source} (idle : s.sel.changeover = none)
    (h : selection s.sel.active s = some x) (other : s.sel.active ≠ some x) : evaluate s = beginChangeover x s := by
  unfold evaluate
  rw [if_neg (by simp [State.changeoverFlag, idle]), h]
  cases hact : s.sel.active with
  | none => rfl
  | some a => simp only [if_neg fun e : x = a => other (by rw [hact, e])]

/-- R9: NONE as the result loses the active source. -/
theorem evaluate_of_lost {s : State} {a : Source} (idle : s.sel.changeover = none)
    (h : selection s.sel.active s = none) (active : s.sel.active = some a) : evaluate s = loseSource a s := by
  unfold evaluate
  rw [if_neg (by simp [State.changeoverFlag, idle]), h]
  simp only [active]

/-- R8, R9: what an evaluation can do. -/
theorem evaluate_cases (s : State) :
    (evaluate s = s ∧ (s.sel.changeover.isSome = true ∨ selection s.sel.active s = s.sel.active)) ∨
      (∃ x, s.sel.changeover = none ∧ selection s.sel.active s = some x ∧ s.sel.active ≠ some x ∧
        evaluate s = beginChangeover x s) ∨
      (∃ a, s.sel.changeover = none ∧ selection s.sel.active s = none ∧ s.sel.active = some a ∧
        evaluate s = loseSource a s) := by
  by_cases same : selection s.sel.active s = s.sel.active
  · exact .inl ⟨evaluate_of_same same, .inr same⟩
  cases idle : s.sel.changeover with
  | some c => exact .inl ⟨evaluate_of_changeover (by simp [idle]), .inl rfl⟩
  | none =>
    cases result : selection s.sel.active s with
    | some x =>
      have other : s.sel.active ≠ some x := fun e => same (result.trans e.symm)
      exact .inr (.inl ⟨x, rfl, rfl, other, evaluate_of_other idle result other⟩)
    | none =>
      obtain ⟨a, active⟩ := Option.ne_none_iff_exists'.1 fun e => same (result.trans e.symm)
      exact .inr (.inr ⟨a, rfl, rfl, active, evaluate_of_lost idle result active⟩)

/-- R8, R9: an evaluation changes nothing of a source but its SEL pin. -/
theorem evaluate_source (s : State) (y : Source) :
    (evaluate s).source y = { s.source y with selPin := ((evaluate s).source y).selPin } := by
  rcases evaluate_cases s with ⟨e, -⟩ | ⟨x, -, -, -, e⟩ | ⟨a, -, -, -, e⟩ <;> rw [e]
  · rw [beginChangeover_source]
  · rw [loseSource_source]

/-! ## A change of state (R1, R5) -/

theorem enterSourceState_source (x y : Source) (st : SourceState) (s : State) :
    (enterSourceState x st s).source y =
      if y = x then
        { s.source x with
          state := st
          qualify := if st = .qualifying then some (s.sel.settings.qualifyTime * 1000) else none }
      else s.source y := State.setSource_source s x y _

/-- R5: an equal state is no change. -/
theorem changeSource_same {x : Source} {st : SourceState} {s : State} (h : st = (s.source x).state) :
    changeSource x st s = s := if_pos h

theorem changeSource_new {x : Source} {st : SourceState} {s : State} (h : st ≠ (s.source x).state) :
    changeSource x st s = evaluate (postSourceState x (enterSourceState x st s)) := if_neg h

/-- R1, R5: the source has the state; a change of it sets the qualify timer, and the rest of the record but the SEL pin
stays. -/
theorem changeSource_self (x : Source) (st : SourceState) (s : State) :
    (changeSource x st s).source x =
      { s.source x with
        state := st
        qualify :=
          if st = (s.source x).state then (s.source x).qualify
          else if st = .qualifying then some (s.sel.settings.qualifyTime * 1000) else none
        selPin := ((changeSource x st s).source x).selPin } := by
  by_cases h : st = (s.source x).state
  · rw [changeSource_same h, if_pos h, h]
  · rw [changeSource_new h, evaluate_source, if_neg h]
    simp [enterSourceState_source]

/-- R5: the other sources keep their records but for a SEL pin. -/
theorem changeSource_other {x y : Source} (h : y ≠ x) (st : SourceState) (s : State) :
    (changeSource x st s).source y = { s.source y with selPin := ((changeSource x st s).source y).selPin } := by
  by_cases e : st = (s.source x).state
  · rw [changeSource_same e]
  · rw [changeSource_new e, evaluate_source]
    simp [enterSourceState_source, h]

end Sys2Proof.Machine
end

section
/-! Chapter 1 settled: the selection result (O8), the evaluation (O9), the events of a source (O10) and the end of a
changeover (O11). -/

namespace Sys2Proof.Machine

/-! ## What a selector operation may change -/

/-- What every operation of the selector leaves: the rest of the chip, but for an event and notices. -/
def SelectorOnly (s t : State) : Prop :=
  t = { s with sel := t.sel, selEvents := t.selEvents, link := { s.link with notices := t.link.notices } }

theorem SelectorFrame.only {s t : State} (h : SelectorFrame s t) : SelectorOnly s t := by
  cases t
  exact (State.mk.injEq ..).mpr ⟨h.resetHeld, h.lockLow, h.mode, h.initByLink, h.rails, h.linesOn, h.powerUp, rfl,
    h.sense, h.switches, h.ports, h.engine, h.lines, h.pool, h.channels, h.store, h.link, rfl, h.reports, h.records, h.choices,
    h.pending⟩

theorem beginChangeover_only (x : Source) (s : State) :
    beginChangeover x s =
      { s with sel := (beginChangeover x s).sel, selEvents := (beginChangeover x s).selEvents } := by
  cases h : s.sel.active <;> simp only [beginChangeover, h, driveActive] <;> rfl

theorem loseSource_only (a : Source) (s : State) :
    loseSource a s =
      { s with sel := (loseSource a s).sel, selEvents := (loseSource a s).selEvents, link := (loseSource a s).link } :=
  rfl

/-- R9, R16: the notice of a lost source is of its state and voltage, with NONE as the active source. -/
theorem loseSource_link {a : Source} {s : State} (idle : s.sel.changeover = none) :
    (loseSource a s).link = s.link.post (.sourceState a (s.source a).state (s.voltage a) none false) := by
  have flag : ((sendEvent .noSource ((driveSel a false s).setActive none))).changeoverFlag = false := by
    simp [State.changeoverFlag, driveSel, idle]
  have state : ((sendEvent .noSource ((driveSel a false s).setActive none)).source a).state = (s.source a).state := by
    simp [driveSel_source]
  simp only [loseSource, postSourceState, postNotice, flag, state]
  rfl

/-! ## The three events of a source -/

/-- R5: what every move of a source by `changeSource` gives the statement of its event. -/
theorem changeSource_frames (x : Source) (st : SourceState) (s : State) :
    (∀ y ∈ allSources, y ≠ x →
      (changeSource x st s).source y = { s.source y with selPin := ((changeSource x st s).source y).selPin }) ∧
    SelectorOnly s (changeSource x st s) :=
  ⟨fun _ _ h => changeSource_other h st s, (changeSource_frame x st s).only⟩

end Sys2Proof.Machine

open Sys2Proof Sys2Proof.Machine

/-- Settles O8, by the usable sources of each mode. -/
theorem selectionFollowsItsMode : Obligations.SelectionFollowsItsMode := by
  intro s ref
  constructor
  · intro mode
    have result : selection ref s = s.sel.settings.order.find? s.usable := by simp only [selection, mode]; rfl
    rw [result]
    cases found : s.sel.settings.order.find? s.usable with
    | none => simpa using List.find?_eq_none.1 found
    | some x =>
      obtain ⟨usable, before, after, order, skipped⟩ := List.find?_eq_some_iff_append.1 found
      exact ⟨usable, before, after, order, fun y hy => by simpa using skipped y hy⟩
  · intro mode
    have result : selection ref s = drainSelection s.usable s.voltage ref := by simp only [selection, mode]
    rw [result]
    refine ⟨fun sd => by simp [drainSelection, sd], fun sd => ⟨?_, ?_⟩⟩
    · rintro a b (⟨rfl, rfl⟩ | ⟨rfl, rfl⟩) rfl usable <;>
        simp only [drainSelection, sd, usable, Bool.false_eq_true, if_false, if_true, Bool.and_eq_true,
          decide_eq_true_eq] <;> rfl
    · intro none
      rcases ref with _ | _ | _ | _
      · simp only [drainSelection, sd]; rfl
      · have unusable : s.usable .sa = false := by simpa using none .sa rfl
        simp only [drainSelection, sd, unusable]; rfl
      · have unusable : s.usable .sb = false := by simpa using none .sb rfl
        simp only [drainSelection, sd, unusable]; rfl
      · simp only [drainSelection, sd]; rfl

/-- Settles O9, by the cases of the evaluation. -/
theorem evaluationHasThreeOutcomes : Obligations.EvaluationHasThreeOutcomes := by
  intro s
  refine ⟨evaluate_of_changeover, fun idle => ⟨evaluate_of_same, fun x result other => ?_, fun a result active => ?_⟩⟩
  · rw [evaluate_of_other idle result other]
    obtain ⟨changeover, active, events⟩ := beginChangeover_sel x s
    have frame := beginChangeover_frame x s
    exact ⟨changeover, active, events, fun y _ => beginChangeover_source x y s, beginChangeover_only x s,
      frame.settings, frame.loaded⟩
  · rw [evaluate_of_lost idle result active]
    obtain ⟨changeover, none, events⟩ := loseSource_sel a s
    exact ⟨none, changeover.trans idle, events, fun y _ => loseSource_source a y s, loseSource_link idle,
      loseSource_only a s⟩

namespace Sys2Proof.Machine

/-- R3: the comparator level taken, before the move it brings about. -/
theorem setComparator_only (x : Source) (b : Bool) (s : State) :
    SelectorOnly s (s.setSource x { s.source x with comparator := b }) := (setSource_frame x _ s).only

theorem setComparator_other {x y : Source} (h : y ≠ x) (b : Bool) (s : State) :
    (s.setSource x { s.source x with comparator := b }).source y = s.source y := State.setSource_source_ne s _ h

/-- R3: an asserted comparator. -/
theorem comparatorAsserts_grades (x : Source) (s : State) :
    ∃ t, exec (.comparatorAsserts x) s = .next t ∧
      (s.sel.loaded = true → (s.source x).state ≠ .disabled →
        (t.source x).state = .over ∧ (t.source x).comparator = true ∧
          ((s.source x).state ≠ .over → (t.source x).qualify = none) ∧ (t.source x).config = (s.source x).config) ∧
      ((s.sel.loaded = false ∨ (s.source x).state = .disabled ∨ (s.source x).state = .over) →
        t = s.setSource x { s.source x with comparator := true }) ∧
      (∀ y ∈ allSources, y ≠ x → t.source y = { s.source y with selPin := (t.source y).selPin }) ∧
      SelectorOnly s t := by
  refine ⟨_, rfl, ?_⟩
  set u := s.setSource x { s.source x with comparator := true } with hu
  have self : u.source x = { s.source x with comparator := true } := State.setSource_source_self s x _
  have other : ∀ y, y ≠ x → u.source y = s.source y := fun y h => setComparator_other h true s
  have frame : SelectorFrame s u := setSource_frame x _ s
  by_cases moves : s.sel.loaded = true ∧ (s.source x).state ≠ .disabled
  · rw [if_pos moves]
    have graded := changeSource_self x .over u
    refine ⟨fun _ _ => ?_, ?_, fun y _ h => ?_, (frame.trans (changeSource_frame x .over u)).only⟩
    · rw [graded, self]
      exact ⟨rfl, rfl, fun h => by simp [Ne.symm h], rfl⟩
    · rintro (h | h | h)
      · simp [moves.1] at h
      · exact absurd h moves.2
      · exact changeSource_same (by rw [self, h])
    · rw [changeSource_other h, other y h]
  · rw [if_neg moves]
    exact ⟨fun loaded enabled => absurd ⟨loaded, enabled⟩ moves, fun _ => rfl, fun y _ h => by rw [other y h],
      frame.only⟩

/-- R3: a released comparator. -/
theorem comparatorReleases_grades (x : Source) (s : State) :
    ∃ t, exec (.comparatorReleases x) s = .next t ∧
      (s.sel.loaded = true → (s.source x).state = .over →
        (t.source x).state = .qualifying ∧ (t.source x).comparator = false ∧
          (t.source x).qualify = some (s.sel.settings.qualifyTime * 1000)) ∧
      ((s.sel.loaded = false ∨ (s.source x).state ≠ .over) →
        t = s.setSource x { s.source x with comparator := false }) ∧
      (∀ y ∈ allSources, y ≠ x → t.source y = { s.source y with selPin := (t.source y).selPin }) ∧
      SelectorOnly s t := by
  refine ⟨_, rfl, ?_⟩
  set u := s.setSource x { s.source x with comparator := false } with hu
  have self : u.source x = { s.source x with comparator := false } := State.setSource_source_self s x _
  have other : ∀ y, y ≠ x → u.source y = s.source y := fun y h => setComparator_other h false s
  have frame : SelectorFrame s u := setSource_frame x _ s
  by_cases moves : s.sel.loaded = true ∧ (s.source x).state = .over
  · rw [if_pos moves]
    refine ⟨fun _ graded => ?_, ?_, fun y _ h => ?_, (frame.trans (changeSource_frame x .qualifying u)).only⟩
    · rw [changeSource_self, self, frame.settings]
      simp [graded]
    · rintro (h | h)
      · simp [moves.1] at h
      · exact absurd moves.2 h
    · rw [changeSource_other h, other y h]
  · rw [if_neg moves]
    exact ⟨fun loaded graded => absurd ⟨loaded, graded⟩ moves, fun _ => rfl, fun y _ h => by rw [other y h],
      frame.only⟩

theorem qualified_iff (r : SourceRec) : r.qualified = true ↔ r.state = .qualifying ∧ r.qualify = some 0 := by
  simp [SourceRec.qualified]

/-- R2: the end of the qualify time. -/
theorem qualifyExpiry_grades (x : Source) (s : State) :
    ∃ t, exec (.qualifyExpiry x) s = .next t ∧
      (s.sel.loaded = true → (s.source x).state = .qualifying → (s.source x).qualify = some 0 →
        (t.source x).state = (if (s.source x).config.softFloor ≤ s.voltage x then .healthy else .low) ∧
          (t.source x).qualify = none) ∧
      ((s.sel.loaded = false ∨ (s.source x).state ≠ .qualifying ∨ (s.source x).qualify ≠ some 0) → t = s) ∧
      (∀ y ∈ allSources, y ≠ x → t.source y = { s.source y with selPin := (t.source y).selPin }) ∧
      SelectorOnly s t := by
  refine ⟨_, rfl, ?_⟩
  by_cases due : s.sel.loaded = true ∧ (s.source x).qualified = true
  · rw [if_pos due]
    obtain ⟨loaded, qualified⟩ := due
    obtain ⟨state, ended⟩ := (qualified_iff _).1 qualified
    obtain ⟨others, only⟩ := changeSource_frames x
      (if (s.source x).config.softFloor ≤ s.voltage x then .healthy else .low) s
    refine ⟨fun _ _ _ => ?_, ?_, others, only⟩
    · rw [changeSource_self, state]
      split <;> simp
    · rintro (h | h | h)
      · simp [loaded] at h
      · exact absurd state h
      · exact absurd ended h
  · rw [if_neg due]
    exact ⟨fun loaded state ended => absurd ⟨loaded, (qualified_iff _).2 ⟨state, ended⟩⟩ due, fun _ => rfl,
      fun _ _ _ => rfl, (SelectorFrame.refl s).only⟩

/-! ## The end of a changeover (R13) -/

/-- The state of a changeover's end with a usable target, before its evaluation. -/
def targetClosed (t : Source) (s : State) : State :=
  postActive s.sel.active
    (postSourceState t
      (sendEvent .changeoverEnd (dueReclose (((driveSel t true s).setActive (some t)).setChangeover none))))

theorem closeChangeover_eq (t : Source) (s : State) : closeChangeover t s = evaluate (targetClosed t s) := rfl

theorem targetClosed_sel (t : Source) (s : State) :
    (targetClosed t s).sel.active = some t ∧ (targetClosed t s).sel.changeover = none ∧
      (targetClosed t s).sel.settings = s.sel.settings ∧ (targetClosed t s).sel.loaded = s.sel.loaded ∧
      (targetClosed t s).selEvents = s.selEvents ++ [.changeoverEnd] := by
  simp [targetClosed, driveSel]

theorem targetClosed_source (t y : Source) (s : State) :
    (targetClosed t s).source y = { s.source y with selPin := if t = y then true else (s.source y).selPin } := by
  simp [targetClosed, driveSel_source]

theorem postActive_switches (a : Option Source) (s : State) : (postActive a s).switches = s.switches := by
  cases a <;> rfl

theorem targetClosed_switches (t : Source) (s : State) :
    (targetClosed t s).switches = s.switches.map SwitchRec.flagClears := by
  simp only [targetClosed, postActive_switches]; rfl

theorem targetClosed_sense (t : Source) (s : State) : (targetClosed t s).sense = s.sense := by
  unfold targetClosed
  rw [(postActive_frame _ _).sense]
  rfl

/-- R13: the end of a changeover selects as the state before it does, with the target as the reference. -/
theorem targetClosed_selection (t : Source) (ref : Option Source) (s : State) :
    selection ref (targetClosed t s) = selection ref s := by
  obtain ⟨-, -, settings, -, -⟩ := targetClosed_sel t s
  exact selection_congr ref settings (fun x => by rw [targetClosed_source]) (targetClosed_sense t s)

/-- R47: a switch in DUE re-closes when the flag clears. -/
theorem flagClears_due {w : SwitchRec} {len : CoolLength} (h : w.state = .cooling .due len) :
    w.flagClears.state = .cooling (.reclose 2000) len := by
  simp [SwitchRec.flagClears, h, Config.recloseTimeout]

/-- R13: the states after a changeover's end without a source. -/
theorem failChangeover_sel (s : State) :
    (failChangeover s).sel.active = none ∧ (failChangeover s).sel.changeover = none ∧
      (failChangeover s).sel.settings = s.sel.settings ∧ (failChangeover s).sel.loaded = s.sel.loaded ∧
      (failChangeover s).selEvents = s.selEvents ++ [.noSource] := by
  simp [failChangeover]

theorem failChangeover_source (x : Source) (s : State) : (failChangeover s).source x = s.source x := by
  simp [failChangeover]

theorem failChangeover_switches (s : State) :
    (failChangeover s).switches = s.switches.map SwitchRec.flagClears := by
  simp only [failChangeover, postActive_switches]; rfl

theorem execChangeoverEnd_due {s : State} {c : Changeover} (h : s.sel.changeover = some c) (due : c.remaining = 0) :
    exec .changeoverEnd s = .next (finishChangeover c.target s) := by
  simp [exec, execChangeoverEnd, h, due]

end Sys2Proof.Machine

/-- Settles O10, event by event. -/
theorem sourceEventsGradeTheSource : Obligations.SourceEventsGradeTheSource :=
  fun x s => ⟨comparatorAsserts_grades x s, comparatorReleases_grades x s, qualifyExpiry_grades x s⟩

/-- Settles O11, by the three ways a changeover can end. -/
theorem changeoverEndConnectsOrContinues : Obligations.ChangeoverEndConnectsOrContinues := by
  intro s order
  refine ⟨fun idle => ?_, fun c hc running => ?_, fun c hc due usable => ?_, fun c hc due unusable u result => ?_,
    fun c hc due unusable result => ?_⟩
  · simp [exec, execChangeoverEnd, idle]
  · simp only [exec, execChangeoverEnd, Option.mem_def.1 hc, if_neg running]
  · refine ⟨_, execChangeoverEnd_due hc due, ?_⟩
    rw [finishChangeover, if_pos usable, closeChangeover_eq]
    obtain ⟨active, idle, -, -, events⟩ := targetClosed_sel c.target s
    have result : selection (targetClosed c.target s).sel.active (targetClosed c.target s) =
        selection (some c.target) s := by
      rw [active, targetClosed_selection]
    have switches : ∀ p : Port, (evaluate (targetClosed c.target s)).switch p = (s.switch p).flagClears := fun p => by
      simp [State.switch, (evaluate_frame _).switches, targetClosed_switches]
    refine ⟨?_, fun same => ?_, fun u other ne => ?_, fun p len h => ?_, fun x _ => ?_⟩
    · rcases evaluate_cases (targetClosed c.target s) with ⟨e, -⟩ | ⟨x, -, -, -, e⟩ | ⟨a, -, lost, -, -⟩
      · rw [e, active]
      · rw [e, (beginChangeover_sel x _).2.1, active]
      · simp [unusable_of_selection order (result.symm.trans lost) c.target] at usable
    · rw [evaluate_of_same (by rw [result, same, active]), targetClosed_source]
      exact ⟨idle, by simp, events⟩
    · rw [evaluate_of_other idle (result.trans other) (by rw [active]; simpa using Ne.symm ne),
        beginChangeover_source, active]
      obtain ⟨changeover, -, sent⟩ := beginChangeover_sel u (targetClosed c.target s)
      exact ⟨changeover, by simp, by rw [sent, events, List.append_assoc]; rfl⟩
    · rw [switches, flagClears_due h]
    · rw [evaluate_source, targetClosed_source]
  · rw [execChangeoverEnd_due hc due, finishChangeover, if_neg (by simp [unusable]), result]
    rfl
  · refine ⟨_, execChangeoverEnd_due hc due, ?_⟩
    rw [finishChangeover, if_neg (by simp [unusable]), result]
    obtain ⟨active, idle, -, -, events⟩ := failChangeover_sel s
    refine ⟨active, idle, events, fun x _ => failChangeover_source x s, fun p len h => ?_⟩
    have switch : (failChangeover s).switch p = (s.switch p).flagClears := by
      simp [State.switch, failChangeover_switches]
    rw [switch, flagClears_due h]

end

section
/-! The resets: what POR and pin reset leave (O4), and the invariants at the reset state (O60). -/

namespace Sys2Proof.Machine

/-! ## Reads of the state right after reset -/

theorem reset_sample (ch : SenseChannel) : State.reset.sample ch = resetChannel ch := by
  fin_cases ch <;> rfl

theorem reset_port (p : Port) : State.reset.port p = resetPort (factoryPort p) := by
  fin_cases p <;> rfl

theorem reset_switch (p : Port) : State.reset.switch p = resetSwitch := tget_replicate _ p

theorem reset_line (p : Port) : State.reset.line p = resetLine .d16 := tget_replicate _ p

theorem reset_channel (c : SendNo) : State.reset.channel c = none := tget_replicate _ c

theorem reset_source (x : Source) : State.reset.source x = resetSource x := by cases x <;> rfl

theorem reset_alloc (p : Port) : State.reset.alloc p = .off := by rw [State.alloc, reset_port]; rfl

theorem reset_parentOf (p : Port) : State.reset.parentOf p = none := by
  rw [State.parentOf, State.cfg, reset_port]; rfl

/-! ## The store at a reset (R162, R164, R168) -/

/-- R162, R167: a reset ends the write in progress, and a slot that was being written is INVALID. -/
theorem cutOff_eq (x : Store) :
    x.cutOff =
      { x with
        write := none
        slots :=
          match x.write with
          | some ⟨.slot n _, _, _⟩ => tput x.slots n ⟨false, []⟩
          | some ⟨.protection _, _, _⟩ => x.slots
          | none => x.slots } := by
  obtain ⟨_, _, _, _, _, _, _ | ⟨_ | _, _, _⟩⟩ := x <;> rfl

theorem hardReset_source (lock : Bool) (s : State) (x : Source) : (hardReset lock s).source x = heldSource x s := by
  cases x <;> rfl

theorem hardReset_switch (lock : Bool) (s : State) (p : Port) : (hardReset lock s).switch p = (s.switch p).atReset :=
  tget_map _ _ _

/-! ## The invariants at the reset state -/

theorem reset_listsFollowStates : ListsFollowStates State.reset :=
  ⟨.nil, .nil, fun p => iff_of_false List.not_mem_nil (by rw [reset_alloc]; nofun),
    fun p => iff_of_false List.not_mem_nil (by rw [reset_alloc]; nofun), fun _ => reset_alloc⟩

theorem reset_slotsFollowStates : SlotsFollowStates State.reset :=
  ⟨fun p => iff_of_false (fun h => h.elim nofun nofun) (by rw [reset_alloc]; nofun), .inl rfl⟩

theorem reset_parentsUp : ParentsUp State.reset :=
  ⟨nofun, fun p => by simp only [leadsTo, reset_parentOf]⟩

theorem reset_onlyGrantedHavePower : OnlyGrantedHavePower State.reset :=
  fun p => .inr ⟨by rw [reset_switch]; rfl, by rw [reset_port]; rfl⟩

theorem reset_allocationConsistent : AllocationConsistent State.reset :=
  ⟨⟨reset_listsFollowStates, reset_slotsFollowStates, ⟨.nil, nofun⟩, reset_parentsUp,
    reset_onlyGrantedHavePower⟩, rfl⟩

/-- R17: before the first load nothing is selected, and the factory order names every source. -/
theorem reset_busAgreement : BusAgreement State.reset := ⟨by decide, fun _ => ⟨rfl, rfl, rfl⟩, nofun⟩

theorem reset_breakBeforeMake : BreakBeforeMake State.reset :=
  fun x _ => by rw [reset_source]; exact ⟨nofun, fun h => nomatch h.2⟩

theorem reset_placesAccounted : PlacesAccounted State.reset := by
  refine ⟨?_, by decide⟩
  simp only [reset_channel]
  rfl

theorem reset_queuesBounded : QueuesBounded State.reset :=
  ⟨by decide, .nil, ⟨by decide, fun _ => Nat.zero_le _⟩, reset_placesAccounted⟩

theorem reset_sendsInOrder : SendsInOrder State.reset := fun c x h => by rw [reset_channel] at h; cases h

theorem reset_accumulatorsBounded : AccumulatorsBounded State.reset :=
  fun ch => by rw [reset_sample]; exact Nat.zero_le _

theorem reset_faultCountsBounded : FaultCountsBounded State.reset :=
  fun p => by rw [reset_switch]; exact ⟨Nat.zero_le _, Nat.zero_le _⟩

theorem reset_railsAndLines : RailsAndLines State.reset :=
  ⟨rfl, fun _ => rfl, fun h => h.elim nofun nofun, fun p => .inr (by rw [reset_line]; rfl),
    fun p => by rw [reset_line]; exact ⟨⟨fun _ => rfl, fun _ => rfl⟩, fun _ => rfl⟩⟩

end Sys2Proof.Machine

open Sys2Proof Sys2Proof.Machine

/-- Settles O4: both resets are `hardReset`, read block by block. -/
theorem hardResetReturnsEveryBlock : Obligations.HardResetReturnsEveryBlock := by
  intro i lock s which
  have effect : exec i s = .next (hardReset lock s) := by
    rcases which with ⟨rfl, rfl⟩ | ⟨rfl, rfl⟩ <;> rfl
  refine ⟨hardReset lock s, effect, rfl, rfl, rfl, rfl, rfl, rfl, rfl, fun p => ?_, ⟨rfl, rfl, rfl⟩, fun x _ => ?_,
    fun ch => ?_, ⟨rfl, rfl⟩, fun p => ⟨?_, ?_⟩, rfl, fun p => ?_, rfl, fun c => ?_, rfl, ?_⟩
  · exact ⟨tget_replicate _ p, tget_replicate _ p⟩
  · rw [hardReset_source]
    exact ⟨rfl, rfl, rfl⟩
  · exact reset_sample ch
  · exact hardReset_switch lock s p
  · have port : (hardReset lock s).port p = resetPort (factoryPort p) := reset_port p
    rw [port]; rfl
  · exact ⟨.d16, reset_line p⟩
  · exact reset_channel c
  · show s.store.atReset lock = _
    rw [Store.atReset, cutOff_eq]
    rfl

/-- Settles O60, invariant by invariant. -/
theorem resetMeetsTheInvariants : Obligations.ResetMeetsTheInvariants :=
  ⟨reset_allocationConsistent, .inl (Nat.zero_le _), reset_busAgreement, reset_breakBeforeMake, reset_queuesBounded,
    reset_sendsInOrder, reset_accumulatorsBounded, reset_faultCountsBounded, reset_railsAndLines⟩

end

section
/-! What keeps the bus (R9 to R13). A loaded selector whose pins agree with it is `Wired`, and an evaluation of a wired
selector settles it; every operation outside the selector leaves the selector as it is. -/

namespace Sys2Proof.Machine

/-! ## A loaded selector -/

/-- A loaded selector with every source in its order and its pins as R9, R11 and R13 have them. -/
structure Wired (s : State) : Prop where
  order : ∀ x ∈ allSources, x ∈ s.sel.settings.order
  loaded : s.sel.loaded = true
  pins : BreakBeforeMake s

/-- A wired selector that stands on a usable source where there is one. -/
structure Settled (s : State) : Prop extends Wired s where
  agrees : BusAgreement s

/-- The grades are no part of the wiring. -/
theorem Wired.of_pins {s t : State} (h : Wired s) (settings : t.sel.settings = s.sel.settings)
    (loaded : t.sel.loaded = s.sel.loaded) (active : t.sel.active = s.sel.active)
    (changeover : t.sel.changeover = s.sel.changeover)
    (pins : ∀ x, (t.source x).selPin = (s.source x).selPin) : Wired t where
  order := by rw [settings]; exact h.order
  loaded := loaded.trans h.loaded
  pins x hx := by rw [pins, changeover, active]; exact h.pins x hx

theorem Wired.of_sel {s t : State} (h : Wired s) (sel : t.sel = s.sel) : Wired t :=
  h.of_pins (by rw [sel]) (by rw [sel]) (by rw [sel]) (by rw [sel]) fun x => by simp only [State.source, sel]

theorem Settled.of_sel {s t : State} (h : Settled s) (sel : t.sel = s.sel) : Settled t where
  toWired := h.toWired.of_sel sel
  agrees := by
    obtain ⟨order, unloaded, usable⟩ := h.agrees
    refine ⟨by rw [sel]; exact order, fun e => ?_, ?_⟩
    · rw [sel, h.loaded] at e; cases e
    · simpa only [State.usable, State.source, sel] using usable

/-- R11: the beginning of a changeover turns every pin off. -/
theorem beginChangeover_settled {s : State} (h : Wired s) (t : Source) : Settled (beginChangeover t s) := by
  have frame := beginChangeover_frame t s
  obtain ⟨changeover, -, -⟩ := beginChangeover_sel t s
  have order : ∀ x ∈ allSources, x ∈ (beginChangeover t s).sel.settings.order := by
    rw [frame.settings]; exact h.order
  have loaded := frame.loaded.trans h.loaded
  refine ⟨⟨order, loaded, fun x hx => iff_of_false ?_ (by simp [changeover])⟩, order, by simp [loaded],
    by simp [changeover]⟩
  rw [beginChangeover_source]
  intro on
  have pin := h.pins x hx
  split at on
  · cases on
  · next other => exact other (pin.1 on).2

/-- R9: the loss of the active source, where no source is usable. -/
theorem loseSource_settled {s : State} (h : Wired s) {a : Source} (active : s.sel.active = some a)
    (lost : ∀ x, s.usable x = false) : Settled (loseSource a s) := by
  have frame := loseSource_frame a s
  obtain ⟨-, none, -⟩ := loseSource_sel a s
  have order : ∀ x ∈ allSources, x ∈ (loseSource a s).sel.settings.order := by rw [frame.settings]; exact h.order
  have loaded := frame.loaded.trans h.loaded
  refine ⟨⟨order, loaded, fun x hx => iff_of_false ?_ (by simp [none])⟩, order, by simp [loaded],
    fun _ _ => ⟨by simp [none], fun _ x _ => ?_⟩⟩
  · rw [loseSource_source]
    intro on
    have pin := h.pins x hx
    split at on
    · cases on
    · next other => exact other (Option.some.inj (active.symm.trans (pin.1 on).2))
  · rw [State.usable, loseSource_source]
    exact lost x

/-- R8 to R10: an evaluation settles a wired selector. -/
theorem evaluate_settled {s : State} (h : Wired s) : Settled (evaluate s) := by
  rcases evaluate_cases s with ⟨e, why⟩ | ⟨x, -, -, -, e⟩ | ⟨a, -, lost, active, e⟩ <;> rw [e]
  · refine ⟨h, h.order, by simp [h.loaded], fun _ idle => ?_⟩
    have same : selection s.sel.active s = s.sel.active := why.resolve_left (by simp [idle])
    exact ⟨fun x _ active => usable_of_selection (same.trans active),
      fun none x _ => unusable_of_selection h.order (same.trans none) x⟩
  · exact beginChangeover_settled h x
  · exact loseSource_settled h active (unusable_of_selection h.order lost)

/-- A write of a source record that keeps its SEL pin. -/
theorem Wired.setSource {s : State} (h : Wired s) (x : Source) (r : SourceRec)
    (pin : r.selPin = (s.source x).selPin) : Wired (s.setSource x r) := by
  refine h.of_pins ?_ ?_ ?_ ?_ fun y => ?_
  case refine_5 =>
    rw [State.setSource_source]
    split
    · next e => rw [pin, e]
    · rfl
  all_goals simp

/-- R1, R16: a state entered, and its notice. -/
theorem enterSourceState_wired {s : State} (h : Wired s) (x : Source) (st : SourceState) :
    Wired (postSourceState x (enterSourceState x st s)) :=
  Wired.of_sel (s := enterSourceState x st s) (h.setSource x _ rfl) rfl

/-- R5: a change of a grade settles the selector where it evaluates, and changes nothing else. -/
theorem changeSource_wired {s : State} (h : Wired s) (x : Source) (st : SourceState) : Wired (changeSource x st s) := by
  by_cases e : st = (s.source x).state
  · rwa [changeSource_same e]
  · rw [changeSource_new e]
    exact (evaluate_settled (enterSourceState_wired h x st)).toWired

theorem changeSource_settled {s : State} (h : Settled s) (x : Source) (st : SourceState) :
    Settled (changeSource x st s) := by
  by_cases e : st = (s.source x).state
  · rwa [changeSource_same e]
  · rw [changeSource_new e]
    exact evaluate_settled (enterSourceState_wired h.toWired x st)

/-- R4: an enable taken. -/
theorem applyEnable_wired {s : State} (h : Wired s) (x : Source) (on : Bool) : Wired (applyEnable x on s) := by
  have stored := h.setSource x { s.source x with config := { (s.source x).config with enable := on } } rfl
  unfold applyEnable
  dsimp only
  repeat' split
  · exact changeSource_wired (changeSource_wired stored x _) x _
  · exact changeSource_wired stored x _
  · exact stored
  · exact changeSource_wired stored x _

/-! ## The bus before the first load too -/

/-- The two invariants of the bus. -/
def OnBus (s : State) : Prop := BusAgreement s ∧ BreakBeforeMake s

theorem Settled.onBus {s : State} (h : Settled s) : OnBus s := ⟨h.agrees, h.pins⟩

theorem OnBus.settled {s : State} (h : OnBus s) (loaded : s.sel.loaded = true) : Settled s :=
  ⟨⟨h.1.1, loaded, h.2⟩, h.1⟩

/-- R17: out of INIT the selector has been loaded. -/
theorem OnBus.settled_of_mode {s : State} (h : OnBus s) (mode : s.mode ≠ .init) : Settled s := by
  cases loaded : s.sel.loaded with
  | true => exact h.settled loaded
  | false => exact absurd (h.1.2.1 loaded).1 mode

/-- What an operation outside the selector keeps: the selector, and INIT. -/
structure SelectorKept (s t : State) : Prop where
  sel : t.sel = s.sel
  mode : s.mode = .init → t.mode = .init

theorem OnBus.of_kept {s t : State} (h : OnBus s) (kept : SelectorKept s t) : OnBus t := by
  obtain ⟨⟨order, unloaded, usable⟩, pins⟩ := h
  refine ⟨⟨by rw [kept.sel]; exact order, fun e => ?_, ?_⟩, ?_⟩
  · rw [kept.sel] at e ⊢
    obtain ⟨mode, active, changeover⟩ := unloaded e
    exact ⟨kept.mode mode, active, changeover⟩
  · simpa only [State.usable, State.source, kept.sel] using usable
  · simpa only [BreakBeforeMake, State.source, kept.sel] using pins

theorem SelectorKept.of_eq {s t : State} (sel : t.sel = s.sel) (mode : t.mode = s.mode) : SelectorKept s t :=
  ⟨sel, fun h => mode.trans h⟩

theorem HandlingFrame.kept {s t : State} (h : HandlingFrame s t) : SelectorKept s t := .of_eq h.sel h.mode

theorem SelectorKept.refl (s : State) : SelectorKept s s := .of_eq rfl rfl

theorem SelectorKept.trans {s t u : State} (h : SelectorKept s t) (k : SelectorKept t u) : SelectorKept s u :=
  ⟨k.sel.trans h.sel, fun e => k.mode (h.mode e)⟩

/-! ## The selector's events -/

/-- R3, R17: a comparator level alone changes nothing on the bus. -/
theorem OnBus.setComparator {s : State} (h : OnBus s) (x : Source) (b : Bool) :
    OnBus (s.setSource x { s.source x with comparator := b }) := by
  have same : ∀ y, ((s.setSource x { s.source x with comparator := b }).source y).state = (s.source y).state ∧
      ((s.setSource x { s.source x with comparator := b }).source y).selPin = (s.source y).selPin := fun y => by
    rw [State.setSource_source]
    split
    · next e => rw [e]; exact ⟨rfl, rfl⟩
    · exact ⟨rfl, rfl⟩
  obtain ⟨agrees, pins⟩ := h
  constructor
  · simpa [BusAgreement, State.usable, same] using agrees
  · simpa [BreakBeforeMake, same] using pins

theorem selectorSample_onBus {s : State} (h : OnBus s) (x : Source) : OnBus (selectorSample x s) := by
  unfold selectorSample
  split
  · next loaded =>
    have graded := changeSource_settled (h.settled loaded) x
      (grade (s.source x).config (s.source x).state (s.voltage x))
    dsimp only
    split
    · exact (evaluate_settled graded.toWired).onBus
    · exact graded.onBus
  · exact h

/-- R13: the target of a changeover connected. -/
theorem targetClosed_wired {s : State} (h : Wired s) {c : Changeover} (changing : s.sel.changeover = some c)
    (t : Source) : Wired (targetClosed t s) := by
  obtain ⟨active, changeover, settings, loaded, -⟩ := targetClosed_sel t s
  refine ⟨by rw [settings]; exact h.order, loaded.trans h.loaded, fun x hx => ?_⟩
  have off : (s.source x).selPin = false := by
    have pin := h.pins x hx
    simpa [changing] using pin
  rw [targetClosed_source, active, changeover, off]
  simp

/-- R13: a changeover that ends with no source left. -/
theorem failChangeover_settled {s : State} (h : Wired s) {c : Changeover} (changing : s.sel.changeover = some c)
    (lost : ∀ x, s.usable x = false) : Settled (failChangeover s) := by
  obtain ⟨none, changeover, settings, loaded, -⟩ := failChangeover_sel s
  have order : ∀ x ∈ allSources, x ∈ (failChangeover s).sel.settings.order := by rw [settings]; exact h.order
  refine ⟨⟨order, loaded.trans h.loaded, fun x hx => ?_⟩, order, by simp [loaded, h.loaded],
    fun _ _ => ⟨by simp [none],
    fun _ x _ => ?_⟩⟩
  · have pin := h.pins x hx
    rw [failChangeover_source]
    simpa [changing, none] using pin
  · rw [State.usable, failChangeover_source]
    exact lost x

/-- R13: a changeover in progress continued to another source. -/
theorem setChangeover_settled {s : State} (h : Wired s) {c : Changeover} (changing : s.sel.changeover = some c)
    (d : Changeover) : Settled (s.setChangeover (some d)) := by
  refine ⟨⟨h.order, h.loaded, fun x hx => ?_⟩, h.order, by simp [h.loaded], by simp⟩
  have pin := h.pins x hx
  simpa [changing] using pin

theorem finishChangeover_settled {s : State} (h : Wired s) {c : Changeover} (changing : s.sel.changeover = some c)
    (t : Source) : Settled (finishChangeover t s) := by
  unfold finishChangeover
  split
  · rw [closeChangeover_eq]
    exact evaluate_settled (targetClosed_wired h changing t)
  · split
    · exact setChangeover_settled h changing _
    · next lost => exact failChangeover_settled h changing (unusable_of_selection h.order lost)

/-- R11, R17: a changeover runs only in a loaded selector. -/
theorem OnBus.settled_of_changeover {s : State} (h : OnBus s) {c : Changeover} (changing : s.sel.changeover = some c) :
    Settled s := by
  cases loaded : s.sel.loaded with
  | true => exact h.settled loaded
  | false => simp [(h.1.2.1 loaded).2.2] at changing

end Sys2Proof.Machine
end

section
/-! Every step keeps the bus (O55): the engine's events, the switches, the lines and the link leave the selector as it is;
SOURCE_CONFIGURE and the end of INIT end in an evaluation of a wired selector. -/

namespace Sys2Proof.Machine

/-! ## The engine's events -/

theorem holdPort_frame (p : Port) (s : State) : EngineFrame s (holdPort p s) := by
  unfold holdPort
  split
  · exact (mapPort_frame p _ s).trans (pauseSwitch_frame p _).toEngineFrame
  · exact .refl s

theorem beginHold_frame (s : State) : EngineFrame s (beginHold s) := by
  unfold beginHold
  split
  · exact .refl s
  · exact (mapEngine_frame _ s).trans (forEach_rel EngineFrame.refl EngineFrame.trans holdPort_frame _ _)

theorem resumePort_frame (p : Port) (s : State) : EngineFrame s (resumePort p s) := by
  unfold resumePort
  split
  · exact (mapPort_frame p _ s).trans (resumeSwitch_frame p _).toEngineFrame
  · exact .refl s

theorem endHold_frame (s : State) : EngineFrame s (endHold s) :=
  (((mapEngine_frame _ s).trans (forEach_rel EngineFrame.refl EngineFrame.trans resumePort_frame _ _)).trans
    (recompute_frame _).toEngineFrame).trans (opportunity_frame _).toEngineFrame

theorem noSource_frame (s : State) : EngineFrame s (noSource s) :=
  (((mapEngine_frame _ s).trans
    (inOneStep_frame
      (fun u => forEach_rel ShedFrame.refl ShedFrame.trans (dropToShed_frame .noSource) _ u) _).toEngineFrame).trans
    (startHold_frame _).toEngineFrame).trans (opportunity_frame _).toEngineFrame

theorem startCompletes_frame (p : Port) (s : State) : EngineFrame s (startCompletes p s) :=
  ((mapPort_frame p _ s).trans (mapEngine_frame _ _)).trans (opportunity_frame _).toEngineFrame

theorem goFaulted_frame (p : Port) (s : State) : EngineFrame s (goFaulted p s) :=
  ((mapPort_frame p _ s).trans (mapEngine_frame _ _)).trans (switchOff_frame p _).toEngineFrame

theorem faultPort_frame (p : Port) (s : State) : EngineFrame s (faultPort p s) :=
  inOneStep_engineFrame (fun u => ((goFaulted_frame p u).trans (dropChildren_frame 8 p _).toEngineFrame).trans
    (opportunity_frame _).toEngineFrame) s

theorem takeStartComplete_frame (p : Port) (s : State) : EngineFrame s (takeStartComplete p s) := by
  unfold takeStartComplete
  split
  · exact startCompletes_frame p s
  · exact .refl s

theorem takeStartFail_frame (p : Port) (s : State) : EngineFrame s (takeStartFail p s) := by
  unfold takeStartFail
  split
  · exact faultPort_frame p s
  · exact .refl s

theorem takeOpened_frame (p : Port) (s : State) : EngineFrame s (takeOpened p s) := by
  unfold takeOpened
  split
  · exact faultPort_frame p s
  · exact .refl s

theorem takeTrip_frame (p : Port) (o : TripOutcome) (s : State) : EngineFrame s (takeTrip p o s) := by
  cases o
  case opened => exact takeOpened_frame p s
  all_goals exact .refl s

theorem resolveOverdraw_frame (p : Port) (power : Nat) (s : State) : EngineFrame s (resolveOverdraw p power s) := by
  unfold resolveOverdraw
  dsimp only
  split
  · exact mapPort_frame p _ s
  · split
    · exact (mapPort_frame p _ s).trans (shedCheck_frame 8 _).toEngineFrame
    · exact (shed_frame .overdraw p s).toEngineFrame.trans (startHold_frame _).toEngineFrame

theorem overdrawSample_frame (p : Port) (power : Nat) (s : State) : EngineFrame s (overdrawSample p power s) := by
  unfold overdrawSample
  split
  · split
    · split
      · exact (resolveOverdraw_frame p power s).trans (mapPort_frame p _ _)
      · exact mapPort_frame p _ s
    · exact mapPort_frame p _ s
  · exact .refl s

theorem recordRequest_frame (p : Port) (power : Nat) (s : State) : EngineFrame s (recordRequest p power s) := by
  unfold recordRequest
  split
  · exact .refl s
  · split
    · exact releaseIfHeld_frame p s
    · exact acceptRequest_frame p _ _ s

theorem actOnRecord_frame (p : Port) (r : AccRecord) (s : State) : EngineFrame s (actOnRecord p r s) := by
  cases r with
  | announce t w i => exact (mapPort_frame p _ s).trans (recordRequest_frame p _ _)
  | request w => exact recordRequest_frame p _ s

/-- An operation after an update outside the selector. -/
theorem SelectorKept.after {s t u : State} (k : SelectorKept t u) (sel : t.sel = s.sel) (mode : t.mode = s.mode) :
    SelectorKept s u := (SelectorKept.of_eq sel mode).trans k

/-- A handling of the engine: an operation of it, and its end. -/
theorem finish_kept {s t : State} (s0 : State) (h : EngineFrame s t) : SelectorKept s (finish s0 t) :=
  (h.toHandlingFrame.trans (finish_frame s0 t).toHandlingFrame).kept

theorem takeEvent_kept (e : SelEvent) {f : State → State} (hf : ∀ s, EngineFrame s (f s)) (s : State) :
    SelectorKept s (takeEvent e f s) := by
  unfold takeEvent
  split
  · exact .refl s
  · split
    · exact (finish_kept _ (hf _)).after rfl rfl
    · exact .refl s

theorem takeReport_kept (p : Port) (rest : List Report) {f : State → State} (hf : ∀ s, EngineFrame s (f s)) (s : State) :
    SelectorKept s (takeReport p rest f s) :=
  (finish_kept (s.setReports p rest) (hf _)).after rfl rfl

theorem takeRecord_kept (p : Port) (r : AccRecord) (s : State) : SelectorKept s (takeRecord p r s) := by
  unfold takeRecord
  split
  · split
    · exact finish_kept _ (actOnRecord_frame p r s)
    · exact .refl s
  · split
    · exact (finish_kept _ (actOnRecord_frame p r _)).after rfl rfl
    · split
      · exact .of_eq rfl rfl
      · exact .refl s

theorem engineSample_kept (ch : SenseChannel) (s : State) : SelectorKept s (engineSample ch s) := by
  unfold engineSample
  split
  · split
    · exact finish_kept _ (overdrawSample_frame _ _ s)
    · exact .refl s
  · split
    · exact finish_kept _ (recompute_frame s).toEngineFrame
    · exact .refl s

/-! ## The sense unit -/

theorem chooseGain_kept (p : Port) (s : State) : SelectorKept s (chooseGain p s) := by
  unfold chooseGain
  split
  · exact .refl s
  · exact .of_eq rfl rfl

theorem completeSample_kept (ch : SenseChannel) (code : BitVec 12) (g : Option Gain) (s : State) :
    SelectorKept s (completeSample ch code g s) := by
  unfold completeSample rechooseGain
  dsimp only
  split
  · exact .of_eq rfl rfl
  · split
    · exact (chooseGain_kept _ _).after rfl rfl
    · exact .of_eq rfl rfl

theorem selectorPart_onBus {s : State} (h : OnBus s) (ch : SenseChannel) : OnBus (selectorPart ch s) := by
  unfold selectorPart
  split
  · exact h
  · exact selectorSample_onBus h _

theorem takeSample_onBus {s : State} (h : OnBus s) (ch : SenseChannel) (selectorFirst : Bool) :
    OnBus (takeSample ch selectorFirst s) := by
  unfold takeSample
  split
  · exact (selectorPart_onBus h ch).of_kept (engineSample_kept ch _)
  · exact selectorPart_onBus (h.of_kept (engineSample_kept ch s)) ch

/-! ## The lines and the relay pool -/

theorem poolArrive_kept (p : Port) (body : List Byte) (noise : Bool) (s : State) :
    SelectorKept s (poolArrive p body noise s) := by
  unfold poolArrive
  dsimp only
  repeat' split
  all_goals exact .of_eq rfl rfl

theorem applyLineEffect_kept (p : Port) (e : LineEffect) (s : State) : SelectorKept s (applyLineEffect p e s) := by
  cases e with
  | none => exact .refl s
  | handOver r => exact .of_eq rfl rfl
  | deposit body noise => exact poolArrive_kept p body noise s

theorem receiveChar_kept (p : Port) (x : LineSamples) (s : State) : SelectorKept s (receiveChar p x s) :=
  (((setLine_frame p _ s).trans (idleAfterChar_frame p x _)).kept).trans (applyLineEffect_kept p _ _)

/-! ## The commands of the host -/

@[simp] theorem reply_sel (c : Command) (tag : Byte) (r : Result) (fields : List Byte) (s : State) :
    (reply c tag r fields s).sel = s.sel := rfl

@[simp] theorem finish_sel (s0 s : State) : (finish s0 s).sel = s.sel := (finish_frame s0 s).sel

theorem storeConfig_sel (p : Port) (c : PortConfig) (s : State) : (storeConfig p c s).sel = s.sel := by
  have lines : ∀ u : State, (applyLineConfig p c u).sel = u.sel := by
    intro u
    have rate := (setLineRate_frame p c.lineRate u).sel
    unfold applyLineConfig
    dsimp only
    repeat' split
    · exact (turnOnLine_frame p _).sel.trans rate
    · exact (turnOffLine_frame p _).sel.trans rate
    · exact rate
  have disable : ∀ u : State, (applyDisable p c u).sel = u.sel := by
    intro u; unfold applyDisable; split <;> rfl
  unfold storeConfig
  rw [disable, lines, (chooseGain_kept p _).sel, (reconfigureSwitch_frame p _ _).sel]
  rfl

theorem changeMode_sel (dst : Mode) (s : State) : (changeMode dst s).sel = s.sel := by
  unfold changeMode
  dsimp only
  rw [finish_sel, (powerUpMode_frame _ _).sel, (modeShed_frame _ _).sel]
  rfl

/-- R174: SOURCE_CONFIGURE is the only command of the host that reaches the selector. -/
theorem carryOut_sel {c : Command} (h : c ≠ .sourceConfigure) (tag : Byte) (pl : List Byte) (s : State) :
    (carryOut c tag pl s).sel = s.sel := by
  cases c <;> simp only [carryOut]
  case sourceConfigure => exact absurd rfl h
  case portConfigure =>
    simp only [doPortConfigure, configureFor]
    repeat' split
    all_goals simp only [reply_sel, finish_sel]
    rw [(applyConfig_frame _ _ _).sel, storeConfig_sel]
  case portRequest =>
    simp only [doPortRequest, requestFor, replyRequest]
    repeat' split
    all_goals simp only [reply_sel, finish_sel]
    rw [(acceptRequest_frame _ _ _ _).sel]
  case portRelease =>
    simp only [doPortRelease, releaseFor]
    repeat' split
    all_goals simp only [reply_sel, finish_sel]
    rw [(releaseIfHeld_frame _ _).sel]
  case portClear =>
    simp only [doPortClear, clearFor]
    repeat' split
    all_goals simp only [reply_sel, finish_sel]
    rw [(clearFaulted_frame _ _).sel, (clearFaults_frame _ _).sel]
  case setEnvelope =>
    simp only [doSetEnvelope]
    split
    · rfl
    · simp only [reply_sel, finish_sel, (recomputeUnlessHeld_frame _).sel]
      rfl
  case setMode =>
    simp only [doSetMode, replyMode]
    repeat' split
    all_goals simp only [reply_sel, changeMode_sel]
  case relaySend =>
    unfold doRelaySend
    split
    · rfl
    · rfl
    · exact (reachNext_frame _ _ _ _).sel
  case relayCancel => simp only [doRelayCancel, cancelSend]; repeat' split
                      all_goals rfl
  case relayFetch => simp only [doRelayFetch, fetchAny, fetchPort, fetchRecord]; repeat' split
                     all_goals rfl
  case lineReset => simp only [doLineReset]; repeat' split
                    all_goals rfl
  case linkSet => simp only [doLinkSet]; split <;> rfl
  case noticeConfig => simp only [doNoticeConfig]; repeat' split
                       all_goals rfl
  case noticeFetch => simp only [doNoticeFetch]; split <;> rfl
  case reset => simp only [doReset]; repeat' split
                all_goals rfl
  case measure => simp only [doMeasure]; repeat' split
                  all_goals rfl
  case portQuery => simp only [doPortQuery]; split <;> rfl
  case profileRead => simp only [doProfileRead]; repeat' split
                      all_goals rfl
  case profileWrite => simp only [doProfileWrite, writePayload, writeLive]; repeat' split
                       all_goals rfl
  case profileProtect => simp only [doProfileProtect, protectSession, protectMap]; repeat' split
                         all_goals rfl
  all_goals rfl

theorem mem_orderOfCodes {a b c : Nat} {l : List Source} (h : orderOfCodes a b c = some l) (x : Source) : x ∈ l := by
  unfold orderOfCodes at h
  split at h
  · next u v w _ _ _ =>
    split at h
    · next distinct =>
      obtain ⟨uv, vw, uw⟩ := distinct
      cases h
      cases u <;> cases v <;> cases w <;> cases x <;> simp_all
    · cases h
  · cases h

/-- R14, R158: a priority order read from any bytes names every source. -/
theorem mem_readSettings_order (b : List Byte) (x : Source) : x ∈ (readSettings b).order := by
  unfold readSettings
  dsimp only
  cases order : orderOfCodes (byteAt b 1) (byteAt b 2) (byteAt b 3) with
  | none => cases x <;> decide
  | some l => exact mem_orderOfCodes order x

/-- A source record and the settings stored: no pin is touched. -/
theorem storeSourceSettings_wired {s : State} (h : Wired s) (x : Source) (c : SourceConfig) {g : SelSettings}
    (order : ∀ y ∈ allSources, y ∈ g.order) : Wired (storeSourceSettings x c g s) := by
  have stored := h.setSource x (loadSourceNumbers c (s.source x)) rfl
  exact ⟨order, stored.loaded, stored.pins⟩

/-- R14: SOURCE_CONFIGURE ends in an evaluation. -/
theorem configureSource_settled {s : State} (h : Wired s) (x : Source) (pl : List Byte) :
    Settled (configureSource x pl s) :=
  evaluate_settled (applyEnable_wired
    (storeSourceSettings_wired h x _ fun y _ => mem_readSettings_order _ y) x _)

theorem carryOut_settled {s : State} (h : Settled s) (c : Command) (tag : Byte) (pl : List Byte) :
    Settled (carryOut c tag pl s) := by
  by_cases own : c = .sourceConfigure
  · subst own
    simp only [carryOut, doSourceConfigure]
    repeat' split
    case h_2.isFalse.isFalse => exact (configureSource_settled h.toWired _ pl).of_sel rfl
    all_goals exact h.of_sel rfl
  · exact h.of_sel (carryOut_sel own tag pl s)

/-- R112, R174: in INIT the decoder answers BUSY; out of it a command is carried out on a loaded selector. -/
theorem decodeFrame_onBus {s : State} (h : OnBus s) (f : Frame) : OnBus (decodeFrame f s) := by
  unfold decodeFrame
  split
  · exact h.of_kept (.of_eq rfl rfl)
  · next mode =>
    have settled := h.settled_of_mode mode
    unfold decodeListed
    repeat' split
    case h_2.isFalse.isFalse => exact ((carryOut_settled settled _ _ _).of_sel rfl).onBus
    all_goals exact (settled.of_sel rfl).onBus

theorem handGoodFrame_kept (f : Frame) (s : State) : SelectorKept s (handGoodFrame f s) := by
  unfold handGoodFrame
  repeat' split
  all_goals exact .of_eq rfl rfl

theorem takeHead_onBus {s : State} (h : OnBus s) : OnBus (takeHead s) := by
  unfold takeHead
  split
  · exact h
  · split
    · next f rest _ _ =>
      have alone : OnBus (s.setLink { s.link with commands := [] }) := h.of_kept (.of_eq rfl rfl)
      exact OnBus.of_kept (t := keepWaiting rest _) (decodeFrame_onBus alone f) (.of_eq rfl rfl)
    · exact h

theorem offerFrame_onBus {s : State} (h : OnBus s) (f : Frame) : OnBus (offerFrame f s) := by
  unfold offerFrame
  repeat' split
  · exact h
  · exact takeHead_onBus (h.of_kept (handGoodFrame_kept f s))
  · exact takeHead_onBus h
  · exact h.of_kept (handGoodFrame_kept f s)

/-! ## The link's receiver -/

theorem frameByte_kept (b : List Byte) (s : State) : SelectorKept s (frameByte b s) := by
  unfold frameByte completeFrame
  dsimp only
  repeat' split
  case isFalse.isTrue.isTrue => exact (handGoodFrame_kept _ _).after rfl rfl
  all_goals exact .of_eq rfl rfl

theorem linkByte_kept (d : Byte) (s : State) : SelectorKept s (linkByte d s) := by
  unfold linkByte
  split
  · split <;> exact .of_eq rfl rfl
  · exact frameByte_kept _ s

theorem receiveLinkChar_kept (x : LinkSamples) (s : State) : SelectorKept s (receiveLinkChar x s) := by
  unfold receiveLinkChar
  dsimp only
  split
  · exact (linkByte_kept _ _).after rfl rfl
  · exact .of_eq rfl rfl

end Sys2Proof.Machine
end

section
/-! Every step keeps the bus, assembled (O55): the end of INIT, the resets, a microsecond, and the commands one by one. -/

namespace Sys2Proof.Machine

/-! ## The end of INIT (R17, R18, R113) -/

theorem mem_loadedSystem_order (x : Slot) (y : Source) : y ∈ (loadedSystem x).settings.order := by
  unfold loadedSystem
  split
  · exact mem_readSettings_order _ y
  · cases y <;> decide

/-- New selection settings, in a selector marked as loaded. -/
theorem OnBus.wired_of_settings {s : State} (h : OnBus s) {g : SelSettings} (order : ∀ y ∈ allSources, y ∈ g.order) :
    Wired { s with sel := { s.sel with settings := g, loaded := true } } := ⟨order, rfl, h.2⟩

theorem firstOver_wired {s : State} (h : Wired s) (x : Source) : Wired (firstOver x s) := by
  unfold firstOver
  split
  · exact changeSource_wired h x .over
  · exact h

/-- R17: the first load. -/
theorem loadSelectorFirst_settled {s : State} (h : OnBus s) {x : SystemProfile}
    (order : ∀ y, y ∈ x.settings.order) : Settled (loadSelectorFirst x s) := by
  have configured := forEach_keeps (I := Wired)
    (f := fun i u => u.setSource i (firstSource (x.source i) (u.source i)))
    (fun i u hu => hu.setSource i _ rfl) allSources (h.wired_of_settings fun y _ => order y)
  unfold loadSelectorFirst
  exact evaluate_settled
    (forEach_keeps (I := Wired) (f := firstOver) (fun i u hu => firstOver_wired hu i) allSources configured)

/-- R18: a later load. -/
theorem loadSelectorAgain_settled {s : State} (h : OnBus s) (loaded : s.sel.loaded = true) {x : SystemProfile}
    (order : ∀ y, y ∈ x.settings.order) : Settled (loadSelectorAgain x s) := by
  have stored : Wired { s with sel := { s.sel with settings := x.settings } } := ⟨fun y _ => order y, loaded, h.2⟩
  have configured := forEach_keeps (I := Wired)
    (f := fun i u => u.setSource i (loadSourceNumbers (x.source i) (u.source i)))
    (fun i u hu => hu.setSource i _ rfl) allSources stored
  unfold loadSelectorAgain
  exact evaluate_settled (forEach_keeps (I := Wired) (f := fun i u => applyEnable i (x.source i).enable u)
    (fun i u hu => applyEnable_wired hu i _) allSources configured)

theorem loadSelector_settled {s : State} (h : OnBus s) {x : SystemProfile} (order : ∀ y, y ∈ x.settings.order) :
    Settled (loadSelector x s) := by
  unfold loadSelector
  split
  · next loaded => exact loadSelectorAgain_settled h loaded order
  · exact loadSelectorFirst_settled h order

/-- A loop whose body leaves the selector alone leaves it alone. -/
theorem forEach_sel {α : Type} {f : α → State → State} (hf : ∀ x s, (f x s).sel = s.sel) (l : List α) (s : State) :
    (forEach l f s).sel = s.sel :=
  forEach_rel (R := fun s t => t.sel = s.sel) (fun _ => rfl) (fun h k => k.trans h) hf l s

theorem loadPort_sel (p : Port) (s : State) : (loadPort p s).sel = s.sel := by
  unfold loadPort
  dsimp only
  rw [(setLineRate_frame p _ _).sel, (chooseGain_kept p _).sel, (reconfigureSwitch_frame p _ _).sel]
  rfl

theorem breakCycle_sel (p : Port) (s : State) : (breakCycle p s).sel = s.sel := by
  unfold breakCycle
  split <;> rfl

theorem coldStartPort_sel (p : Port) (s : State) : (coldStartPort p s).sel = s.sel := by
  unfold coldStartPort
  dsimp only
  split <;> rfl

theorem firstEnvelope_sel (s : State) : (firstEnvelope s).sel = s.sel := by
  unfold firstEnvelope
  split
  · rfl
  · exact (recompute_frame s).sel

theorem prepareEngine_sel (s : State) : (prepareEngine s).sel = s.sel := by
  unfold prepareEngine
  dsimp only
  rw [forEach_sel (fun p u => by split <;> rfl), forEach_sel coldStartPort_sel, firstEnvelope_sel]

theorem loadSettings_sel (x : SystemProfile) (s : State) : (loadSettings x s).sel = s.sel := rfl

theorem applyProfiles_settled {s : State} (h : OnBus s) : Settled (applyProfiles s) := by
  have loaded := loadSelector_settled h (mem_loadedSystem_order (tget s.store.slots 8))
  refine loaded.of_sel ?_
  unfold applyProfiles
  dsimp only
  rw [prepareEngine_sel, forEach_sel breakCycle_sel, loadSettings_sel, forEach_sel loadPort_sel]

theorem leaveInit_sel (s : State) : (leaveInit s).sel = s.sel := by
  unfold leaveInit
  dsimp only
  rw [postNotice_sel]
  split
  · rw [(opportunity_frame _).sel, (turnRailsOn_frame _).sel]
  · rfl

theorem endInit_settled {s : State} (h : OnBus s) : Settled (endInit s) :=
  (applyProfiles_settled h).of_sel (by rw [endInit, finish_sel, leaveInit_sel])

/-! ## The resets (R17, R18) -/

theorem hardReset_onBus (lock : Bool) (s : State) : OnBus (hardReset lock s) := by
  refine ⟨⟨(by decide : ∀ x ∈ allSources, x ∈ factorySelSettings.order), fun _ => ⟨rfl, rfl, rfl⟩, nofun⟩, fun x _ => ?_⟩
  rw [hardReset_source]
  exact ⟨nofun, fun h => nomatch h.2⟩

/-! ## A microsecond (R2, R11) -/

theorem tick_source (s : State) (h : s.resetHeld = false) (x : Source) :
    (tick s).source x = tickSource (s.source x) := by
  unfold tick
  rw [if_neg (by simp [h])]
  cases x <;> rfl

theorem tick_onBus {s : State} (h : OnBus s) : OnBus (tick s) := by
  cases held : s.resetHeld with
  | true => simpa [tick, held] using h
  | false =>
    obtain ⟨⟨order, unloaded, usable⟩, pins⟩ := h
    have sel : (tick s).sel = tickSelector s.sel := by simp [tick, held]
    have mode : (tick s).mode = s.mode := by simp [tick, held]
    have changing : (tickSelector s.sel).changeover = none ↔ s.sel.changeover = none := Option.map_eq_none_iff
    refine ⟨⟨by rw [sel]; exact order, ?_, ?_⟩, ?_⟩
    · rw [sel, mode, changing]
      exact unloaded
    · simp only [State.usable, tick_source s held, sel, changing]
      exact usable
    · simp only [BreakBeforeMake, tick_source s held, sel, changing]
      exact pins

/-! ## The events of a switch: each is a switch operation (R36, R39 to R49) -/

theorem execPowerGood_frame {p : Port} {s t : State} (h : execPowerGood p s = .next t) : SwitchFrame s t := by
  cases h
  split
  · exact takePowerGood_frame p s
  · exact setSwitch_frame p _ s
  · exact setSwitch_frame p _ s
  all_goals exact .refl s

theorem execStartTimeout_frame {p : Port} {s t : State} (h : execStartTimeout p s = .next t) : SwitchFrame s t := by
  cases h
  split
  · split
    · exact faultReport_frame p _ _ s
    · exact .refl s
  all_goals exact .refl s

theorem execHardTrip_frame {p : Port} {s t : State} (h : execHardTrip p s = .next t) : SwitchFrame s t := by
  cases h
  split
  · exact faultReport_frame p _ _ s
  · exact faultReport_frame p _ _ s
  · exact hardTripClosed_frame p s
  · exact retryTrip_frame p _ _ _ s
  all_goals exact .refl s

theorem execTripComparatorReleases_frame {p : Port} {s t : State} (h : execTripComparatorReleases p s = .next t) :
    SwitchFrame s t := by
  cases h
  split <;> exact setSwitch_frame p _ s

theorem execFilteredTrip_frame {p : Port} {s t : State} (h : execFilteredTrip p s = .next t) : SwitchFrame s t := by
  cases h
  split
  · exact filteredTripClosed_frame p s
  · exact .refl s

theorem execCoolingExpiry_frame {p : Port} {s t : State} (h : execCoolingExpiry p s = .next t) : SwitchFrame s t := by
  cases h
  split
  · exact setSwitch_frame p _ s
  all_goals exact .refl s

theorem execRecloseTimeout_frame {p : Port} {s t : State} (h : execRecloseTimeout p s = .next t) :
    SwitchFrame s t := by
  cases h
  split
  · exact retryTrip_frame p _ _ _ s
  all_goals exact .refl s

theorem execCleanRun_frame {p : Port} {s t : State} (h : execCleanRun p s = .next t) : SwitchFrame s t := by
  cases h
  split
  · split
    · exact setSwitch_frame p _ s
    · exact .refl s
  all_goals exact .refl s

/-! ## The events of a line: each is an operation of the lines and the send channels (R123 to R133, R151) -/

theorem execLineValidStart_frame {p : Port} {s t : State} (h : execLineValidStart p s = .next t) : LineFrame s t := by
  cases h
  split
  · exact setLine_frame p _ s
  · exact .refl s

theorem execLineGapExpiry_frame {p : Port} {s t : State} (h : execLineGapExpiry p s = .next t) : LineFrame s t := by
  cases h
  split
  · exact setLine_frame p _ s
  · exact .refl s

theorem execLineBreak_frame {p : Port} {s t : State} (h : execLineBreak p s = .next t) : LineFrame s t := by
  cases h
  split
  · exact (setLine_frame p _ s).trans (holdLow_frame p _)
  · exact .refl s

theorem execPendingRateInForce_frame {p : Port} {s t : State} (h : execPendingRateInForce p s = .next t) :
    LineFrame s t := by
  cases h
  split
  · exact .refl s
  · split
    · exact setLine_frame p _ s
    · exact .refl s

theorem execBreakEnd_frame {p : Port} {s t : State} (h : execBreakEnd p s = .next t) : LineFrame s t := by
  cases h
  split
  · exact (setLine_frame p _ s).trans (holdLow_frame p _)
  · exact .refl s

theorem execRecordStart_frame {p : Port} {s t : State} (h : execRecordStart p s = .next t) : LineFrame s t := by
  cases h
  split
  · exact startRecord_frame p s
  · exact .refl s

theorem execRecordSent_frame {p : Port} {s t : State} (h : execRecordSent p s = .next t) : LineFrame s t := by
  cases h
  split
  · exact ((setLine_frame p _ s).trans (countIdle_frame p _ _)).trans (reportItem_frame _ _ _)
  · exact .refl s

theorem execCollision_frame {p : Port} {s t : State} (h : execCollision p s = .next t) : LineFrame s t := by
  cases h
  split
  · exact collide_frame p s
  · exact .refl s

theorem execBackoffStart_frame {p : Port} {s t : State} (h : execBackoffStart p s = .next t) : LineFrame s t := by
  cases h
  split
  · exact setLine_frame p _ s
  · exact .refl s

theorem execBackoffExpiry_frame {p : Port} {s t : State} (h : execBackoffExpiry p s = .next t) : LineFrame s t := by
  cases h
  split
  · exact setLine_frame p _ s
  · exact .refl s

theorem execChannelWaitExpiry_frame {c : SendNo} {s t : State} (h : execChannelWaitExpiry c s = .next t) :
    LineFrame s t := by
  cases h
  split
  · exact .refl s
  · split
    · exact (leaveLine_frame c _ s).trans (recordOutcome_frame c _ _)
    all_goals exact .refl s

theorem execCharacterReceived_kept {p : Port} {x : LineSamples} {s t : State}
    (h : execCharacterReceived p x s = .next t) : SelectorKept s t := by
  cases h
  split
  · exact receiveChar_kept p x s
  · exact .refl s

/-! ## The events of the engine -/

theorem execGraceExpiry_kept {p : Port} {s t : State} (h : execGraceExpiry p s = .next t) : SelectorKept s t := by
  cases h
  split
  · exact finish_kept s (inOneStep_frame (dropTree_frame _ p) s).toEngineFrame
  · exact .refl s

theorem execRestoreHoldExpiry_kept {s t : State} (h : execRestoreHoldExpiry s = .next t) : SelectorKept s t := by
  cases h
  split
  · exact finish_kept s ((mapEngine_frame _ s).trans (opportunity_frame _).toEngineFrame)
  · exact .refl s

theorem execStartComplete_kept {p : Port} {s t : State} (h : execStartComplete p s = .next t) : SelectorKept s t := by
  cases h
  split
  · exact takeReport_kept p _ (takeStartComplete_frame p) s
  all_goals exact .refl s

theorem execStartFail_kept {p : Port} {s t : State} (h : execStartFail p s = .next t) : SelectorKept s t := by
  cases h
  split
  · exact takeReport_kept p _ (takeStartFail_frame p) s
  all_goals exact .refl s

theorem execTrip_kept {p : Port} {s t : State} (h : execTrip p s = .next t) : SelectorKept s t := by
  cases h
  split
  · exact takeReport_kept p _ (takeTrip_frame p _) s
  all_goals exact .refl s

theorem execRetryLimit_kept {p : Port} {s t : State} (h : execRetryLimit p s = .next t) : SelectorKept s t := by
  cases h
  split
  · exact takeReport_kept p _ (takeOpened_frame p) s
  all_goals exact .refl s

/-! ## The events of the link, the store and the sense unit -/

theorem execLinkCharacterReceived_kept {x : LinkSamples} {s t : State}
    (h : execLinkCharacterReceived x s = .next t) : SelectorKept s t := by
  cases h
  split
  · exact receiveLinkChar_kept x s
  · exact .refl s

theorem execWriteComplete_kept {s t : State} (h : execWriteComplete s = .next t) : SelectorKept s t := by
  cases h
  repeat' split
  all_goals exact .of_eq rfl rfl

theorem execProtectionWriteComplete_kept {s t : State} (h : execProtectionWriteComplete s = .next t) :
    SelectorKept s t := by
  cases h
  repeat' split
  all_goals exact .of_eq rfl rfl

/-- R183: the link reset leaves the selector as it is, and enters INIT. -/
theorem execFrameEnd_kept {s t : State} (h : execFrameEnd s = .next t) : SelectorKept s t := by
  cases h
  split
  · exact .refl s
  · split
    · exact ⟨rfl, fun _ => rfl⟩
    · exact .of_eq rfl rfl

/-- A row of the link that writes the link's record, or nothing. -/
theorem setLink_kept_of_cond (b : Bool) (l : Link) (s : State) : SelectorKept s (if b then s else s.setLink l) := by
  split
  · exact .refl s
  · exact .of_eq rfl rfl

/-! ## The commands one by one -/

/-- R9 to R13, R17: every command keeps the bus. -/
theorem exec_onBus {i : Instr} {s t : State} (bus : OnBus s) (h : exec i s = .next t) : OnBus t := by
  cases i with
  | por => cases h; exact hardReset_onBus _ s
  | pinReset => cases h; exact hardReset_onBus _ s
  | loadingComplete =>
    cases h
    split
    · exact (endInit_settled bus).onBus
    · exact bus
  | lockChange low => cases h; exact bus.of_kept (.of_eq rfl rfl)
  | resetRelease => cases h; exact bus.of_kept (.of_eq rfl rfl)
  | sampleCompletion ch code selectorFirst =>
    cases h
    split
    · exact bus
    · exact takeSample_onBus (bus.of_kept (completeSample_kept ch code _ s)) ch selectorFirst
  | conversionStart ch =>
    cases h
    split
    · exact bus.of_kept (.of_eq rfl rfl)
    · exact bus
  | qualifyExpiry x =>
    cases h
    split
    · next due => exact (changeSource_settled (bus.settled due.1) x _).onBus
    · exact bus
  | comparatorAsserts x =>
    cases h
    have level := bus.setComparator x true
    split
    · next moves => exact (changeSource_settled (level.settled (by simp [moves.1])) x .over).onBus
    · exact level
  | comparatorReleases x =>
    cases h
    have level := bus.setComparator x false
    split
    · next moves => exact (changeSource_settled (level.settled (by simp [moves.1])) x .qualifying).onBus
    · exact level
  | changeoverEnd =>
    cases h
    split
    · exact bus
    · next c changing =>
      split
      · exact (finishChangeover_settled (bus.settled_of_changeover changing).toWired changing c.target).onBus
      · exact bus
  | changeoverBeginEvent => cases h; exact bus.of_kept (takeEvent_kept _ beginHold_frame s)
  | changeoverEndEvent => cases h; exact bus.of_kept (takeEvent_kept _ endHold_frame s)
  | noSourceEvent => cases h; exact bus.of_kept (takeEvent_kept _ noSource_frame s)
  | graceExpiry p => exact bus.of_kept (execGraceExpiry_kept h)
  | restoreHoldExpiry => exact bus.of_kept (execRestoreHoldExpiry_kept h)
  | powerGood p => exact bus.of_kept (execPowerGood_frame h).kept
  | startTimeout p => exact bus.of_kept (execStartTimeout_frame h).kept
  | hardTrip p => exact bus.of_kept (execHardTrip_frame h).kept
  | tripComparatorAsserts p => cases h; exact bus.of_kept (setSwitch_frame p _ s).kept
  | tripComparatorReleases p => exact bus.of_kept (execTripComparatorReleases_frame h).kept
  | filteredTrip p => exact bus.of_kept (execFilteredTrip_frame h).kept
  | coolingExpiry p => exact bus.of_kept (execCoolingExpiry_frame h).kept
  | recloseTimeout p => exact bus.of_kept (execRecloseTimeout_frame h).kept
  | cleanRun p => exact bus.of_kept (execCleanRun_frame h).kept
  | startComplete p => exact bus.of_kept (execStartComplete_kept h)
  | startFail p => exact bus.of_kept (execStartFail_kept h)
  | trip p => exact bus.of_kept (execTrip_kept h)
  | retryLimit p => exact bus.of_kept (execRetryLimit_kept h)
  | announce p typeCode power identity => cases h; exact bus.of_kept (takeRecord_kept p _ s)
  | request p power => cases h; exact bus.of_kept (takeRecord_kept p _ s)
  | characterReceived p x => exact bus.of_kept (execCharacterReceived_kept h)
  | lineValidStart p => exact bus.of_kept (execLineValidStart_frame h).kept
  | lineGapExpiry p => exact bus.of_kept (execLineGapExpiry_frame h).kept
  | lineBreak p => exact bus.of_kept (execLineBreak_frame h).kept
  | pendingRateInForce p => exact bus.of_kept (execPendingRateInForce_frame h).kept
  | breakEnd p => exact bus.of_kept (execBreakEnd_frame h).kept
  | recordStart p => exact bus.of_kept (execRecordStart_frame h).kept
  | recordSent p => exact bus.of_kept (execRecordSent_frame h).kept
  | collision p => exact bus.of_kept (execCollision_frame h).kept
  | backoffStart p => exact bus.of_kept (execBackoffStart_frame h).kept
  | backoffExpiry p => exact bus.of_kept (execBackoffExpiry_frame h).kept
  | channelWaitExpiry c => exact bus.of_kept (execChannelWaitExpiry_frame h).kept
  | writeComplete => exact bus.of_kept (execWriteComplete_kept h)
  | protectionWriteComplete => exact bus.of_kept (execProtectionWriteComplete_kept h)
  | linkCharacterReceived x => exact bus.of_kept (execLinkCharacterReceived_kept h)
  | linkValidStart => cases h; exact bus.of_kept (setLink_kept_of_cond _ _ s)
  | linkGapExpiry =>
    cases h
    split
    · exact bus.of_kept (.of_eq rfl rfl)
    · exact bus
  | linkBreak =>
    cases h
    split
    · exact bus.of_kept (.of_eq rfl rfl)
    · exact bus
  | frameBegin => cases h; exact bus.of_kept (setLink_kept_of_cond _ _ s)
  | receiverRateChange => cases h; exact bus.of_kept (setLink_kept_of_cond _ _ s)
  | frameEnd => exact bus.of_kept (execFrameEnd_kept h)
  | _ => cases h; exact offerFrame_onBus bus _

end Sys2Proof.Machine

open Sys2Proof Sys2Proof.Machine

/-- Settles O55: a step is a microsecond or a command. -/
theorem stepKeepsTheBus : Obligations.StepKeepsTheBus := by
  intro s t agrees pins stepped
  unfold step at stepped
  split at stepped
  · cases stepped
    exact tick_onBus ⟨agrees, pins⟩
  · next i rest _ =>
    have bus : OnBus { s with pending := rest } := ⟨agrees, pins⟩
    exact exec_onBus bus stepped

end

section
/-! The commands that a free decoder carries out at once (R173 to R175), the bytes of their replies (R185), and the
queries (O45). -/

namespace Sys2Proof.Machine

/-! ## A command that a free decoder takes -/

theorem commandOfType_type (c : Command) : commandOfType c.type = some c := by cases c <;> decide

/-- R173, R174: a free decoder hands a command of the right length to its owner, unless it needs the lines. -/
theorem offerCommand_carried {c : Command} {tag : Byte} {pl : List Byte} {s : State} (free : DecoderFree s)
    (length : lengthMatches c pl = true) (lines : c.needsLines = false) :
    offerCommand c tag pl s = setPrepared (c == .resetPrepare) (carryOut c tag pl s) := by
  obtain ⟨held, mode, empty, place, pending⟩ := free
  have ready : s.link.ready = true := by simp [Link.ready, place, pending]
  rw [offerCommand, offerFrame_alone _ s held empty ready]
  simp [decodeFrame, mode, commandOfType_type, decodeListed, length, lines]

/-- R174, R175, R182: a command whose owner answers leaves that answer at the end of the reply queue. -/
theorem offerCommand_answered {c : Command} {tag : Byte} {pl fields : List Byte} {r : Result} {s t : State}
    (free : DecoderFree s) (length : lengthMatches c pl = true) (lines : c.needsLines = false)
    (other : (c == .resetPrepare) = false) (carried : carryOut c tag pl s = reply c tag r fields t) :
    offerCommand c tag pl s = answered c tag r fields t := by
  rw [offerCommand_carried free length lines, carried, other]
  rfl

/-! ## The bytes of a reply (R185, Table 12-1) -/

theorem flagByte_eq (b : Bool) : flagByte b = BitVec.ofNat 8 (if b = true then 1 else 0) := by cases b <;> rfl

theorem leBytes_two (n : Nat) : leBytes 2 n = [BitVec.ofNat 8 n, BitVec.ofNat 8 (n / 256)] := rfl

theorem leBytes_four (n : Nat) :
    leBytes 4 n =
      [BitVec.ofNat 8 n, BitVec.ofNat 8 (n / 256), BitVec.ofNat 8 (n / 65536), BitVec.ofNat 8 (n / 16777216)] := by
  simp [leBytes, Nat.div_div_eq_div_mul]

theorem byteAt_singleton {n : Nat} (h : n < 256) : byteAt [BitVec.ofNat 8 n] 0 = n := by
  simp [byteAt, Nat.mod_eq_of_lt h]

theorem portOfCode_val (p : Port) : portOfCode p.val = some p := by simp [portOfCode]

theorem slotOfCode_val (n : Fin 9) : slotOfCode n.val = some n := by simp [slotOfCode]

theorem channelOfCode_val (ch : SenseChannel) : channelOfCode ch.val = some ch := by
  simp [channelOfCode]

/-! ## The fields of the queries -/

theorem enforced_eq_decide (s : State) :
    s.enforced =
      decide (s.store.sessionLock = true ∨ s.store.protection.mode = .fixed ∨
        (s.store.protection.mode = .pin ∧ s.lockLow = true)) := by
  rw [Bool.eq_iff_iff]
  simp [State.enforced, or_assoc]

theorem retained_eq_sum (s : State) :
    s.retained =
      ((s.engine.granted.filter (fun p => decide (s.alloc p ≠ .shedding))).map (fun p => (s.port p).grant)).sum := by
  simp only [State.retained, State.grants, bne, beq_eq_decide, decide_not, ne_eq]

/-- R86: the place of a port in a list that holds it. -/
theorem placeIn_of_mem {l : List Port} {p : Port} (h : p ∈ l) : placeIn l p = byte (l.idxOf p) := by
  have found : l.findIdx? (fun q => q == p) = some (l.idxOf p) :=
    List.findIdx?_eq_some_iff_findIdx_eq.2 ⟨List.idxOf_lt_length_iff.2 h, rfl⟩
  simp only [placeIn, found]

theorem listFields_eq (e : Engine) (p : Port) :
    listFields e p =
      if p ∈ e.queue then [1, BitVec.ofNat 8 (e.queue.idxOf p)]
      else if p ∈ e.granted then [2, BitVec.ofNat 8 (e.granted.idxOf p)] else [0, 0xFF] := by
  unfold listFields
  simp only [List.contains_iff_mem]
  split
  · next queued => rw [placeIn_of_mem queued]; rfl
  · split
    · next granted => rw [placeIn_of_mem granted]; rfl
    · rfl

theorem holdsSlot_eq_decide (e : Engine) (p : Port) :
    e.holdsSlot p = decide (e.slot0 = some p ∨ e.slot1 = some p) := by
  rw [Bool.eq_iff_iff]
  simp [Engine.holdsSlot]

theorem entryPower_eq (s : State) (ch : SenseChannel) :
    s.entryPower ch =
      if (s.sample ch).gain = none then 0 else (s.sample busChannel).filtered * (s.sample ch).filtered / 1000 := by
  unfold State.entryPower
  cases (s.sample ch).gain <;> rfl

/-- Tables 9-1 and 9-2: the factory defaults of a slot, byte by byte. -/
theorem factorySlotBytes_eq (n : Fin 9) :
    factorySlotBytes n =
      if n.val < 8 then
        [1, BitVec.ofNat 8 n.val, 0, 48, 117, 0, 0, 160, 15, 16, 3, 4, 4, 244, 1, 255, 1, 16, 0, 0, 0, 0]
      else
        [1, 16, 39, 144, 51, 80, 45, 1, 16, 39, 144, 51, 80, 45, 1, 64, 31, 248, 42, 16, 39, 0, 2, 0, 1, 200, 0,
          168, 97, 0, 0, 136, 19, 0, 0, 208, 7, 2] := by
  fin_cases n <;> decide

theorem identityFields_eq (i : Option Identity) :
    identityFields i =
      match i with
      | none => [0, 0, 0, 0, 0, 0, 0, 0, 0, 0]
      | some i => [1, i.typeCode] ++ i.bytes.toList := by
  cases i <;> rfl

end Sys2Proof.Machine

open Sys2Proof Sys2Proof.Machine

/-- Settles O45, query by query. -/
theorem queriesAnswerAndChangeNothing : Obligations.QueriesAnswerAndChangeNothing := by
  intro tag s free one two four flag sourceNo activeNo gradeNo selectionNo modeNo deliveryNo allocNo reasonNo originNo
    classNo policyNo filterNo tripModeNo rampNo portNo rateNo switchNo faultNo lineEventNo protectionNo directionNo
    gainNo scaled total committed retained enforced sourceEntry changeoverEntry queueEntry grantedEntry measured
    configEntry identityEntry place answers
  have flag_eq : ∀ b, flagByte b = flag b := flagByte_eq
  have two_eq : ∀ n, leBytes 2 n = two n := leBytes_two
  have four_eq : ∀ n, leBytes 4 n = four n := leBytes_four
  have active_eq : ∀ a, byte (activeCode a) = activeNo a := fun a => by cases a <;> rfl
  have slot_eq : ∀ a, slotByte a = portNo a := fun a => by cases a <;> rfl
  have changeover_eq : ∀ c, changeoverFields c = changeoverEntry c := fun c => by cases c <;> rfl
  have scaled_eq : ∀ ch, (s.sample ch).filtered = scaled ch := fun ch => by
    simp only [ChannelRec.filtered, ChannelRec.filteredCode, scaled]
    rcases (s.sample ch).gain with _ | _ | _ | _ | _ <;> rfl
  have source_eq : ∀ x, Machine.sourceEntry s x = sourceEntry x (sourceChannel x) := fun x => by
    simp only [Machine.sourceEntry, State.voltage, scaled_eq, flag_eq, two_eq]
    rfl
  have queue_eq : Machine.queueEntry s = queueEntry := funext fun p => by
    simp only [Machine.queueEntry, four_eq]
    rfl
  have granted_eq : Machine.grantedEntry s = grantedEntry := funext fun p => by
    simp only [Machine.grantedEntry, four_eq]
    rfl
  have measure_eq : measureEntry s = measured := funext fun ch => by
    simp only [measureEntry, entryPower_eq, scaled_eq, flag_eq, two_eq, four_eq]
    rfl
  have config_eq : ∀ c, writePortFields c = configEntry c := fun c => by
    have parent_eq : byte (parentCode c.parent) = portNo c.parent := by cases c.parent <;> rfl
    simp only [writePortFields, flag_eq, two_eq, four_eq, parent_eq]
    rfl
  have place_eq : ∀ p, listFields s.engine p = place p := listFields_eq s.engine
  have identity_eq : ∀ i, identityFields i = identityEntry i := identityFields_eq
  have answer : ∀ {c : Command} {pl fields given : List Byte}, lengthMatches c pl = true → c.needsLines = false →
      (c == .resetPrepare) = false → carryOut c tag pl s = reply c tag .ok given s → given = fields →
      Host.Outcome.next (offerCommand c tag pl s) =
        (.next (answered c tag .ok fields s) : Host.Outcome State Fault Refusal) :=
    fun length lines other carried same => by rw [offerCommand_answered free length lines other carried, same]
  refine ⟨answer rfl rfl rfl rfl (by decide), answer rfl rfl rfl rfl ?_, answer rfl rfl rfl rfl ?_,
    answer rfl rfl rfl rfl ?_, fun ch => ?_, ?_, fun n bytes h => ?_, fun n h => ?_, ?_, fun p => ?_⟩
  · simp only [statusFields, flag_eq, four_eq, active_eq, enforced_eq_decide, retained_eq_sum]
    rfl
  · simp only [sourceFields, two_eq, active_eq, changeover_eq, writeSettings, allSources, List.flatMap_cons, source_eq,
      List.flatMap_nil, List.append_nil, List.append_assoc]
    rfl
  · simp only [allocFields, flag_eq, two_eq, four_eq, slot_eq, queue_eq, granted_eq, retained_eq_sum]
    rfl
  · refine answer rfl rfl rfl (given := measureEntry s ch) ?_ (congrFun measure_eq ch)
    have code : byteAt [one ch.val] 0 = ch.val := byteAt_singleton (by omega)
    simp only [carryOut, doMeasure, code, channelOfCode_val]
    rw [if_neg (by omega)]
  · exact answer rfl rfl rfl rfl (by rw [measure_eq]; rfl)
  · refine answer rfl rfl rfl (given := slotFields n (tget s.store.slots n)) ?_ (by rw [h]; rfl)
    have code : byteAt [one n.val] 0 = n.val := byteAt_singleton (by omega)
    simp only [carryOut, doProfileRead, code, slotOfCode_val]
    rw [if_neg (by omega)]
  · refine answer rfl rfl rfl (given := slotFields n (tget s.store.slots n)) ?_ ?_
    · have code : byteAt [one n.val] 0 = n.val := byteAt_singleton (by omega)
      simp only [carryOut, doProfileRead, code, slotOfCode_val]
      rw [if_neg (by omega)]
    · simp only [slotFields, h, factorySlotBytes_eq]
      rfl
  · refine answer rfl rfl rfl rfl ?_
    simp only [protectionFields, flag_eq]
    rfl
  · have code : byteAt [one p.val] 0 = p.val := byteAt_singleton (by omega)
    have carried : carryOut .portQuery tag [one p.val] s =
        reply .portQuery tag .ok (queryFields p s) (s.setLine p (s.line p).statusRead) := by
      simp only [carryOut, doPortQuery, code, portOfCode_val]
    refine congrArg Host.Outcome.next ((offerCommand_answered free rfl rfl rfl carried).trans ?_)
    simp only [queryFields, flag_eq, two_eq, four_eq, config_eq, identity_eq, place_eq, holdsSlot_eq_decide]
    rfl

end

section
/-! What the engine's operations do to one record, and the invariants that shedding and admission keep: a property kept by
the handful of elementary moves of the engine is kept by every shed order, shed check and admission pass made of them. -/

namespace Sys2Proof.Machine

/-! ## The elementary moves, record by record -/

@[simp] theorem opportunity_port (s : State) (q : Port) : (opportunity s).port q = s.port q := rfl

@[simp] theorem opportunity_switch (s : State) (q : Port) : (opportunity s).switch q = s.switch q := rfl

theorem SwitchFrame.port {s t : State} (h : SwitchFrame s t) (q : Port) : t.port q = s.port q := by
  simp only [State.port, h.ports]

/-- R90: entering SHED changes the record of its port. -/
theorem dropToShed_port (why : ShedReason) (p q : Port) (s : State) :
    (dropToShed why p s).port q = if q = p then PortRec.drop why (s.port p) else s.port q := by
  rw [dropToShed, opportunity_port, (switchOff_frame p _).port, State.mapEngine_port, State.mapPort_port]

/-- R90: entering SHED opens the switch of its port. -/
theorem dropToShed_opens (why : ShedReason) (p : Port) (s : State) :
    ((dropToShed why p s).switch p).state = .opened := switchOff_opens p _

theorem dropToShed_switch_ne {p q : Port} (why : ShedReason) (s : State) (h : q ≠ p) :
    (dropToShed why p s).switch q = s.switch q := switchOff_other _ h

theorem startGrace_port (why : ShedReason) (p q : Port) (s : State) :
    (startGrace why p s).port q =
      if q = p then
        { s.port p with
          alloc := .shedding, reason := some why, grace := some ((s.port p).config.shedGrace * 1000) }
      else s.port q := State.mapPort_port s p q _

/-- R76: an admission changes the record of its port. -/
theorem admitPort_port (p q : Port) (s : State) :
    (admitPort p s).port q =
      if q = p then
        { s.port p with alloc := .starting, grant := (s.port p).request, reason := none, overdraw := 0 }
      else s.port q := by
  rw [admitPort, (switchOn_frame p _).port, State.mapEngine_port, State.mapPort_port]

theorem admitPort_switch_ne {p q : Port} (s : State) (h : q ≠ p) : (admitPort p s).switch q = s.switch q :=
  switchOn_other _ h

/-- R35, R38: the orders of the engine leave the retry counter as it is. -/
theorem switchOff_retry (p q : Port) (s : State) : ((switchOff p s).switch q).retry = (s.switch q).retry := by
  by_cases h : q = p
  · subst h
    unfold switchOff
    split
    · rfl
    all_goals simp only [State.setSwitch_switch_self]; rfl
  · rw [switchOff_other s h]

theorem switchOn_retry (p q : Port) (s : State) : ((switchOn p s).switch q).retry = (s.switch q).retry := by
  by_cases h : q = p
  · subst h
    unfold switchOn
    split
    · simp only [State.setSwitch_switch_self]; rfl
    all_goals rfl
  · rw [switchOn_other s h]

/-! ## What shedding keeps -/

/-- A property that the elementary moves of shedding keep: leaving the granted list for SHED, the place in the queue, the
start of a grace, the reason MODE, the restore hold, and the mark of an opportunity. -/
structure ShedStable (I : State → Prop) : Prop where
  drop : ∀ {why p s}, (s.alloc p).granted = true → I s → I (dropToShed why p s)
  enqueue : ∀ {p s}, s.alloc p = .shed → I s →
    I (s.mapEngine (fun e => { e with queue := insertBefore s.key p e.queue }))
  grace : ∀ {why p s}, s.alloc p = .on → I s → I (startGrace why p s)
  modeReason : ∀ {p s}, s.alloc p = .shedding → I s → I (s.mapPort p (fun r => { r with reason := some .mode }))
  hold : ∀ {s}, I s → I (startHold s)
  mark : ∀ {b s}, I s → I (s.mapEngine (fun e => { e with opportunity := b }))

/-- A property that an admission keeps too. -/
structure PassStable (I : State → Prop) : Prop extends ShedStable I where
  admitPort : ∀ {p s}, s.skips p = false → I s → I (admitPort p s)

namespace ShedStable

variable {I : State → Prop}

theorem dropChildren (h : ShedStable I) (n : Nat) :
    ∀ (p : Port) {s : State}, I s → I (Machine.dropChildren n p s) := by
  induction n with
  | zero => intro p s hs; exact hs
  | succ n ih =>
    intro p s hs
    refine forEach_keeps (I := I) (fun q u hu => ?_) _ hs
    split
    · next granted => exact ih q (h.drop granted hu)
    · exact hu

theorem dropTree (h : ShedStable I) {why : ShedReason} {p : Port} {s : State} (granted : (s.alloc p).granted = true)
    (hs : I s) : I (Machine.dropTree why p s) := h.dropChildren 8 p (h.drop granted hs)

theorem requeue (h : ShedStable I) (order : List Port) {s : State} (hs : I s) : I (Machine.requeue order s) := by
  refine forEach_keeps (I := I) (fun p u hu => ?_) _ hs
  split
  · next entered => exact h.enqueue entered.1 hu
  · exact hu

theorem shedOrder (h : ShedStable I) (n : Nat) :
    ∀ (why : ShedReason) (p : Port) {s : State}, I s → I (Machine.shedOrder n why p s) := by
  induction n with
  | zero => intro why p s hs; exact hs
  | succ n ih =>
    intro why p s hs
    unfold Machine.shedOrder
    split
    · next on =>
      split
      · exact h.dropTree (by rw [on]; rfl) hs
      · exact forEach_keeps (I := I) (fun q u hu => ih .dependency q hu) _ (h.grace on hs)
    · next starting => exact h.dropTree (by rw [starting]; rfl) hs
    · next held => exact h.dropTree (by rw [held]; rfl) hs
    · next shedding =>
      split
      · exact h.modeReason shedding hs
      · exact hs
    all_goals exact hs

theorem shed (h : ShedStable I) (why : ShedReason) (p : Port) {s : State} (hs : I s) : I (Machine.shed why p s) :=
  h.requeue _ (h.shedOrder 8 why p hs)

theorem shedCheck (h : ShedStable I) (n : Nat) : ∀ {s : State}, I s → I (Machine.shedCheck n s) := by
  induction n with
  | zero => intro s hs; exact hs
  | succ n ih =>
    intro s hs
    unfold Machine.shedCheck
    split
    · exact hs
    · split
      · exact hs
      · exact ih (h.hold (h.shed .envelope _ hs))

theorem takeVictims (h : ShedStable I) (cand : Port) (need n : Nat) :
    ∀ {s : State}, I s → I (Machine.takeVictims cand need n s) := by
  induction n with
  | zero => intro s hs; exact hs
  | succ n ih =>
    intro s hs
    unfold Machine.takeVictims
    split
    · exact hs
    · split
      · exact hs
      · exact ih (h.shed .preempted _ hs)

theorem bump (h : ShedStable I) (cand : Port) {s : State} (hs : I s) : I (Machine.bump cand s) := by
  unfold Machine.bump
  split
  · exact hs
  · split
    · exact h.takeVictims cand _ 8 hs
    · exact hs

end ShedStable

namespace PassStable

variable {I : State → Prop}

theorem passWalk (h : PassStable I) (l : List Port) : ∀ {s : State}, I s → I (Machine.passWalk l s) := by
  induction l with
  | nil => intro s hs; exact hs
  | cons p l ih =>
    intro s hs
    unfold Machine.passWalk
    split
    · exact ih hs
    · next enters =>
      split
      · split
        · exact ih (h.admitPort (by simpa using enters) hs)
        · exact h.bump p hs
      · exact hs

theorem runOpportunity (h : PassStable I) {s : State} (hs : I s) : I (Machine.runOpportunity s) := by
  unfold Machine.runOpportunity
  split
  · refine h.mark ?_
    split
    · exact hs
    · exact h.passWalk _ hs
  · exact hs

end PassStable

/-- What shedding and admission keep of the ports and switches holds at the end of a handling. -/
theorem PassStable.finish {I : State → Prop} (h : PassStable I) (s0 : State) {s : State} (hs : I s) :
    ∃ u, I u ∧ (finish s0 s).ports = u.ports ∧ (finish s0 s).switches = u.switches := by
  obtain ⟨ports, switches, -, -⟩ := finish_ports s0 s
  exact ⟨Machine.runOpportunity s, h.runOpportunity hs, ports, switches⟩

/-! ## The numbers of the engine (R66, R68) -/

/-- The envelope and the three allocation settings. -/
def Engine.numbers (e : Engine) : Nat × Nat × Nat × Nat := (e.envelope, e.bodyReserve, e.restoreMargin, e.restoreHoldTime)

/-- Shedding and admission leave the envelope and the settings as they are. -/
theorem numbers_stable (k : Nat × Nat × Nat × Nat) : PassStable (fun s => s.engine.numbers = k) where
  drop {why p s} _ h := by
    rw [dropToShed, opportunity, State.mapEngine_engine, (switchOff_frame p _).engine]
    exact h
  enqueue _ h := h
  grace _ h := h
  modeReason _ h := h
  hold h := h
  mark h := h
  admitPort {p s} _ h := by
    rw [admitPort, (switchOn_frame p _).engine, State.mapEngine_engine, Engine.takeSlot]
    split <;> exact h

theorem cancelWalk_engine (l : List Port) (s : State) : (cancelWalk l s).engine.numbers = s.engine.numbers := by
  induction l generalizing s with
  | nil => rfl
  | cons p l ih =>
    unfold cancelWalk
    split
    · split
      · rw [ih]
        exact forEach_keeps (I := fun u => u.engine.numbers = s.engine.numbers) (f := cancelPort) (fun q u hu => hu) _ rfl
      · rfl
    · exact ih s

theorem updateOvercommit_numbers (s : State) : (updateOvercommit s).engine.numbers = s.engine.numbers := by
  unfold updateOvercommit
  dsimp only
  split <;> rfl

theorem finish_numbers (s0 s : State) : (finish s0 s).engine.numbers = s.engine.numbers := by
  obtain ⟨-, -, -, engine⟩ := finish_ports s0 s
  rw [engine, updateOvercommit_numbers]
  exact (numbers_stable _).runOpportunity rfl

/-- R66, R67: a recomputation stores the new envelope, and its follow-on steps leave it. -/
theorem recompute_numbers (s : State) :
    (recompute s).engine.numbers =
      (s.newEnvelope, s.engine.bodyReserve, s.engine.restoreMargin, s.engine.restoreHoldTime) := by
  have checked := (numbers_stable _).shedCheck 8 (s := storeEnvelope s) rfl
  unfold recompute afterRecompute
  dsimp only
  split
  · rw [opportunity, State.mapEngine_engine]
    exact (cancelWalk_engine _ _).trans checked
  · exact checked

/-! ## The retry counters (R46) -/

/-- Shedding and admission leave the retry counters as they are. -/
theorem retry_stable (q : Port) (k : Nat) : PassStable (fun s => (s.switch q).retry = k) where
  drop {why p s} _ h := by
    rw [dropToShed, opportunity_switch, switchOff_retry]
    exact h
  enqueue _ h := h
  grace _ h := h
  modeReason _ h := h
  hold h := h
  mark h := h
  admitPort {p s} _ h := by
    rw [admitPort, switchOn_retry]
    exact h

/-! ## A port whose parent is not ON (R75, R104, R107) -/

/-- The port has the parent `q`, which is not ON. -/
def Orphan (p q : Port) (s : State) : Prop := (s.cfg p).parent = some q ∧ s.alloc q ≠ .on

/-- R75: the admission pass skips it. -/
theorem Orphan.skips {p q : Port} {s : State} (h : Orphan p q s) : s.skips p = true := by
  obtain ⟨parent, off⟩ := h
  simp [State.skips, State.parentOn, parent, off]

/-- A move that keeps the configuration of a port, and makes none ON, leaves an orphan one. -/
theorem Orphan.of_port {p q : Port} {s t : State} (h : Orphan p q s) (config : t.cfg p = s.cfg p)
    (alloc : t.alloc q = .on → s.alloc q = .on) : Orphan p q t :=
  ⟨by rw [config]; exact h.1, fun on => h.2 (alloc on)⟩

theorem drop_not_on (why : ShedReason) (r : PortRec) : (PortRec.drop why r).alloc ≠ .on := by
  unfold PortRec.drop
  split <;> nofun

/-- No shed order and no admission makes a port ON. -/
theorem orphan_stable (p q : Port) : PassStable (Orphan p q) where
  drop {why x s} _ h := h.of_port ((dropToShed_frame why x s).config p) (by
    rw [State.alloc, dropToShed_port]
    split
    · exact fun on => absurd on (drop_not_on why _)
    · exact id)
  enqueue _ h := h
  grace {why x s} _ h := h.of_port ((startGrace_frame why x s).config p) (by
    rw [State.alloc, startGrace_port]
    split
    · nofun
    · exact id)
  modeReason {x s} _ h := by
    have port := fun y => State.mapPort_port s x y (fun r => { r with reason := some .mode })
    refine h.of_port ?_ ?_
    · simp only [State.cfg, port]; split
      · next e => rw [e]
      · rfl
    · simp only [State.alloc, port]; split
      · next e => rw [e]; exact id
      · exact id
  hold h := h
  mark h := h
  admitPort {x s} _ h := h.of_port ((admitPort_frame x s).config p) (by
    rw [State.alloc, admitPort_port]
    split
    · nofun
    · exact id)

/-- R107: an orphan that is on its way out of the granted list, or out of it. -/
def Leaving (p q : Port) (s : State) : Prop :=
  Orphan p q s ∧ (s.alloc p = .shedding ∨ s.alloc p = .shed ∨ s.alloc p = .off)

theorem drop_leaves (why : ShedReason) (r : PortRec) :
    (PortRec.drop why r).alloc = .shed ∨ (PortRec.drop why r).alloc = .off := by
  unfold PortRec.drop
  split
  · exact .inr rfl
  · exact .inl rfl

theorem leaving_stable (p q : Port) : PassStable (Leaving p q) where
  drop {why x s} granted h := by
    refine ⟨(orphan_stable p q).drop granted h.1, ?_⟩
    rw [State.alloc, dropToShed_port]
    split
    · exact .inr (drop_leaves why _)
    · exact h.2
  enqueue _ h := h
  grace {why x s} on h := by
    refine ⟨(orphan_stable p q).grace on h.1, ?_⟩
    rw [State.alloc, startGrace_port]
    split
    · exact .inl rfl
    · exact h.2
  modeReason {x s} shedding h := by
    refine ⟨(orphan_stable p q).modeReason shedding h.1, ?_⟩
    rw [State.alloc, State.mapPort_port]
    split
    · exact .inl shedding
    · exact h.2
  hold h := h
  mark h := h
  admitPort {x s} enters h := by
    refine ⟨(orphan_stable p q).admitPort enters h.1, ?_⟩
    rw [State.alloc, admitPort_port]
    split
    · next e => rw [← e, h.1.skips] at enters; cases enters
    · exact h.2

/-- R107: an orphan that is out of the granted list with the record `r`, its switch OPEN. -/
structure Gone (p q : Port) (r : PortRec) (s : State) : Prop where
  orphan : Orphan p q s
  port : s.port p = r
  out : r.alloc.granted = false
  opened : (s.switch p).state = .opened

/-- Nothing in a shed order or an admission pass reaches a port out of the granted list whose parent is not ON. -/
theorem gone_stable (p q : Port) (r : PortRec) : PassStable (Gone p q r) where
  drop {why x s} granted h := by
    have other : p ≠ x := fun e => by
      rw [State.alloc, ← e, h.port, h.out] at granted
      cases granted
    exact ⟨(orphan_stable p q).drop granted h.orphan, by rw [dropToShed_port, if_neg other, h.port], h.out,
      by rw [dropToShed_switch_ne why s other, h.opened]⟩
  enqueue _ h := ⟨h.orphan, h.port, h.out, h.opened⟩
  grace {why x s} on h := by
    have other : p ≠ x := fun e => by
      have out := h.out
      rw [State.alloc, ← e, h.port] at on
      rw [on] at out
      cases out
    exact ⟨(orphan_stable p q).grace on h.orphan, by rw [startGrace_port, if_neg other, h.port], h.out, h.opened⟩
  modeReason {x s} shedding h := by
    have other : p ≠ x := fun e => by
      have out := h.out
      rw [State.alloc, ← e, h.port] at shedding
      rw [shedding] at out
      cases out
    exact ⟨(orphan_stable p q).modeReason shedding h.orphan, by rw [State.mapPort_port, if_neg other, h.port], h.out,
      h.opened⟩
  hold h := ⟨h.orphan, h.port, h.out, h.opened⟩
  mark h := ⟨h.orphan, h.port, h.out, h.opened⟩
  admitPort {x s} enters h := by
    have other : p ≠ x := fun e => by rw [← e, h.orphan.skips] at enters; cases enters
    exact ⟨(orphan_stable p q).admitPort enters h.orphan, by rw [admitPort_port, if_neg other, h.port], h.out,
      by rw [admitPort_switch_ne s other, h.opened]⟩

/-! ## Lines that are OFF stay so (R135) -/

theorem leaveLine_tx (c : SendNo) (p q : Port) (s : State) : ((leaveLine c p s).line q).tx = (s.line q).tx := by
  rw [leaveLine, State.setLine_line]
  split
  · next e => rw [e]
  · rfl

theorem joinLine_tx (c : SendNo) (p q : Port) (s : State) : ((joinLine c p s).line q).tx = (s.line q).tx := by
  rw [joinLine, State.setLine_line]
  split
  · next e => rw [e]
  · rfl

theorem reachNext_tx (c : SendNo) (l : List Port) (q : Port) :
    ∀ (x : Send) (s : State), ((reachNext c x l s).line q).tx = (s.line q).tx := by
  induction l with
  | nil => intro x s; rfl
  | cons p l ih =>
    intro x s
    unfold reachNext
    split
    · exact joinLine_tx c p q _
    · exact ih _ s

theorem recordOutcome_tx (c : SendNo) (o : SendOutcome) (q : Port) (s : State) :
    ((recordOutcome c o s).line q).tx = (s.line q).tx := by
  unfold recordOutcome
  split
  · rfl
  · dsimp only
    split
    · rfl
    · exact reachNext_tx c _ q _ s

theorem queueStateRecord_tx (p q : Port) (s : State) : ((queueStateRecord p s).line q).tx = (s.line q).tx := by
  have kept : ∀ (r : StateRecord) (l : LineRec), (l.queueState r).tx = l.tx := by
    intro r l
    unfold LineRec.queueState
    repeat' split
    all_goals rfl
  unfold queueStateRecord
  split
  · rw [State.setLine_line]
    split
    · next e => rw [kept, e]
    · rfl
  · rfl

/-- R135: a turn-off order turns its line OFF, and no other. -/
theorem turnOffLine_tx (p q : Port) (s : State) :
    ((turnOffLine p s).line q).tx = if q = p then .off else (s.line q).tx := by
  have moved : ∀ (l : List SendNo) (u : State),
      ((forEach l (fun c => recordOutcome c .lineOff) u).line q).tx = (u.line q).tx := fun l u =>
    forEach_keeps (I := fun v => (v.line q).tx = (u.line q).tx)
      (fun c v hv => (recordOutcome_tx c .lineOff q v).trans hv) l rfl
  have counted : ∀ (l : List SendNo) (u : State), (countChoice l u).line q = u.line q := fun l u => by
    unfold countChoice; split <;> rfl
  unfold turnOffLine
  split
  · dsimp only
    rw [moved, counted, State.setLine_line]
    split <;> rfl
  · next off =>
    split
    · next e => subst e; simpa [LineRec.isOn] using off
    · rfl

/-- R116: the wind-down turns no line on. -/
theorem windDown_tx_off (s : State) (q : Port) (h : (s.line q).tx = .off) : ((windDown s).line q).tx = .off := by
  have off : ((forEach allPorts turnOffLine s).line q).tx = .off := by
    refine forEach_keeps (I := fun u => (u.line q).tx = .off) (fun p u hu => ?_) allPorts h
    rw [turnOffLine_tx]
    split
    · rfl
    · exact hu
  unfold windDown turnRailsOff
  generalize forEach allPorts turnOffLine s = u at off ⊢
  split
  · exact off
  · exact h

/-- R116, R135: a line that is OFF stays OFF through the end of a handling. -/
theorem finish_tx_off (s0 s : State) (q : Port) (h : (s.line q).tx = .off) : ((finish s0 s).line q).tx = .off := by
  have pass : (updateOvercommit (runOpportunity s)).line q = s.line q := by
    have lines := ((runOpportunity_frame s).trans (updateOvercommit_frame _)).lines
    simp only [State.line, lines]
  have announced : ((announceChanges s0 (updateOvercommit (runOpportunity s))).line q).tx = .off := by
    refine forEach_keeps (I := fun u => (u.line q).tx = .off) (fun p u hu => ?_) _ (by rw [pass]; exact h)
    split
    · exact (queueStateRecord_tx p q _).trans hu
    · exact hu
  exact windDown_tx_off _ q announced

end Sys2Proof.Machine
end

section
/-! SOURCE_CONFIGURE and SET_ENVELOPE (R14, R68): the fields of their payloads, and what is stored of them. -/

namespace Sys2Proof.Machine

/-! ## The fields of a payload -/

theorem byteAt_drop (pl : List Byte) (k i : Nat) : byteAt (pl.drop k) i = byteAt pl (k + i) := by
  simp [byteAt, List.getD_eq_getElem?_getD]

theorem fieldAt_drop (pl : List Byte) (k off len : Nat) : fieldAt (pl.drop k) off len = fieldAt pl (k + off) len := by
  simp [fieldAt]

theorem flagOfCode_getD {a : Nat} (valid : (flagOfCode a).isSome = true) (d : Bool) :
    (flagOfCode a).getD d = (a == 1) := by
  unfold flagOfCode at valid ⊢
  split at valid <;> simp_all

theorem selModeOfCode_drain {a : Nat} (valid : (selModeOfCode a).isSome = true) (d : SelMode) :
    (selModeOfCode a).getD d = .drain ↔ a = 1 := by
  unfold selModeOfCode at valid ⊢
  split at valid <;> simp_all

theorem sourceCode_of_some {a : Nat} {x : Source} (h : sourceOfCode a = some x) : sourceCode x = a := by
  unfold sourceOfCode at h
  split at h <;> cases h <;> rfl

theorem sourceOfCode_none {a : Nat} (h : 2 < a) : sourceOfCode a = none := by
  unfold sourceOfCode
  split <;> first | omega | rfl

theorem sourceOfCode_some {a : Nat} (h : a ≤ 2) : ∃ x, sourceOfCode a = some x := by
  interval_cases a <;> exact ⟨_, rfl⟩

/-- R10, R14: a valid priority order is the one whose codes were given. -/
theorem orderOfCodes_map {a b c : Nat} {l : List Source} (h : orderOfCodes a b c = some l) :
    l.map sourceCode = [a, b, c] := by
  unfold orderOfCodes at h
  split at h
  · next x y z ha hb hc =>
    split at h
    · cases h
      simp [sourceCode_of_some ha, sourceCode_of_some hb, sourceCode_of_some hc]
    · cases h
  · cases h

theorem readSettings_order_map {b : List Byte} (valid : settingsCodesValid b = true) :
    (readSettings b).order.map sourceCode = [byteAt b 1, byteAt b 2, byteAt b 3] := by
  obtain ⟨-, order⟩ := Bool.and_eq_true_iff.1 valid
  obtain ⟨l, hl⟩ := Option.isSome_iff_exists.1 order
  simp only [readSettings, hl, Option.getD_some]
  exact orderOfCodes_map hl

/-! ## SOURCE_CONFIGURE -/

theorem SelectorOnly.trans {s t u : State} (h : SelectorOnly s t) (k : SelectorOnly t u) : SelectorOnly s u := by
  have k' : u = { t with sel := u.sel, selEvents := u.selEvents, link := { t.link with notices := u.link.notices } } := k
  rw [h] at k'
  exact k'

theorem evaluate_config (s : State) (y : Source) : ((evaluate s).source y).config = (s.source y).config := by
  rw [evaluate_source]

theorem evaluate_state (s : State) (y : Source) : ((evaluate s).source y).state = (s.source y).state := by
  rw [evaluate_source]

/-- R5: a change of state leaves every configuration. -/
theorem changeSource_config (x y : Source) (st : SourceState) (s : State) :
    ((changeSource x st s).source y).config = (s.source y).config := by
  by_cases h : y = x
  · rw [h, changeSource_self]
  · rw [changeSource_other h]

theorem changeSource_state_ne {x y : Source} (h : y ≠ x) (st : SourceState) (s : State) :
    ((changeSource x st s).source y).state = (s.source y).state := by rw [changeSource_other h]

theorem changeSource_state_self (x : Source) (st : SourceState) (s : State) :
    ((changeSource x st s).source x).state = st := by rw [changeSource_self]

/-- R4: an enable is stored. -/
theorem applyEnable_config_self (x : Source) (on : Bool) (s : State) :
    ((applyEnable x on s).source x).config = { (s.source x).config with enable := on } := by
  unfold applyEnable
  dsimp only
  repeat' split
  all_goals simp only [changeSource_config, State.setSource_source_self]

/-- R4: an enable of one source touches no other. -/
theorem applyEnable_other {x y : Source} (h : y ≠ x) (on : Bool) (s : State) :
    ((applyEnable x on s).source y).config = (s.source y).config ∧
      ((applyEnable x on s).source y).state = (s.source y).state := by
  unfold applyEnable
  dsimp only
  repeat' split
  all_goals
    simp only [changeSource_config, changeSource_state_ne h, State.setSource_source_ne _ _ h, and_self]

/-- R4: a source that is not enabled is DISABLED. -/
theorem applyEnable_disabled (x : Source) (s : State) : ((applyEnable x false s).source x).state = .disabled :=
  changeSource_state_self x .disabled _

theorem storeSourceSettings_source (x y : Source) (c : SourceConfig) (g : SelSettings) (s : State) :
    (storeSourceSettings x c g s).source y = if y = x then loadSourceNumbers c (s.source x) else s.source y :=
  State.setSource_source s x y _

/-- R14: what an accepted SOURCE_CONFIGURE stores. -/
theorem configureSource_stores (x : Source) (pl : List Byte) (s : State) :
    ((configureSource x pl s).source x).config = readSourceFields (s.source x).config (pl.drop 1) ∧
      (((configureSource x pl s).source x).config.enable = false →
        ((configureSource x pl s).source x).state = .disabled) ∧
      (configureSource x pl s).sel.settings = readSettings (pl.drop 8) ∧
      (∀ y ∈ allSources, y ≠ x → ((configureSource x pl s).source y).config = (s.source y).config ∧
        ((configureSource x pl s).source y).state = (s.source y).state) ∧
      SelectorOnly s (configureSource x pl s) := by
  set c := readSourceFields (s.source x).config (pl.drop 1) with hc
  set g := readSettings (pl.drop 8) with hg
  have stored := storeSourceSettings_source x x c g s
  have configured : configureSource x pl s = evaluate (applyEnable x c.enable (storeSourceSettings x c g s)) := rfl
  have config : ((configureSource x pl s).source x).config = c := by
    rw [configured, evaluate_config, applyEnable_config_self, stored, if_pos rfl]
    rfl
  have only : SelectorOnly s (storeSourceSettings x c g s) := rfl
  have frame := (applyEnable_frame x c.enable (storeSourceSettings x c g s)).trans (evaluate_frame _)
  refine ⟨config, fun off => ?_, frame.settings, fun y _ h => ?_, only.trans frame.only⟩
  · rw [config] at off
    rw [configured, evaluate_state, off]
    exact applyEnable_disabled x _
  · obtain ⟨sameConfig, sameState⟩ := applyEnable_other h c.enable (storeSourceSettings x c g s)
    rw [configured, evaluate_config, evaluate_state, sameConfig, sameState, storeSourceSettings_source, if_neg h]
    exact ⟨rfl, rfl⟩

theorem sourceConfigure_answered {tag : Byte} {pl : List Byte} {r : Result} {s t : State} (free : DecoderFree s)
    (length : pl.length = 14) (carried : doSourceConfigure tag pl s = reply .sourceConfigure tag r [] t) :
    exec (.sourceConfigure tag pl) s = .next (answered .sourceConfigure tag r [] t) :=
  congrArg Host.Outcome.next
    (offerCommand_answered free (by simp [lengthMatches, length]) rfl rfl carried)

/-- R14: an invalid code is refused BAD_VALUE. -/
theorem sourceConfigure_badValue {tag : Byte} {pl : List Byte} {s : State} (free : DecoderFree s)
    (length : pl.length = 14) (bad : 2 < byteAt pl 0 ∨ sourceCodesValid pl = false) :
    exec (.sourceConfigure tag pl) s = .next (answered .sourceConfigure tag .badValue [] s) := by
  refine sourceConfigure_answered free length ?_
  unfold doSourceConfigure
  rcases bad with bad | bad
  · rw [sourceOfCode_none bad]
  · split
    · rfl
    · rw [if_pos bad]

/-- R14: under enforced protection it is refused PROTECTED. -/
theorem sourceConfigure_protected {tag : Byte} {pl : List Byte} {s : State} (free : DecoderFree s)
    (length : pl.length = 14) (source : byteAt pl 0 ≤ 2) (valid : sourceCodesValid pl = true)
    (enforced : s.enforced = true) :
    exec (.sourceConfigure tag pl) s = .next (answered .sourceConfigure tag .protected_ [] s) := by
  refine sourceConfigure_answered free length ?_
  obtain ⟨x, hx⟩ := sourceOfCode_some source
  simp [doSourceConfigure, hx, valid, enforced]

/-- R14, R187: the fields as clamped and rounded, the reply OK_CLAMPED where a number was changed. -/
theorem sourceConfigure_stores {tag : Byte} {pl : List Byte} {s : State} (free : DecoderFree s) (x : Source)
    (length : pl.length = 14) (source : sourceOfCode (byteAt pl 0) = some x) (valid : sourceCodesValid pl = true)
    (unlocked : s.enforced = false) :
    ∃ t,
      exec (.sourceConfigure tag pl) s =
          .next
            (answered .sourceConfigure tag (if sourceConfigureChanged pl = true then .okClamped else .ok) [] t) ∧
        (t.source x).config.enable = (byteAt pl 1 == 1) ∧
        (t.source x).config.capacity = min 20000 (max 1000 (fieldAt pl 2 2)) / 100 * 100 ∧
        (t.source x).config.hardFloor = min 16000 (max 9000 (fieldAt pl 6 2)) / 100 * 100 ∧
        (t.source x).config.softFloor =
          max (min 16000 (max 9000 (fieldAt pl 4 2)) / 100 * 100) ((t.source x).config.hardFloor + 400) ∧
        ((t.source x).config.enable = false → (t.source x).state = .disabled) ∧
        t.sel.settings.qualifyTime = min 2000 (max 20 (fieldAt pl 12 2)) / 10 * 10 ∧
        (t.sel.settings.mode = .drain ↔ byteAt pl 8 = 1) ∧
        t.sel.settings.order.map sourceCode = [byteAt pl 9, byteAt pl 10, byteAt pl 11] ∧
        (∀ y ∈ allSources, y ≠ x → (t.source y).config = (s.source y).config ∧ (t.source y).state = (s.source y).state) ∧
        t = { s with sel := t.sel, selEvents := t.selEvents, link := { s.link with notices := t.link.notices } } := by
  obtain ⟨config, disabled, settings, others, only⟩ := configureSource_stores x pl s
  obtain ⟨flag, codes⟩ := Bool.and_eq_true_iff.1 valid
  obtain ⟨mode, -⟩ := Bool.and_eq_true_iff.1 codes
  refine ⟨configureSource x pl s, sourceConfigure_answered free length ?_, ?_, ?_, ?_, ?_, disabled, ?_, ?_, ?_, others,
    only⟩
  · simp [doSourceConfigure, source, valid, unlocked, okOr]
  · rw [config]
    simpa only [readSourceFields, byteAt_drop] using flagOfCode_getD flag _
  · rw [config]
    simp only [readSourceFields, NumField.get, capacityField, clampStep, fieldAt_drop]
  · rw [config]
    simp only [readSourceFields, NumField.get, hardFloorField, clampStep, fieldAt_drop]
  · rw [config]
    simp only [readSourceFields, raisedSoftFloor, NumField.get, softFloorField, hardFloorField, clampStep, fieldAt_drop,
      Config.floorSeparation]
  · rw [settings]
    simp only [readSettings, NumField.get, qualifyField, clampStep, fieldAt_drop]
  · rw [settings]
    simpa only [readSettings, byteAt_drop] using selModeOfCode_drain mode .priority
  · rw [settings, readSettings_order_map codes]
    simp only [byteAt_drop]

/-! ## SET_ENVELOPE -/

theorem setEnvelope_answered {tag : Byte} {pl : List Byte} {r : Result} {s t : State} (free : DecoderFree s)
    (length : pl.length = 10) (carried : doSetEnvelope tag pl s = reply .setEnvelope tag r [] t) :
    exec (.setEnvelope tag pl) s = .next (answered .setEnvelope tag r [] t) :=
  congrArg Host.Outcome.next
    (offerCommand_answered free (by simp [lengthMatches, length]) rfl rfl carried)

/-- R68: under enforced protection it is refused PROTECTED. -/
theorem setEnvelope_protected {tag : Byte} {pl : List Byte} {s : State} (free : DecoderFree s)
    (length : pl.length = 10) (enforced : s.enforced = true) :
    exec (.setEnvelope tag pl) s = .next (answered .setEnvelope tag .protected_ [] s) :=
  setEnvelope_answered free length (if_pos enforced)

/-- R65, R68: the envelope is recomputed with the new settings, unless it is held. -/
theorem recomputeUnlessHeld_numbers (s : State) :
    (recomputeUnlessHeld s).engine.numbers =
      (if s.engine.held then s.engine.envelope else s.newEnvelope, s.engine.bodyReserve, s.engine.restoreMargin,
        s.engine.restoreHoldTime) := by
  unfold recomputeUnlessHeld
  split
  · rfl
  · exact recompute_numbers s

/-- R66, R68: an envelope depends on the settings through the body reserve alone. -/
theorem storeAllocSettings_newEnvelope (pl : List Byte) (s : State) :
    (storeAllocSettings pl s).newEnvelope =
      ({ s with engine := { s.engine with bodyReserve := bodyReserveField.get pl } } : State).newEnvelope := rfl

/-- R65, R68, R187: the three settings as clamped and rounded, and the envelope by them. -/
theorem setEnvelope_stores {tag : Byte} {pl : List Byte} {s : State} (free : DecoderFree s) (length : pl.length = 10)
    (unlocked : s.enforced = false) :
    ∃ t,
      exec (.setEnvelope tag pl) s =
          .next (answered .setEnvelope tag (if allocNumbersChanged pl = true then .okClamped else .ok) [] t) ∧
        t.engine.bodyReserve = min 100000 (fieldAt pl 0 4) ∧ t.engine.restoreMargin = min 20000 (fieldAt pl 4 4) ∧
        t.engine.restoreHoldTime = min 10000 (max 500 (fieldAt pl 8 2)) / 100 * 100 ∧
        (s.engine.held = true → t.engine.envelope = s.engine.envelope) ∧
        (s.engine.held = false →
          t.engine.envelope =
            ({ s with engine := { s.engine with bodyReserve := min 100000 (fieldAt pl 0 4) } } : State).newEnvelope) ∧
        t.sel = s.sel ∧ t.sense = s.sense ∧ t.store = s.store ∧ (∀ p : Port, t.cfg p = s.cfg p) := by
  have reserve : bodyReserveField.get pl = min 100000 (fieldAt pl 0 4) := by
    simp [NumField.get, bodyReserveField, clampStep]
  have margin : restoreMarginField.get pl = min 20000 (fieldAt pl 4 4) := by
    simp [NumField.get, restoreMarginField, clampStep]
  have numbers := (finish_numbers s (recomputeUnlessHeld (storeAllocSettings pl s))).trans
    (recomputeUnlessHeld_numbers (storeAllocSettings pl s))
  obtain ⟨envelope, bodyReserve, restoreMargin, restoreHoldTime⟩ :
      _ = _ ∧ _ = _ ∧ _ = _ ∧ _ = _ := by simpa only [Engine.numbers, Prod.mk.injEq] using numbers
  rw [storeAllocSettings_newEnvelope, reserve] at envelope
  have frame := (recomputeUnlessHeld_frame (storeAllocSettings pl s)).toFinishFrame.trans (finish_frame s _)
  refine ⟨finish s (recomputeUnlessHeld (storeAllocSettings pl s)),
    setEnvelope_answered free length (by simp [doSetEnvelope, unlocked, okOr]), bodyReserve.trans reserve,
    restoreMargin.trans margin, restoreHoldTime, fun held => ?_, fun held => ?_, frame.sel, frame.sense, frame.store,
    frame.config⟩
  · exact envelope.trans (if_pos held)
  · exact envelope.trans (if_neg (by simp [storeAllocSettings, held]))

end Sys2Proof.Machine
end

section
/-! PORT_CONFIGURE (R53, R84, R85, R107): what is stored, what the switch, the sense unit and the line make of it, and what
becomes of the port under its new parent; with it the statement on the configuration commands (O30). -/

namespace Sys2Proof.Machine

/-! ## The switch (R42, R53) -/

/-- R53: an armed filter restarts under a new trip current. -/
def SwitchRec.rearmCurrent (old new : PortConfig) (w : SwitchRec) : SwitchRec :=
  if old.tripCurrent ≠ new.tripCurrent ∧ w.armed then w.arm else w

/-- R53: a trip mode other than REPORT arms the filter of a CLOSED switch. -/
def SwitchRec.rearmMode (new : PortConfig) (w : SwitchRec) : SwitchRec :=
  match w.state with
  | .closed _ => if new.tripMode ≠ .report ∧ w.armed = false then w.arm else w
  | .opened | .ramping _ _ | .paused _ _ | .cooling _ _ => w

/-- R53: what a reconfiguration does to the filter. -/
def SwitchRec.rearm (old new : PortConfig) (w : SwitchRec) : SwitchRec := (w.rearmCurrent old new).rearmMode new

/-- R53: the retry counter under a new retry limit. -/
def SwitchRec.adjustRetry (old new : PortConfig) (w : SwitchRec) : SwitchRec :=
  if old.retryLimit ≠ new.retryLimit then
    { w with
      retry :=
        if w.lastFault = .retryLimit then min w.retry new.retryLimit
        else if new.retryLimit ≤ w.retry then new.retryLimit - 1 else w.retry }
  else w

/-- The three defs above are what `SwitchRec.reconfigure` does. -/
theorem reconfigure_eq (old new : PortConfig) (w : SwitchRec) :
    w.reconfigure old new = (w.rearm old new).adjustRetry old new := rfl

theorem rearmMode_cases (new : PortConfig) (w : SwitchRec) : w.rearmMode new = w ∨ w.rearmMode new = w.arm := by
  unfold SwitchRec.rearmMode
  split
  · split
    · exact .inr rfl
    · exact .inl rfl
  all_goals exact .inl rfl

theorem rearmMode_of_armed {new : PortConfig} {w : SwitchRec} (armed : w.armed = true) : w.rearmMode new = w := by
  unfold SwitchRec.rearmMode
  split
  · exact if_neg (by simp [armed])
  all_goals rfl

/-- R53: a reconfiguration arms the filter anew or leaves the record. -/
theorem rearm_cases (old new : PortConfig) (w : SwitchRec) : w.rearm old new = w ∨ w.rearm old new = w.arm := by
  unfold SwitchRec.rearm SwitchRec.rearmCurrent
  split
  · exact .inr (rearmMode_of_armed rfl)
  · exact rearmMode_cases new w

theorem reconfigure_state (old new : PortConfig) (w : SwitchRec) : (w.reconfigure old new).state = w.state := by
  have kept : (w.rearm old new).state = w.state := by rcases rearm_cases old new w with h | h <;> rw [h]; rfl
  rw [reconfigure_eq, SwitchRec.adjustRetry]
  split <;> exact kept

/-- R53: the retry limit has no part in the filter. -/
theorem reconfigure_filter (old new : PortConfig) (w : SwitchRec) :
    (w.reconfigure old new).filter = (w.rearm old new).filter := by
  rw [reconfigure_eq, SwitchRec.adjustRetry]
  split <;> rfl

/-- R53: a new retry limit adjusts the retry counter, and nothing else does. -/
theorem reconfigure_retry (old new : PortConfig) (w : SwitchRec) :
    (w.reconfigure old new).retry =
      if new.retryLimit = old.retryLimit then w.retry
      else if w.lastFault = .retryLimit then min w.retry new.retryLimit
      else if new.retryLimit ≤ w.retry then new.retryLimit - 1
      else w.retry := by
  have kept : (w.rearm old new).retry = w.retry ∧ (w.rearm old new).lastFault = w.lastFault := by
    rcases rearm_cases old new w with h | h <;> rw [h] <;> exact ⟨rfl, rfl⟩
  obtain ⟨retry, fault⟩ := kept
  rw [reconfigure_eq, SwitchRec.adjustRetry]
  by_cases limit : new.retryLimit = old.retryLimit
  · rw [if_neg (by simp [limit]), if_pos limit, retry]
  · rw [if_pos (Ne.symm limit), if_neg limit, retry, fault]

/-- R53: a new trip current restarts an armed filter. -/
theorem rearm_of_current {old new : PortConfig} {w : SwitchRec} (current : old.tripCurrent ≠ new.tripCurrent)
    (armed : w.armed = true) : w.rearm old new = w.arm := by
  rw [SwitchRec.rearm, SwitchRec.rearmCurrent, if_pos ⟨current, armed⟩]
  exact rearmMode_of_armed rfl

/-- R53: an armed filter is left alone under the same trip current. -/
theorem rearm_of_armed {old new : PortConfig} {w : SwitchRec} (current : old.tripCurrent = new.tripCurrent)
    (armed : w.armed = true) : w.rearm old new = w := by
  rw [SwitchRec.rearm, SwitchRec.rearmCurrent, if_neg (by simp [current])]
  exact rearmMode_of_armed armed

/-- R42: a count that has not begun, or has just begun, has not reached any width. -/
theorem widthReached_of_start {c : PortConfig} {w : SwitchRec} (h : w.filter = none ∨ w.filter = some 0) :
    w.widthReached c = false := by
  unfold SwitchRec.widthReached
  split
  · next e _ count =>
    rcases h with h | h <;> rw [h] at count <;> cases count
    cases c.tripFilter <;> rfl
  all_goals rfl

theorem arm_filter (w : SwitchRec) : w.arm.filter = none ∨ w.arm.filter = some 0 := by
  unfold SwitchRec.arm
  dsimp only
  split
  · exact .inr rfl
  · exact .inl rfl

/-- R53: a reconfiguration in which no count reaches a new width. -/
theorem reconfigureSwitch_of_quiet {p : Port} {old : PortConfig} {s : State}
    (quiet : old.tripFilter = (s.cfg p).tripFilter ∨
      ((s.switch p).reconfigure old (s.cfg p)).widthReached (s.cfg p) = false) :
    reconfigureSwitch p old s = s.setSwitch p ((s.switch p).reconfigure old (s.cfg p)) := by
  unfold reconfigureSwitch
  dsimp only
  rw [State.setSwitch_switch_self]
  refine if_neg fun fires => ?_
  rcases quiet with same | short
  · exact fires.1 same
  · simp [short] at fires

/-- R42, R53: with no count running, or no new width, no trip fires. -/
theorem reconfigure_quiet {p : Port} {old : PortConfig} {s : State}
    (h : (s.switch p).filter = none ∨ old.tripFilter = (s.cfg p).tripFilter) :
    reconfigureSwitch p old s = s.setSwitch p ((s.switch p).reconfigure old (s.cfg p)) := by
  refine reconfigureSwitch_of_quiet ?_
  rcases h with idle | same
  · refine .inr (widthReached_of_start ?_)
    rw [reconfigure_filter]
    rcases rearm_cases old (s.cfg p) (s.switch p) with h | h <;> rw [h]
    · exact .inl idle
    · exact arm_filter _
  · exact .inl same

/-- R53: the clause on the trip current, and the clause on the trip filter width. -/
theorem reconfigureSwitch_filter (p : Port) (old : PortConfig) (s : State) :
    let w := s.switch p
    let new := s.cfg p
    (old.tripCurrent ≠ new.tripCurrent → w.armed = true →
      ((reconfigureSwitch p old s).switch p).filter = if w.tripLevel = true then some 0 else none) ∧
    (∀ n e, w.state = .closed n → w.filter = some e → w.armed = true → old.tripCurrent = new.tripCurrent →
      old.retryLimit = new.retryLimit → old.tripFilter ≠ new.tripFilter →
      (new.tripFilter.micros ≤ e → reconfigureSwitch p old s = filteredTripClosed p s) ∧
        (e < new.tripFilter.micros → reconfigureSwitch p old s = s)) := by
  intro w new
  constructor
  · intro current armed
    have rearmed : (w.reconfigure old new).filter = w.arm.filter := by
      rw [reconfigure_filter, rearm_of_current current armed]
    have quiet : (w.reconfigure old new).widthReached new = false :=
      widthReached_of_start (by rw [rearmed]; exact arm_filter w)
    rw [reconfigureSwitch_of_quiet (.inr quiet), State.setSwitch_switch_self]
    exact rearmed
  · intro n e closed count armed current limit width
    have same : w.reconfigure old new = w := by
      rw [reconfigure_eq, rearm_of_armed current armed]
      exact if_neg (by simp [limit])
    have stored : s.setSwitch p (w.reconfigure old new) = s := by
      rw [same]
      simp only [State.setSwitch, w, State.switch, tput_tget]
    have reached : w.widthReached new = decide (new.tripFilter.micros ≤ e) := by
      simp only [SwitchRec.widthReached, closed, count]
    refine ⟨fun due => ?_, fun short => ?_⟩
    · unfold reconfigureSwitch
      dsimp only
      rw [stored, if_pos ⟨width, by rw [reached]; simpa using due⟩]
    · rw [reconfigureSwitch_of_quiet (.inr (by rw [same, reached]; simpa using short)), stored]

end Sys2Proof.Machine
end

section
/-! PORT_CONFIGURE stored and applied (R84, R85, R107), and the statement on the configuration commands (O30). -/

namespace Sys2Proof.Machine

/-! ## What is stored (R84) -/

/-- R84: the configuration handed to the port's record and its switch. -/
def storeSwitch (p : Port) (c : PortConfig) (s : State) : State :=
  reconfigureSwitch p (s.cfg p) (s.mapPort p (fun r => { r with config := c }))

theorem storeConfig_eq (p : Port) (c : PortConfig) (s : State) :
    storeConfig p c s = applyDisable p c (applyLineConfig p c (chooseGain p (storeSwitch p c s))) := rfl

theorem storeSwitch_frame (p : Port) (c : PortConfig) (s : State) : EngineFrame s (storeSwitch p c s) :=
  (mapPort_frame p _ s).trans (reconfigureSwitch_frame p _ _).toEngineFrame

theorem storeSwitch_port (p q : Port) (c : PortConfig) (s : State) :
    (storeSwitch p c s).port q = if q = p then { s.port p with config := c } else s.port q := by
  rw [storeSwitch, (reconfigureSwitch_frame p _ _).port, State.mapPort_port]

theorem storeSwitch_cfg_self (p : Port) (c : PortConfig) (s : State) : (storeSwitch p c s).cfg p = c := by
  rw [State.cfg, storeSwitch_port, if_pos rfl]

theorem storeSwitch_engine (p : Port) (c : PortConfig) (s : State) : (storeSwitch p c s).engine = s.engine :=
  (reconfigureSwitch_frame p _ _).engine

/-- R25: the choice of a gain changes the sense unit alone. -/
theorem chooseGain_only (p : Port) (s : State) : chooseGain p s = { s with sense := (chooseGain p s).sense } := by
  unfold chooseGain
  split <;> rfl

theorem applyLineConfig_frame (p : Port) (c : PortConfig) (s : State) : LineFrame s (applyLineConfig p c s) := by
  have rate := setLineRate_frame p c.lineRate s
  unfold applyLineConfig
  dsimp only
  repeat' split
  · exact rate.trans (turnOnLine_frame p _)
  · exact rate.trans (turnOffLine_frame p _)
  · exact rate

/-- R84, R145: a line disabled touches the identity of its port and the pool. -/
theorem applyDisable_only (p : Port) (c : PortConfig) (s : State) :
    applyDisable p c s = { s with ports := (applyDisable p c s).ports, pool := (applyDisable p c s).pool } := by
  unfold applyDisable
  split <;> rfl

theorem applyDisable_port (p q : Port) (c : PortConfig) (s : State) :
    (applyDisable p c s).port q =
      if q = p ∧ c.lineEnable = false then { s.port p with identity := none } else s.port q := by
  unfold applyDisable
  split
  · next on => rw [if_neg (by simp [on])]
  · next off =>
    rw [poolClear, State.setPool_port, State.mapPort_port]
    simp [Bool.not_eq_true _ ▸ off]

/-- R84, R145: the record of a port after its configuration has been stored. -/
theorem storeConfig_port (p q : Port) (c : PortConfig) (s : State) :
    (storeConfig p c s).port q =
      if q = p then
        { s.port p with
          config := c, identity := if c.lineEnable = false then none else (s.port p).identity }
      else s.port q := by
  have stored : (applyLineConfig p c (chooseGain p (storeSwitch p c s))).port q = (storeSwitch p c s).port q := by
    rw [State.port, (applyLineConfig_frame p c _).ports, chooseGain_only]
    rfl
  have own : (applyLineConfig p c (chooseGain p (storeSwitch p c s))).port p = (storeSwitch p c s).port p := by
    rw [State.port, (applyLineConfig_frame p c _).ports, chooseGain_only]
    rfl
  rw [storeConfig_eq, applyDisable_port, stored, own, storeSwitch_port, storeSwitch_port]
  by_cases e : q = p <;> cases h : c.lineEnable <;> simp [e]

theorem storeConfig_alloc (p q : Port) (c : PortConfig) (s : State) : (storeConfig p c s).alloc q = s.alloc q := by
  rw [State.alloc, storeConfig_port]
  split
  · next e => rw [e]; rfl
  · rfl

theorem storeConfig_cfg_self (p : Port) (c : PortConfig) (s : State) : (storeConfig p c s).cfg p = c := by
  rw [State.cfg, storeConfig_port, if_pos rfl]

theorem storeConfig_cfg_ne {p q : Port} (c : PortConfig) (s : State) (h : q ≠ p) :
    (storeConfig p c s).cfg q = s.cfg q := by
  rw [State.cfg, storeConfig_port, if_neg h, State.cfg]

/-- What storing a configuration keeps of the rest of the chip. -/
theorem storeConfig_rest (p : Port) (c : PortConfig) (s : State) :
    (storeConfig p c s).store = s.store ∧ (storeConfig p c s).mode = s.mode ∧
      (storeConfig p c s).engine = s.engine := by
  have line := applyLineConfig_frame p c (chooseGain p (storeSwitch p c s))
  have switch := storeSwitch_frame p c s
  rw [storeConfig_eq, applyDisable_only]
  refine ⟨line.store.trans ?_, line.mode.trans ?_, line.engine.trans ?_⟩
  · rw [chooseGain_only]; exact switch.store
  · rw [chooseGain_only]; exact switch.mode
  · rw [chooseGain_only]; exact storeSwitch_engine p c s

theorem storeConfig_switches (p : Port) (c : PortConfig) (s : State) :
    (storeConfig p c s).switches = (storeSwitch p c s).switches := by
  rw [storeConfig_eq, applyDisable_only]
  refine (applyLineConfig_frame p c _).switches.trans ?_
  rw [chooseGain_only]

theorem storeConfig_sense (p : Port) (c : PortConfig) (s : State) :
    (storeConfig p c s).sense = (chooseGain p (storeSwitch p c s)).sense := by
  rw [storeConfig_eq, applyDisable_only]
  exact (applyLineConfig_frame p c _).sense

/-- R84, R135, R145: a port whose line is disabled has no identity and no record in the pool, and its line is OFF. -/
theorem storeConfig_disabled {p : Port} {c : PortConfig} (off : c.lineEnable = false) (s : State) :
    ((storeConfig p c s).port p).identity = none ∧ (storeConfig p c s).pool.held p = 0 ∧
      (s.linesOn = true → ((storeConfig p c s).line p).tx = .off) := by
  refine ⟨by rw [storeConfig_port, if_pos rfl]; simp [off], ?_, fun on => ?_⟩
  · rw [storeConfig_eq, applyDisable, if_neg (by simp [off])]
    simp [poolClear, State.setPool, Pool.held, List.countP_filter]
  · have lines : (storeConfig p c s).line p = (applyLineConfig p c (chooseGain p (storeSwitch p c s))).line p := by
      rw [storeConfig_eq, applyDisable_only]; rfl
    have powered : (setLineRate p c.lineRate (chooseGain p (storeSwitch p c s))).linesOn = true := by
      rw [(setLineRate_frame p _ _).linesOn, chooseGain_only]
      exact (storeSwitch_frame p c s).linesOn.trans on
    rw [lines, applyLineConfig, if_pos powered, if_neg (by simp [off]), turnOffLine_tx, if_pos rfl]

/-- R53: the retry counter of the switch, where no trip fires. -/
theorem storeConfig_retry {p : Port} {c : PortConfig} {s : State}
    (quiet : (s.switch p).filter = none ∨ c.tripFilter = (s.cfg p).tripFilter) :
    ((storeConfig p c s).switch p).retry =
      if c.retryLimit = (s.cfg p).retryLimit then (s.switch p).retry
      else if (s.switch p).lastFault = .retryLimit then min (s.switch p).retry c.retryLimit
      else if c.retryLimit ≤ (s.switch p).retry then c.retryLimit - 1
      else (s.switch p).retry := by
  have cfg : (s.mapPort p (fun r => { r with config := c })).cfg p = c := by rw [State.cfg, State.mapPort_port_self]
  have switch : (s.mapPort p (fun r => { r with config := c })).switch p = s.switch p := rfl
  have same : (storeConfig p c s).switch p = (storeSwitch p c s).switch p := by
    simp only [State.switch, storeConfig_switches]
  rw [same, storeSwitch, reconfigure_quiet (by rw [cfg, switch]; exact quiet.imp id Eq.symm),
    State.setSwitch_switch_self, reconfigure_retry, cfg, switch]

/-! ## The gain (R25) -/

/-- R25: a seeding conversion under way keeps the gain chosen before. -/
theorem storeConfig_sample_seeding {p : Port} {c : PortConfig} {s : State} {g : Option Gain}
    (converting : s.sense.converting = some ⟨portChannel p, g⟩) (seeding : g ≠ (s.sample (portChannel p)).gain) :
    (storeConfig p c s).sample (portChannel p) = s.sample (portChannel p) := by
  have sense := (storeSwitch_frame p c s).sense
  have underWay : (storeSwitch p c s).seedingUnderWay (portChannel p) = true := by
    simpa [State.seedingUnderWay, State.sample, sense, converting] using seeding
  simp only [State.sample, storeConfig_sense, chooseGain, if_pos underWay, sense]

/-- R25, Table 2-4: the gain of a trip current within its range. -/
theorem gainFor_eq {trip : Nat} (range : trip ≤ 20000) :
    gainFor trip = if trip ≤ 6396 then .g16 else if trip ≤ 12793 then .g8 else .g4 := by
  have g16 : fullScale .g16 = 6396 := rfl
  have g8 : fullScale .g8 = 12793 := rfl
  have g4 : fullScale .g4 = 25587 := rfl
  have below : trip ≤ 25587 := by omega
  simp only [gainFor, g16, g8, g4, if_pos below]

/-- R25: otherwise the gain chosen from the new trip current is pending, unless it is in force. -/
theorem storeConfig_sample_chosen {p : Port} {c : PortConfig} {s : State} (range : c.tripCurrent ≤ 20000)
    (free : ∀ x ∈ s.sense.converting, x.channel ≠ portChannel p ∨ x.gain = (s.sample (portChannel p)).gain) :
    let chosen : Gain := if c.tripCurrent ≤ 6396 then .g16 else if c.tripCurrent ≤ 12793 then .g8 else .g4
    (storeConfig p c s).sample (portChannel p) =
      { s.sample (portChannel p) with
        pendingGain := if (s.sample (portChannel p)).gain = some chosen then none else some chosen } := by
  intro chosen
  have sense := (storeSwitch_frame p c s).sense
  have idle : (storeSwitch p c s).seedingUnderWay (portChannel p) = false := by
    unfold State.seedingUnderWay
    rw [sense]
    split
    · rfl
    · next x converting =>
      rcases free x converting with other | same
      · simp [other]
      · simp [State.sample, sense, same]
  have gain : gainFor ((storeSwitch p c s).cfg p).tripCurrent = chosen := by
    rw [storeSwitch_cfg_self]; exact gainFor_eq range
  have chose : (storeConfig p c s).sample (portChannel p) =
      (chooseGain p (storeSwitch p c s)).sample (portChannel p) := by simp only [State.sample, storeConfig_sense]
  rw [chose, chooseGain, if_neg (by simp [idle]), State.setSample_sample_self, gain]
  simp only [ChannelRec.choose, State.sample, sense]
  rfl

/-! ## What is applied (R85, R102, R107) -/

theorem applyKey_ports (p : Port) (old : PortConfig) (s : State) : (applyKey p old s).ports = s.ports := by
  unfold applyKey
  split <;> rfl

theorem applyKey_switches (p : Port) (old : PortConfig) (s : State) : (applyKey p old s).switches = s.switches := by
  unfold applyKey
  split <;> rfl

theorem applyCap_switches (p : Port) (s : State) : (applyCap p s).switches = s.switches := by
  unfold applyCap
  dsimp only
  repeat' split
  all_goals rfl

theorem emptyRequest_port (p q : Port) (s : State) :
    (emptyRequest p s).port q =
      if q = p then
        { s.port p with alloc := .off, request := 0, origin := none, reason := none, clamped := true }
      else s.port q := by
  rw [emptyRequest, opportunity_port, State.mapEngine_port, State.mapPort_port]

theorem AllocState.not_granted_of_queued {a : AllocState} (h : a.queued = true) : a.granted ≠ true := by
  cases a <;> simp_all [AllocState.queued, AllocState.granted]

/-- R85, R102: a cap changes the record of its port alone: its request is cut, and its allocation state stays while it is
in the granted list. -/
theorem applyCap_port (p : Port) (s : State) :
    ∃ r : PortRec, (∀ q, (applyCap p s).port q = if q = p then r else s.port q) ∧ r.config = (s.port p).config ∧
      r.identity = (s.port p).identity ∧ ((s.alloc p).granted = true → r.alloc = s.alloc p) ∧
      r.request = min (s.port p).request (s.cfg p).cap := by
  unfold applyCap
  dsimp only
  split
  · next lower =>
    have cut : (s.cfg p).cap = min (s.port p).request (s.cfg p).cap := by omega
    split
    · next empty =>
      exact ⟨_, fun q => emptyRequest_port p q s, rfl, rfl,
        fun granted => absurd granted (AllocState.not_granted_of_queued empty.2), empty.1.symm.trans cut⟩
    · split
      · exact ⟨_, fun q => (opportunity_port _ q).trans (State.mapPort_port s p q _), rfl, rfl, fun _ => rfl, cut⟩
      · exact ⟨_, fun q => State.mapPort_port s p q _, rfl, rfl, fun _ => rfl, cut⟩
  · exact ⟨s.port p, fun q => by split <;> simp_all, rfl, rfl, fun _ => rfl, by omega⟩

/-- R107: what a new parent brings about keeps what shedding keeps. -/
theorem ShedStable.applyParent {I : State → Prop} (h : ShedStable I) (p : Port) (old : PortConfig) {s : State}
    (hs : I s) : I (Machine.applyParent p old s) := by
  unfold Machine.applyParent
  split
  · next moved =>
    have left : I (inOneStep (Machine.dropTree .dependency p) s) := h.requeue _ (h.dropTree moved.2 hs)
    repeat' split
    · exact hs
    · exact hs
    · exact h.shed .dependency p hs
    all_goals exact left
  · exact hs

theorem applyParent_frame (p : Port) (old : PortConfig) (s : State) : ShedFrame s (applyParent p old s) := by
  have left := inOneStep_frame (dropTree_frame .dependency p) s
  unfold applyParent
  repeat' split
  · exact .refl s
  · exact .refl s
  · exact shed_frame _ _ s
  all_goals first | exact left | exact .refl s

/-- The state of a PORT_CONFIGURE before its new parent takes effect. -/
def capped (p : Port) (old : PortConfig) (s : State) : State := applyKey p old (applyCap p s)

theorem applyConfig_eq (p : Port) (old : PortConfig) (s : State) :
    applyConfig p old s = opportunity (shedCheck 8 (applyParent p old (capped p old s))) := rfl

theorem capped_port (p q : Port) (old : PortConfig) (s : State) : (capped p old s).port q = (applyCap p s).port q := by
  simp only [State.port, capped, applyKey_ports]

/-- From its new parent to the end of the handling, a PORT_CONFIGURE keeps what a handling keeps. -/
theorem applyConfig_finish_frame (p : Port) (old : PortConfig) (s0 s : State) :
    FinishFrame (capped p old s) (finish s0 (applyConfig p old s)) :=
  (((applyParent_frame p old _).trans (shedCheck_frame 8 _)).trans (opportunity_frame _)).toFinishFrame.trans
    (finish_frame s0 _)

/-- What shedding and admission keep from the new parent on holds at the end of the handling. -/
theorem PassStable.configure {I : State → Prop} (h : PassStable I) {p : Port} {old : PortConfig} {s0 s : State}
    (hs : I (Machine.applyParent p old s)) :
    ∃ u, I u ∧
      (Machine.finish s0 (opportunity (Machine.shedCheck 8 (Machine.applyParent p old s)))).ports = u.ports ∧
      (Machine.finish s0 (opportunity (Machine.shedCheck 8 (Machine.applyParent p old s)))).switches = u.switches :=
  h.finish s0 (h.mark (h.shedCheck 8 hs))

end Sys2Proof.Machine
end

section
/-! A port under a new parent that is not ON (R107), and the statement on the configuration commands (O30). -/

namespace Sys2Proof.Machine

/-! ## A new parent that is not ON (R107) -/

/-- R90: an orphan that enters SHED is on its way out. -/
theorem dropTree_leaves {p q : Port} {why : ShedReason} {s : State} (orphan : Orphan p q s)
    (granted : (s.alloc p).granted = true) : Leaving p q (dropTree why p s) := by
  refine (leaving_stable p q).dropChildren 8 p ⟨(orphan_stable p q).drop granted orphan, ?_⟩
  rw [State.alloc, dropToShed_port, if_pos rfl]
  exact .inr (drop_leaves why _)

/-- R91: an orphan that is shed is on its way out. -/
theorem shed_leaves {p q : Port} {why : ShedReason} {s : State} (orphan : Orphan p q s)
    (granted : (s.alloc p).granted = true) : Leaving p q (shed why p s) := by
  have stable := leaving_stable p q
  refine stable.requeue _ ?_
  unfold shedOrder
  split
  · next on =>
    split
    · exact dropTree_leaves orphan granted
    · refine forEach_keeps (I := Leaving p q) (fun x u hu => stable.shedOrder 7 .dependency x hu) _
        ⟨(orphan_stable p q).grace on orphan, ?_⟩
      rw [State.alloc, startGrace_port, if_pos rfl]
      exact .inl rfl
  · exact dropTree_leaves orphan granted
  · exact dropTree_leaves orphan granted
  · next shedding =>
    have leaving : Leaving p q s := ⟨orphan, .inl shedding⟩
    split
    · exact stable.modeReason shedding leaving
    · exact leaving
  all_goals next out => rw [out] at granted; cases granted

/-- R90, R92: a port dropped with its dependants is gone. -/
theorem dropped_gone {p q : Port} {why : ShedReason} {s : State} (orphan : Orphan p q s)
    (granted : (s.alloc p).granted = true) :
    Gone p q (PortRec.drop why (s.port p)) (inOneStep (dropTree why p) s) := by
  have stable := gone_stable p q (PortRec.drop why (s.port p))
  refine stable.requeue _ (stable.dropChildren 8 p
    ⟨(orphan_stable p q).drop granted orphan, by rw [dropToShed_port, if_pos rfl], ?_, dropToShed_opens why p s⟩)
  rcases drop_leaves why (s.port p) with e | e <;> rw [e] <;> rfl

theorem applyParent_of_shedding {p q : Port} {old : PortConfig} {s : State} (moved : old.parent ≠ (s.cfg p).parent)
    (granted : (s.alloc p).granted = true) (parent : (s.cfg p).parent = some q) (h : s.alloc q = .shedding) :
    applyParent p old s = shed .dependency p s := by
  rw [applyParent, if_pos ⟨moved, granted⟩]
  simp only [parent, h]

theorem applyParent_of_down {p q : Port} {old : PortConfig} {s : State} (moved : old.parent ≠ (s.cfg p).parent)
    (granted : (s.alloc p).granted = true) (parent : (s.cfg p).parent = some q) (on : s.alloc q ≠ .on)
    (shedding : s.alloc q ≠ .shedding) : applyParent p old s = inOneStep (dropTree .dependency p) s := by
  rw [applyParent, if_pos ⟨moved, granted⟩]
  simp only [parent]
  split
  · next e => exact absurd e on
  · next e => exact absurd e shedding
  all_goals rfl

/-! ## The commands' answers -/

theorem portConfigure_answered {tag : Byte} {pl : List Byte} {r : Result} {s t : State} (free : DecoderFree s)
    (length : pl.length = 19) (carried : doPortConfigure tag pl s = reply .portConfigure tag r [] t) :
    exec (.portConfigure tag pl) s = .next (answered .portConfigure tag r [] t) :=
  congrArg Host.Outcome.next
    (offerCommand_answered free (by simp [lengthMatches, length]) rfl rfl carried)

/-- R84: a port number out of range is refused BAD_VALUE. -/
theorem portConfigure_badPort {tag : Byte} {pl : List Byte} {s : State} (free : DecoderFree s)
    (length : pl.length = 19) (bad : 7 < byteAt pl 0) :
    exec (.portConfigure tag pl) s = .next (answered .portConfigure tag .badValue [] s) := by
  have none : portOfCode (byteAt pl 0) = none := dif_neg (by omega)
  exact portConfigure_answered free length (by rw [doPortConfigure, none])

theorem doPortConfigure_eq {p : Port} {pl : List Byte} (tag : Byte) (s : State) (port : byteAt pl 0 = p.val) :
    doPortConfigure tag pl s = configureFor p tag (pl.drop 1) s := by
  rw [doPortConfigure, port, portOfCode_val]

/-- R84: the checks, in their order. -/
theorem portConfigure_refused {tag : Byte} {pl : List Byte} {s : State} (free : DecoderFree s) (p : Port)
    (length : pl.length = 19) (port : byteAt pl 0 = p.val) :
    (portCodesValid (pl.drop 1) = false →
      exec (.portConfigure tag pl) s = .next (answered .portConfigure tag .badValue [] s)) ∧
    (portCodesValid (pl.drop 1) = true → s.enforced = true → s.protectedPort p = true →
      exec (.portConfigure tag pl) s = .next (answered .portConfigure tag .protected_ [] s)) ∧
    (portCodesValid (pl.drop 1) = true → s.enforced = false ∨ s.protectedPort p = false →
      s.parentCloses p (readPortFields (factoryPort p) (pl.drop 1)).parent = true →
      exec (.portConfigure tag pl) s = .next (answered .portConfigure tag .conflict [] s)) := by
  have own := doPortConfigure_eq tag s port
  generalize pl.drop 1 = b at own ⊢
  refine ⟨fun invalid => ?_, fun valid enforced guarded => ?_, fun valid unguarded closes => ?_⟩ <;>
    refine portConfigure_answered free length (own.trans ?_)
  · simp [configureFor, invalid]
  · simp [configureFor, valid, enforced, guarded]
  · rcases unguarded with h | h <;> simp [configureFor, valid, h, closes]

/-! ## What an accepted PORT_CONFIGURE leaves -/

/-- R84, R85: the state after an accepted PORT_CONFIGURE with the fields `c`. -/
def configured (p : Port) (c : PortConfig) (s : State) : State :=
  finish s (applyConfig p (s.cfg p) (storeConfig p c s))

/-- R84: an accepted PORT_CONFIGURE. -/
theorem portConfigure_accepted {tag : Byte} {pl : List Byte} {s : State} (free : DecoderFree s) {p : Port}
    (length : pl.length = 19) (port : byteAt pl 0 = p.val) (valid : portCodesValid (pl.drop 1) = true)
    (unguarded : s.enforced = false ∨ s.protectedPort p = false)
    (opens : s.parentCloses p (readPortFields (factoryPort p) (pl.drop 1)).parent = false) :
    exec (.portConfigure tag pl) s =
      .next
        (answered .portConfigure tag (if portNumbersChanged (pl.drop 1) = true then .okClamped else .ok) []
          (configured p (readPortFields (factoryPort p) (pl.drop 1)) s)) := by
  refine portConfigure_answered free length ((doPortConfigure_eq tag s port).trans ?_)
  generalize pl.drop 1 = b at valid opens ⊢
  rcases unguarded with h | h <;> simp [configureFor, valid, h, opens, okOr, configured]

theorem configured_frame (p : Port) (c : PortConfig) (s : State) :
    FinishFrame (capped p (s.cfg p) (storeConfig p c s)) (configured p c s) :=
  applyConfig_finish_frame p (s.cfg p) s (storeConfig p c s)

/-- The whole of an accepted PORT_CONFIGURE after its fields are stored, as a handling. -/
theorem configured_handling (p : Port) (c : PortConfig) (s : State) :
    HandlingFrame (storeConfig p c s) (configured p c s) :=
  (applyConfig_frame p (s.cfg p) _).toHandlingFrame.trans (finish_frame s _).toHandlingFrame

/-- R85: the record of the port before its new parent takes effect. -/
theorem capped_stored (p : Port) (c : PortConfig) (s : State) :
    ∃ r : PortRec, (∀ q, (capped p (s.cfg p) (storeConfig p c s)).port q = if q = p then r else s.port q) ∧
      r.config = c ∧ r.identity = (if c.lineEnable = false then none else (s.port p).identity) ∧
      ((s.alloc p).granted = true → r.alloc = s.alloc p) ∧ r.request = min (s.port p).request c.cap := by
  obtain ⟨r, port, config, identity, alloc, request⟩ := applyCap_port p (storeConfig p c s)
  have own := storeConfig_port p p c s
  rw [if_pos rfl] at own
  refine ⟨r, fun q => ?_, ?_, ?_, ?_, ?_⟩
  · rw [capped_port, port]
    split
    · rfl
    · next h => rw [storeConfig_port, if_neg h]
  · rw [config, own]
  · rw [identity, own]
  · rw [storeConfig_alloc] at alloc
    exact alloc
  · rw [request, storeConfig_cfg_self, own]

theorem configured_cfg (p q : Port) (c : PortConfig) (s : State) :
    (configured p c s).cfg q = if q = p then c else s.cfg q := by
  obtain ⟨r, port, config, -⟩ := capped_stored p c s
  rw [(configured_frame p c s).config, State.cfg, port]
  split
  · exact config
  · rfl

theorem configured_request (p : Port) (c : PortConfig) (s : State) :
    ((configured p c s).port p).request = min (s.port p).request c.cap := by
  obtain ⟨r, port, -, -, -, request⟩ := capped_stored p c s
  rw [(configured_frame p c s).request, port, if_pos rfl, request]

/-- R84, R135, R145: what is left of a port whose line is disabled. -/
theorem configured_disabled {p : Port} {c : PortConfig} (off : c.lineEnable = false) (s : State) :
    ((configured p c s).port p).identity = none ∧ (configured p c s).pool.held p = 0 ∧
      (s.linesOn = true → ((configured p c s).line p).tx = .off) := by
  obtain ⟨-, held, tx⟩ := storeConfig_disabled off s
  obtain ⟨r, port, -, identity, -⟩ := capped_stored p c s
  refine ⟨?_, by rw [(configured_handling p c s).pool, held], fun on => finish_tx_off s _ p ?_⟩
  · rw [(configured_frame p c s).identity, port, if_pos rfl, identity, if_pos off]
  · rw [State.line, (applyConfig_frame p _ _).lines]
    exact tx on

/-- R53: shedding and admission leave the retry counter that the switch has been given. -/
theorem configured_retry {p : Port} {c : PortConfig} {s : State}
    (quiet : (s.switch p).filter = none ∨ c.tripFilter = (s.cfg p).tripFilter) :
    ((configured p c s).switch p).retry =
      if c.retryLimit = (s.cfg p).retryLimit then (s.switch p).retry
      else if (s.switch p).lastFault = .retryLimit then min (s.switch p).retry c.retryLimit
      else if c.retryLimit ≤ (s.switch p).retry then c.retryLimit - 1
      else (s.switch p).retry := by
  have stable := retry_stable p ((storeConfig p c s).switch p).retry
  have capped_switch : ((capped p (s.cfg p) (storeConfig p c s)).switch p).retry =
      ((storeConfig p c s).switch p).retry := by
    simp only [State.switch, capped, applyKey_switches, applyCap_switches]
  obtain ⟨u, kept, -, switches⟩ :=
    stable.configure (s0 := s) (stable.applyParent p (s.cfg p) capped_switch)
  have same : (configured p c s).switch p = u.switch p := by
    simp only [State.switch, configured, applyConfig_eq, switches]
  rw [same, kept, storeConfig_retry quiet]

/-- R107: a port of the granted list under a new parent that is SHEDDING, or neither ON nor SHEDDING. -/
theorem configured_parent {p q : Port} {c : PortConfig} {s : State} (granted : (s.alloc p).granted = true)
    (moved : c.parent ≠ (s.cfg p).parent) (parent : c.parent = some q) (other : q ≠ p) :
    let t := configured p c s
    (s.alloc q = .shedding → t.alloc p = .shedding ∨ t.alloc p = .shed ∨ t.alloc p = .off) ∧
      (s.alloc q ≠ .on → s.alloc q ≠ .shedding →
        t.alloc p = (if (t.port p).request = 0 then .off else .shed) ∧ (t.switch p).state = .opened ∧
          ((t.port p).request ≠ 0 → (t.port p).reason = some .dependency)) := by
  intro t
  obtain ⟨r, port, config, -, alloc, -⟩ := capped_stored p c s
  have own : (capped p (s.cfg p) (storeConfig p c s)).port p = r := by rw [port, if_pos rfl]
  set e := capped p (s.cfg p) (storeConfig p c s) with he
  have cfg : e.cfg p = c := by rw [State.cfg, own, config]
  have stays : (e.alloc p).granted = true := by rw [State.alloc, own, alloc granted]; exact granted
  have up : e.alloc q = s.alloc q := by rw [State.alloc, port, if_neg other, State.alloc]
  have changed : (s.cfg p).parent ≠ (e.cfg p).parent := by rw [cfg]; exact Ne.symm moved
  have names : (e.cfg p).parent = some q := by rw [cfg, parent]
  constructor
  · intro shedding
    have leaves : Leaving p q (applyParent p (s.cfg p) e) := by
      rw [applyParent_of_shedding changed stays names (up.trans shedding)]
      exact shed_leaves ⟨names, by rw [up, shedding]; nofun⟩ stays
    obtain ⟨u, ⟨-, left⟩, ports, -⟩ := (leaving_stable p q).configure (s0 := s) leaves
    have same : t.alloc p = u.alloc p := congrArg (fun v => (tget v p).alloc) ports
    rwa [same]
  · intro on shedding
    have gone : Gone p q (PortRec.drop .dependency r) (applyParent p (s.cfg p) e) := by
      rw [applyParent_of_down changed stays names (by rwa [up]) (by rwa [up]), ← own]
      exact dropped_gone ⟨names, by rwa [up]⟩ stays
    obtain ⟨u, left, ports, switches⟩ := (gone_stable p q _).configure (s0 := s) gone
    have samePort : t.port p = PortRec.drop .dependency r := (congrArg (tget · p) ports).trans left.port
    have sameSwitch : t.switch p = u.switch p := congrArg (tget · p) switches
    obtain ⟨-, request, -⟩ := drop_keeps .dependency r
    obtain ⟨-, -, -, state⟩ := drop_empties .dependency r
    refine ⟨?_, by rw [sameSwitch, left.opened], fun some => ?_⟩
    · rw [State.alloc, samePort, request, state]
    · rw [samePort, request] at some
      rw [samePort, PortRec.drop, if_neg some]

end Sys2Proof.Machine

open Sys2Proof Sys2Proof.Machine

/-- Settles O30, command by command. -/
theorem configurationCommandsStoreTheirFields : Obligations.ConfigurationCommandsStoreTheirFields := by
  intro tag pl s free
  refine ⟨fun length => ⟨sourceConfigure_badValue free length, sourceConfigure_protected free length⟩,
    setEnvelope_protected free, portConfigure_badPort free, fun p => portConfigure_refused free p,
    sourceConfigure_stores free, setEnvelope_stores free, fun p length port valid unguarded opens => ?_,
    fun p old => reconfigureSwitch_filter p old s⟩
  set c := readPortFields (factoryPort p) (pl.drop 1) with hc
  have cfg : (configured p c s).cfg p = c := by rw [configured_cfg, if_pos rfl]
  have handling := configured_handling p c s
  obtain ⟨store, mode, -⟩ := storeConfig_rest p c s
  have sample : ∀ ch, (configured p c s).sample ch = (storeConfig p c s).sample ch := fun ch => by
    simp only [State.sample, handling.sense]
  have current : c.tripCurrent ≤ 20000 := by
    simp only [hc, readPortFields, NumField.get, tripCurrentField, clampStep]
    omega
  refine ⟨configured p c s, portConfigure_accepted free length port valid unguarded opens, cfg, fun q h => ?_, ?_,
    fun off => ?_, handling.sel.trans (storeConfig_sel p c s), handling.store.trans store, handling.mode.trans mode,
    fun quiet => ?_, fun g converting seeding => ?_, fun idle => ?_, fun consistent granted moved q parent => ?_⟩
  · rw [configured_cfg, if_neg h]
  · rw [cfg, configured_request]
  · exact configured_disabled (cfg ▸ off) s
  · rw [cfg] at quiet ⊢
    exact configured_retry quiet
  · rw [sample, storeConfig_sample_seeding converting seeding]
  · rw [cfg, sample]
    exact storeConfig_sample_chosen current idle
  · rw [cfg] at moved parent
    obtain ⟨⟨⟨-, -, -, states, -⟩, -⟩, -⟩ := consistent
    have other : q ≠ p := fun e => by simp [State.parentCloses, parent, e] at opens
    exact configured_parent ((states p).1 granted) moved parent other

end

section
/-! What the engine leaves of the sense unit, of the ports' configurations and of the fault counters of the switches: no
operation of the engine, the end of a handling included, touches them (R50, R84). -/

namespace Sys2Proof.Machine

/-- The sense unit, every configuration, and every trip count and retry counter stay as they are. -/
structure CountsSame (s t : State) : Prop where
  sense : t.sense = s.sense
  config : ∀ p, t.cfg p = s.cfg p
  tripCount : ∀ p, (t.switch p).tripCount = (s.switch p).tripCount
  retry : ∀ p, (t.switch p).retry = (s.switch p).retry

theorem CountsSame.refl (s : State) : CountsSame s s := ⟨rfl, fun _ => rfl, fun _ => rfl, fun _ => rfl⟩

theorem CountsSame.trans {s t u : State} (h : CountsSame s t) (k : CountsSame t u) : CountsSame s u where
  sense := k.sense.trans h.sense
  config p := (k.config p).trans (h.config p)
  tripCount p := (k.tripCount p).trans (h.tripCount p)
  retry p := (k.retry p).trans (h.retry p)

/-! ## The elementary moves -/

/-- An update outside the sense unit, the ports and the switches. -/
theorem CountsSame.of_eq {s t : State} (sense : t.sense = s.sense) (ports : t.ports = s.ports)
    (switches : t.switches = s.switches) : CountsSame s t where
  sense := sense
  config p := by simp only [State.cfg, State.port, ports]
  tripCount p := by simp only [State.switch, switches]
  retry p := by simp only [State.switch, switches]

theorem NoticeFrame.countsSame {s t : State} (h : NoticeFrame s t) : CountsSame s t := .of_eq h.sense h.ports h.switches

theorem LineFrame.countsSame {s t : State} (h : LineFrame s t) : CountsSame s t := .of_eq h.sense h.ports h.switches

theorem SelectorFrame.countsSame {s t : State} (h : SelectorFrame s t) : CountsSame s t :=
  .of_eq h.sense h.ports h.switches

theorem mapEngine_countsSame (f : Engine → Engine) (s : State) : CountsSame s (s.mapEngine f) := .of_eq rfl rfl rfl

theorem opportunity_countsSame (s : State) : CountsSame s (opportunity s) := mapEngine_countsSame _ s

/-- A change of a port record that keeps its configuration. -/
theorem mapPort_countsSame (p : Port) (f : PortRec → PortRec) (s : State)
    (config : ∀ r, (f r).config = r.config := by intro; rfl) : CountsSame s (s.mapPort p f) where
  sense := rfl
  config q := by
    simp only [State.cfg, State.mapPort_port]
    split
    · next e => rw [config, e]
    · rfl
  tripCount _ := rfl
  retry _ := rfl

/-- A change of a switch record that keeps its two counters. -/
theorem setSwitch_countsSame (p : Port) (w : SwitchRec) (s : State)
    (tripCount : w.tripCount = (s.switch p).tripCount := by rfl) (retry : w.retry = (s.switch p).retry := by rfl) :
    CountsSame s (s.setSwitch p w) where
  sense := rfl
  config _ := rfl
  tripCount q := by
    rw [State.setSwitch_switch]
    split
    · next e => rw [tripCount, e]
    · rfl
  retry q := by
    rw [State.setSwitch_switch]
    split
    · next e => rw [retry, e]
    · rfl

/-! ## The orders to a switch (R35 to R38) -/

theorem switchOn_countsSame (p : Port) (s : State) : CountsSame s (switchOn p s) := by
  unfold switchOn
  split
  · exact setSwitch_countsSame p _ s
  all_goals exact .refl s

theorem switchOff_countsSame (p : Port) (s : State) : CountsSame s (switchOff p s) := by
  unfold switchOff
  split
  · exact .refl s
  all_goals exact setSwitch_countsSame p _ s

theorem pauseSwitch_countsSame (p : Port) (s : State) : CountsSame s (pauseSwitch p s) := by
  unfold pauseSwitch
  split
  · exact setSwitch_countsSame p _ s
  all_goals exact .refl s

theorem takePowerGood_countsSame (p : Port) (s : State) : CountsSame s (takePowerGood p s) :=
  (setSwitch_countsSame p (s.switch p).close s).trans (.of_eq rfl rfl rfl)

theorem resumeSwitch_countsSame (p : Port) (s : State) : CountsSame s (resumeSwitch p s) := by
  unfold resumeSwitch
  split
  · split
    · exact takePowerGood_countsSame p s
    · exact setSwitch_countsSame p _ s
  all_goals exact .refl s

/-! ## Shedding and admission -/

theorem dropToShed_countsSame (why : ShedReason) (p : Port) (s : State) : CountsSame s (dropToShed why p s) :=
  (((mapPort_countsSame p _ s (fun r => (drop_keeps why r).1)).trans (mapEngine_countsSame _ _)).trans
    (switchOff_countsSame p _)).trans (opportunity_countsSame _)

theorem admitPort_countsSame (p : Port) (s : State) : CountsSame s (admitPort p s) :=
  ((mapPort_countsSame p _ s).trans (mapEngine_countsSame _ _)).trans (switchOn_countsSame p _)

/-- Every shed order, shed check and admission pass after `s` leaves the counters of `s`. -/
theorem countsSame_stable (s : State) : PassStable (CountsSame s) where
  drop _ h := h.trans (dropToShed_countsSame _ _ _)
  enqueue _ h := h.trans (mapEngine_countsSame _ _)
  grace _ h := h.trans (mapPort_countsSame _ _ _)
  modeReason _ h := h.trans (mapPort_countsSame _ _ _)
  hold h := h.trans (mapEngine_countsSame _ _)
  mark h := h.trans (mapEngine_countsSame _ _)
  admitPort _ h := h.trans (admitPort_countsSame _ _)

theorem shed_countsSame (why : ShedReason) (p : Port) (s : State) : CountsSame s (shed why p s) :=
  (countsSame_stable s).shed why p (.refl s)

theorem shedCheck_countsSame (n : Nat) (s : State) : CountsSame s (shedCheck n s) :=
  (countsSame_stable s).shedCheck n (.refl s)

theorem dropChildren_countsSame (n : Nat) (p : Port) (s : State) : CountsSame s (dropChildren n p s) :=
  (countsSame_stable s).dropChildren n p (.refl s)

theorem dropTree_countsSame (why : ShedReason) (p : Port) (s : State) : CountsSame s (dropTree why p s) :=
  (dropToShed_countsSame why p s).trans (dropChildren_countsSame 8 p _)

/-- R92: what an operation leaves, it leaves as one step too. -/
theorem inOneStep_countsSame {f : State → State} (hf : ∀ s, CountsSame s (f s)) (s : State) :
    CountsSame s (inOneStep f s) := (countsSame_stable s).requeue _ (hf s)

/-- A loop of the engine. -/
theorem forEach_countsSame {α : Type} {f : α → State → State} (hf : ∀ x s, CountsSame s (f x s)) (l : List α)
    (s : State) : CountsSame s (forEach l f s) := forEach_rel .refl .trans hf l s

/-- The end of a handling leaves the counters as the handling has. -/
theorem finish_countsSame (s0 : State) {s t : State} (h : CountsSame s t) : CountsSame s (finish s0 t) := by
  obtain ⟨u, kept, ports, switches⟩ := (countsSame_stable s).finish s0 h
  have sense : (finish s0 t).sense = s.sense := (finish_frame s0 t).sense.trans h.sense
  exact kept.trans (.of_eq (sense.trans kept.sense.symm) ports switches)

/-! ## The envelope (R65 to R67, R99) -/

theorem cancelPort_countsSame (p : Port) (s : State) : CountsSame s (cancelPort p s) :=
  (mapPort_countsSame p _ s).trans (opportunity_countsSame _)

theorem cancelWalk_countsSame (l : List Port) : ∀ s : State, CountsSame s (cancelWalk l s) := by
  induction l with
  | nil => exact .refl
  | cons p l ih =>
    intro s
    unfold cancelWalk
    split
    · split
      · exact (forEach_countsSame cancelPort_countsSame _ s).trans (ih _)
      · exact .refl s
    · exact ih s

theorem recompute_countsSame (s : State) : CountsSame s (recompute s) := by
  have stored : CountsSame s (storeEnvelope s) := mapEngine_countsSame _ s
  have checked := stored.trans (shedCheck_countsSame 8 _)
  unfold recompute afterRecompute
  dsimp only
  split
  · exact (checked.trans (cancelWalk_countsSame _ _)).trans (opportunity_countsSame _)
  · exact checked

theorem recomputeUnlessHeld_countsSame (s : State) : CountsSame s (recomputeUnlessHeld s) := by
  unfold recomputeUnlessHeld
  split
  · exact .refl s
  · exact recompute_countsSame s

/-! ## Requests, releases and clears (R70 to R73, R102) -/

theorem emptyRequest_countsSame (p : Port) (s : State) : CountsSame s (emptyRequest p s) :=
  ((mapPort_countsSame p _ s).trans (mapEngine_countsSame _ _)).trans (opportunity_countsSame _)

theorem enterWaiting_countsSame (p : Port) (s : State) : CountsSame s (enterWaiting p s) :=
  (mapPort_countsSame p _ s).trans (mapEngine_countsSame _ _)

theorem requestOff_countsSame (p : Port) (req : Nat) (cut : Bool) (o : Origin) (s : State) :
    CountsSame s (requestOff p req cut o s) := by
  unfold requestOff
  split
  · exact emptyRequest_countsSame p s
  · exact ((mapPort_countsSame p _ s).trans (enterWaiting_countsSame p _)).trans (opportunity_countsSame _)

theorem requestQueued_countsSame (p : Port) (req : Nat) (cut : Bool) (o : Origin) (s : State) :
    CountsSame s (requestQueued p req cut o s) := by
  unfold requestQueued
  split
  · exact emptyRequest_countsSame p s
  · exact (mapPort_countsSame p _ s).trans (opportunity_countsSame _)

theorem requestGranted_countsSame (p : Port) (req : Nat) (cut : Bool) (o : Origin) (s : State) :
    CountsSame s (requestGranted p req cut o s) := by
  unfold requestGranted
  dsimp only
  split
  · exact (mapPort_countsSame p _ s).trans (opportunity_countsSame _)
  · split <;> exact mapPort_countsSame p _ s

theorem acceptRequest_countsSame (p : Port) (asked : Nat) (o : Origin) (s : State) :
    CountsSame s (acceptRequest p asked o s) := by
  unfold acceptRequest
  dsimp only
  split
  · exact requestOff_countsSame p _ _ o s
  · exact requestQueued_countsSame p _ _ o s
  · exact requestQueued_countsSame p _ _ o s
  · exact requestGranted_countsSame p _ _ o s
  · exact requestGranted_countsSame p _ _ o s
  · exact requestGranted_countsSame p _ _ o s
  · exact .refl s
  · exact .refl s

theorem goOff_countsSame (p : Port) (s : State) : CountsSame s (goOff p s) :=
  ((mapPort_countsSame p _ s).trans (mapEngine_countsSame _ _)).trans (switchOff_countsSame p _)

theorem release_countsSame (p : Port) (s : State) : CountsSame s (release p s) := by
  unfold release
  split
  · exact inOneStep_countsSame (fun u => ((goOff_countsSame p u).trans (dropChildren_countsSame 8 p _)).trans
      (opportunity_countsSame _)) s
  · exact goOff_countsSame p s

theorem releaseIfHeld_countsSame (p : Port) (s : State) : CountsSame s (releaseIfHeld p s) := by
  unfold releaseIfHeld
  split
  · exact .refl s
  · exact .refl s
  all_goals exact release_countsSame p s

theorem clearFaulted_countsSame (p : Port) (s : State) : CountsSame s (clearFaulted p s) := by
  unfold clearFaulted
  split
  · exact mapPort_countsSame p _ s
  · exact .refl s

/-! ## The selector's events (R80, R81, R103) -/

theorem beginHold_countsSame (s : State) : CountsSame s (beginHold s) := by
  have hold : ∀ p u, CountsSame u (holdPort p u) := by
    intro p u
    unfold holdPort
    split
    · exact (mapPort_countsSame p _ u).trans (pauseSwitch_countsSame p _)
    · exact .refl u
  unfold beginHold
  split
  · exact .refl s
  · exact (mapEngine_countsSame _ s).trans (forEach_countsSame hold _ _)

theorem endHold_countsSame (s : State) : CountsSame s (endHold s) := by
  have resume : ∀ p u, CountsSame u (resumePort p u) := by
    intro p u
    unfold resumePort
    split
    · exact (mapPort_countsSame p _ u).trans (resumeSwitch_countsSame p _)
    · exact .refl u
  exact (((mapEngine_countsSame _ s).trans (forEach_countsSame resume _ _)).trans (recompute_countsSame _)).trans
    (opportunity_countsSame _)

theorem noSource_countsSame (s : State) : CountsSame s (noSource s) :=
  (((mapEngine_countsSame _ s).trans
    (inOneStep_countsSame (fun u => forEach_countsSame (dropToShed_countsSame .noSource) _ u) _)).trans
    (mapEngine_countsSame _ _)).trans (opportunity_countsSame _)

/-! ## Reports (R78, R79) -/

theorem faultPort_countsSame (p : Port) (s : State) : CountsSame s (faultPort p s) := by
  have faulted : ∀ u, CountsSame u (goFaulted p u) := fun u =>
    ((mapPort_countsSame p _ u).trans (mapEngine_countsSame _ _)).trans (switchOff_countsSame p _)
  exact inOneStep_countsSame
    (fun u => ((faulted u).trans (dropChildren_countsSame 8 p _)).trans (opportunity_countsSame _)) s

theorem takeStartComplete_countsSame (p : Port) (s : State) : CountsSame s (takeStartComplete p s) := by
  unfold takeStartComplete
  split
  · exact ((mapPort_countsSame p _ s).trans (mapEngine_countsSame _ _)).trans (opportunity_countsSame _)
  · exact .refl s

theorem takeStartFail_countsSame (p : Port) (s : State) : CountsSame s (takeStartFail p s) := by
  unfold takeStartFail
  split
  · exact faultPort_countsSame p s
  · exact .refl s

theorem takeOpened_countsSame (p : Port) (s : State) : CountsSame s (takeOpened p s) := by
  unfold takeOpened
  split
  · exact faultPort_countsSame p s
  · exact .refl s

theorem takeTrip_countsSame (p : Port) (o : TripOutcome) (s : State) : CountsSame s (takeTrip p o s) := by
  cases o with
  | opened => exact takeOpened_countsSame p s
  | heldClosed => exact .refl s
  | cooling => exact .refl s

/-! ## Overdraw (R82, R83) -/

theorem resolveOverdraw_countsSame (p : Port) (power : Nat) (s : State) : CountsSame s (resolveOverdraw p power s) := by
  have regranted : CountsSame s (regrant p (regrantPower power) s) := mapPort_countsSame p _ s
  unfold resolveOverdraw
  dsimp only
  split
  · exact regranted
  · split
    · exact regranted.trans (shedCheck_countsSame 8 _)
    · exact (shed_countsSame .overdraw p s).trans (mapEngine_countsSame _ _)

theorem overdrawSample_countsSame (p : Port) (power : Nat) (s : State) : CountsSame s (overdrawSample p power s) := by
  unfold overdrawSample
  split
  · split
    · split
      · exact (resolveOverdraw_countsSame p power s).trans (mapPort_countsSame p _ _)
      · exact mapPort_countsSame p _ s
    · exact mapPort_countsSame p _ s
  · exact .refl s

/-! ## Records (R71) and samples (R20) -/

theorem recordRequest_countsSame (p : Port) (power : Nat) (s : State) : CountsSame s (recordRequest p power s) := by
  unfold recordRequest
  split
  · exact .refl s
  · split
    · exact releaseIfHeld_countsSame p s
    · exact acceptRequest_countsSame p _ _ s

theorem actOnRecord_countsSame (p : Port) (r : AccRecord) (s : State) : CountsSame s (actOnRecord p r s) := by
  cases r with
  | announce t w i => exact (mapPort_countsSame p _ s).trans (recordRequest_countsSame p _ _)
  | request w => exact recordRequest_countsSame p _ s

theorem engineSample_countsSame (ch : SenseChannel) (s : State) : CountsSame s (engineSample ch s) := by
  unfold engineSample
  split
  · split
    · exact finish_countsSame s (overdrawSample_countsSame _ _ s)
    · exact .refl s
  · split
    · exact finish_countsSame s (recompute_countsSame s)
    · exact .refl s

theorem selectorPart_frame (ch : SenseChannel) (s : State) : SelectorFrame s (selectorPart ch s) := by
  unfold selectorPart
  split
  · exact .refl s
  · exact selectorSample_frame _ s

/-- R20, R30: the consumers of a completion leave the sense unit, the configurations and the fault counters. -/
theorem takeSample_countsSame (ch : SenseChannel) (selectorFirst : Bool) (s : State) :
    CountsSame s (takeSample ch selectorFirst s) := by
  unfold takeSample
  split
  · exact (selectorPart_frame ch s).countsSame.trans (engineSample_countsSame ch _)
  · exact (engineSample_countsSame ch s).trans (selectorPart_frame ch _).countsSame

/-! ## The commands of the engine (R85, R118) -/

theorem applyCap_countsSame (p : Port) (s : State) : CountsSame s (applyCap p s) := by
  unfold applyCap
  dsimp only
  split
  · split
    · exact emptyRequest_countsSame p s
    · split
      · exact (mapPort_countsSame p _ s).trans (opportunity_countsSame _)
      · exact mapPort_countsSame p _ s
  · exact .refl s

theorem applyConfig_countsSame (p : Port) (old : PortConfig) (s : State) : CountsSame s (applyConfig p old s) := by
  have keyed : CountsSame s (capped p old s) := by
    refine (applyCap_countsSame p s).trans ?_
    unfold capped applyKey
    split
    · exact mapEngine_countsSame _ _
    · exact .refl _
  rw [applyConfig_eq]
  exact (((countsSame_stable s).applyParent p old keyed).trans (shedCheck_countsSame 8 _)).trans
    (opportunity_countsSame _)

theorem turnRailsOn_countsSame (s : State) : CountsSame s (turnRailsOn s) := by
  have powered : CountsSame s { s with rails := true, linesOn := true } := .of_eq rfl rfl rfl
  refine powered.trans (forEach_countsSame (fun p u => ?_) _ _)
  split
  · exact (turnOnLine_frame p u).countsSame
  · exact .refl u

theorem changeMode_countsSame (dst : Mode) (s : State) : CountsSame s (changeMode dst s) := by
  have entered : CountsSame s (enterMode dst s) := .of_eq rfl rfl rfl
  have shedded := entered.trans (inOneStep_countsSame
    (fun u => forEach_countsSame
      (fun p v => (countsSame_stable v).shedOrder 8 .mode p (.refl v)) (s.modeAffected dst).reverse u) _)
  refine finish_countsSame s (shedded.trans ?_)
  unfold powerUpMode
  split
  · exact .refl _
  · split
    · exact opportunity_countsSame _
    · exact (turnRailsOn_countsSame _).trans (opportunity_countsSame _)

end Sys2Proof.Machine
end

section
/-! The sense unit's part of a sample completion: the record of the completed channel and its pending gain (R20, R21, R24
to R27). -/

namespace Sys2Proof.Machine

/-! ## Channels, ports and sources (Table 2-1) -/

theorem channelPort_portChannel (p : Port) : channelPort (portChannel p) = some p := by
  have range := p.isLt
  unfold channelPort portChannel
  rw [dif_pos ⟨by simp, by simp; omega⟩]
  simp

theorem eq_portChannel_of_channelPort {ch : SenseChannel} {p : Port} (h : channelPort ch = some p) :
    ch = portChannel p := by
  unfold channelPort at h
  split at h
  · next range =>
    cases h
    refine Fin.ext ?_
    simp only [portChannel]
    omega
  · cases h

theorem channelSource_sourceChannel (x : Source) : channelSource (sourceChannel x) = some x := by cases x <;> rfl

theorem eq_sourceChannel_of_channelSource {ch : SenseChannel} {x : Source} (h : channelSource ch = some x) :
    ch = sourceChannel x := by
  unfold channelSource at h
  split at h
  · next zero => cases h; exact Fin.ext zero
  · split at h
    · next one => cases h; exact Fin.ext one
    · split at h
      · next two => cases h; exact Fin.ext two
      · cases h

theorem channelSource_of_no_source {ch : SenseChannel} (h : ∀ x ∈ allSources, ch ≠ sourceChannel x) :
    channelSource ch = none := by
  cases source : channelSource ch with
  | none => rfl
  | some x => exact absurd (eq_sourceChannel_of_channelSource source) (h x (mem_allSources x))

/-! ## The record of a completion (R20) -/

/-- R20: the state with a completion recorded, before the gain is chosen again. -/
def recordSample (ch : SenseChannel) (code : BitVec 12) (g : Option Gain) (s : State) : State :=
  let s1 := s.setSample ch ((s.sample ch).complete code g (!s.changeoverFlag))
  { s1 with sense := { s1.sense with converting := none } }

theorem completeSample_eq (ch : SenseChannel) (code : BitVec 12) (g : Option Gain) (s : State) :
    completeSample ch code g s = rechooseGain ch ((s.sample ch).gain != g) (recordSample ch code g s) := rfl

theorem recordSample_sample (ch c : SenseChannel) (code : BitVec 12) (g : Option Gain) (s : State) :
    (recordSample ch code g s).sample c =
      if c = ch then (s.sample ch).complete code g (!s.changeoverFlag) else s.sample c :=
  State.setSample_sample s ch c _

/-- R25: with no conversion under way a choice of the gain writes the pending gain of its channel. -/
theorem chooseGain_of_idle (p : Port) {s : State} (idle : s.sense.converting = none) :
    chooseGain p s =
      s.setSample (portChannel p) ((s.sample (portChannel p)).choose (gainFor (s.cfg p).tripCurrent)) := by
  unfold chooseGain State.seedingUnderWay
  rw [idle]
  rfl

/-- R25: the gain is chosen again for a port's channel after a seeding completion, and for no other. -/
theorem rechooseGain_cases (ch : SenseChannel) (changed : Bool) {s : State} (idle : s.sense.converting = none) :
    (∃ p, changed = true ∧ ch = portChannel p ∧
        rechooseGain ch changed s = s.setSample ch ((s.sample ch).choose (gainFor (s.cfg p).tripCurrent))) ∨
      ((changed = false ∨ ∀ p, ch ≠ portChannel p) ∧ rechooseGain ch changed s = s) := by
  unfold rechooseGain
  cases port : channelPort ch with
  | none =>
    refine .inr ⟨.inr fun p e => ?_, rfl⟩
    rw [e, channelPort_portChannel] at port
    cases port
  | some p =>
    have own := eq_portChannel_of_channelPort port
    cases changed with
    | false => exact .inr ⟨.inl rfl, rfl⟩
    | true =>
      refine .inl ⟨p, rfl, own, ?_⟩
      rw [own]
      exact chooseGain_of_idle p idle

/-- R20: what a completion leaves of the chip outside the records of the channels. -/
theorem completeSample_rest (ch : SenseChannel) (code : BitVec 12) (g : Option Gain) (s : State) :
    (completeSample ch code g s).sense.converting = none ∧
      (completeSample ch code g s).sense.nextChannel = s.sense.nextChannel ∧
      completeSample ch code g s = { s with sense := (completeSample ch code g s).sense } := by
  rw [completeSample_eq]
  rcases rechooseGain_cases ch ((s.sample ch).gain != g) (s := recordSample ch code g s) rfl with
    ⟨p, -, -, e⟩ | ⟨-, e⟩ <;> rw [e] <;> exact ⟨rfl, rfl, rfl⟩

/-- R20: a completion updates the record of no other channel. -/
theorem completeSample_other {ch c : SenseChannel} (h : c ≠ ch) (code : BitVec 12) (g : Option Gain) (s : State) :
    (completeSample ch code g s).sample c = s.sample c := by
  have recorded : (recordSample ch code g s).sample c = s.sample c := by rw [recordSample_sample, if_neg h]
  rw [completeSample_eq]
  rcases rechooseGain_cases ch ((s.sample ch).gain != g) (s := recordSample ch code g s) rfl with
    ⟨p, -, -, e⟩ | ⟨-, e⟩ <;> rw [e]
  · rw [State.setSample_sample_ne _ _ h, recorded]
  · exact recorded

/-- R20, R25: the record of the completed channel, but for its pending gain. -/
theorem completeSample_self (ch : SenseChannel) (code : BitVec 12) (g : Option Gain) (s : State) :
    (completeSample ch code g s).sample ch =
      { (s.sample ch).complete code g (!s.changeoverFlag) with
        pendingGain := ((completeSample ch code g s).sample ch).pendingGain } := by
  have recorded := recordSample_sample ch ch code g s
  rw [if_pos rfl] at recorded
  rw [completeSample_eq]
  rcases rechooseGain_cases ch ((s.sample ch).gain != g) (s := recordSample ch code g s) rfl with
    ⟨p, -, -, e⟩ | ⟨-, e⟩ <;> rw [e]
  · rw [State.setSample_sample_self, recorded]
    rfl
  · rw [recorded]

/-- R25: a completion at the gain in force leaves the pending gain. -/
theorem completeSample_pendingGain_kept {ch : SenseChannel} (code : BitVec 12) {g : Option Gain} {s : State}
    (same : (s.sample ch).gain = g) :
    ((completeSample ch code g s).sample ch).pendingGain = (s.sample ch).pendingGain := by
  have unchanged : ((s.sample ch).gain != g) = false := by simp [same]
  rw [completeSample_eq, unchanged]
  rcases rechooseGain_cases ch false (s := recordSample ch code g s) rfl with ⟨p, changed, -, -⟩ | ⟨-, e⟩
  · cases changed
  · rw [e, recordSample_sample, if_pos rfl]
    exact if_pos same

/-- R25: a seeding completion clears the pending gain of a channel that is no port's. -/
theorem completeSample_pendingGain_cleared {ch : SenseChannel} (code : BitVec 12) {g : Option Gain} {s : State}
    (other : (s.sample ch).gain ≠ g) (noPort : ∀ p : Port, ch ≠ portChannel p) :
    ((completeSample ch code g s).sample ch).pendingGain = none := by
  rw [completeSample_eq]
  rcases rechooseGain_cases ch ((s.sample ch).gain != g) (s := recordSample ch code g s) rfl with
    ⟨p, -, own, -⟩ | ⟨-, e⟩
  · exact absurd own (noPort p)
  · rw [e, recordSample_sample, if_pos rfl]
    exact if_neg other

/-- R25: a seeding completion of a port's channel chooses the gain again. -/
theorem completeSample_pendingGain_chosen {p : Port} (code : BitVec 12) {g : Option Gain} {s : State}
    (other : (s.sample (portChannel p)).gain ≠ g) :
    ((completeSample (portChannel p) code g s).sample (portChannel p)).pendingGain =
      if g = some (gainFor (s.cfg p).tripCurrent) then none else some (gainFor (s.cfg p).tripCurrent) := by
  have changed : ((s.sample (portChannel p)).gain != g) = true := by simp [other]
  have chosen : completeSample (portChannel p) code g s = chooseGain p (recordSample (portChannel p) code g s) := by
    rw [completeSample_eq, changed, rechooseGain, channelPort_portChannel]
    rfl
  rw [chosen, chooseGain_of_idle p rfl, State.setSample_sample_self, recordSample_sample, if_pos rfl]
  rfl

/-- R25, Table 2-4: the gain chosen from a trip current. -/
theorem gainFor_table (trip : Nat) :
    gainFor trip =
      if trip ≤ 6396 then .g16 else if trip ≤ 12793 then .g8 else if trip ≤ 25587 then .g4 else .g2 := rfl

/-! ## The row (R20) -/

theorem execSampleCompletion_of_conversion {ch : SenseChannel} {g : Option Gain} {s : State}
    (converting : s.sense.converting = some ⟨ch, g⟩) (code : BitVec 12) (selectorFirst : Bool) :
    exec (.sampleCompletion ch code selectorFirst) s =
      .next (takeSample ch selectorFirst (completeSample ch code g s)) := by
  have own : s.conversionOn ch = some ⟨ch, g⟩ := by
    rw [State.conversionOn, converting]
    exact Option.filter_some_pos (beq_self_eq_true ch)
  simp [exec, execSampleCompletion, own]

theorem execSampleCompletion_of_none {ch : SenseChannel} {s : State}
    (none : ∀ c ∈ s.sense.converting, c.channel ≠ ch) (code : BitVec 12) (selectorFirst : Bool) :
    exec (.sampleCompletion ch code selectorFirst) s = .next s := by
  have idle : s.conversionOn ch = Option.none := by
    unfold State.conversionOn
    rw [Option.filter_eq_none_iff]
    simpa using none
  simp [exec, execSampleCompletion, idle]

end Sys2Proof.Machine
end

section
/-! Every step keeps the accumulators, the trip counts and the retry counters in bounds (O57): the sense unit steps an
accumulator, the trips count, a new retry limit takes its counter along, and everything else leaves them as they are. -/

namespace Sys2Proof.Machine

/-- The two invariants of the counters are kept from `s` to `t`. -/
structure BoundsKept (s t : State) : Prop where
  accumulators : AccumulatorsBounded s → AccumulatorsBounded t
  faultCounts : FaultCountsBounded s → FaultCountsBounded t

theorem BoundsKept.refl (s : State) : BoundsKept s s := ⟨id, id⟩

theorem BoundsKept.trans {s t u : State} (h : BoundsKept s t) (k : BoundsKept t u) : BoundsKept s u :=
  ⟨k.accumulators ∘ h.accumulators, k.faultCounts ∘ h.faultCounts⟩

theorem CountsSame.boundsKept {s t : State} (h : CountsSame s t) : BoundsKept s t where
  accumulators bounded ch := by
    simp only [State.sample, h.sense]
    exact bounded ch
  faultCounts bounded p := by
    rw [h.tripCount, h.retry, h.config]
    exact bounded p

/-- An update outside the sense unit, the ports and the switches. -/
theorem BoundsKept.of_eq {s t : State} (sense : t.sense = s.sense) (ports : t.ports = s.ports)
    (switches : t.switches = s.switches) : BoundsKept s t := (CountsSame.of_eq sense ports switches).boundsKept

theorem LineFrame.boundsKept {s t : State} (h : LineFrame s t) : BoundsKept s t := h.countsSame.boundsKept

theorem SelectorFrame.boundsKept {s t : State} (h : SelectorFrame s t) : BoundsKept s t := h.countsSame.boundsKept

theorem forEach_boundsKept {α : Type} {f : α → State → State} (hf : ∀ x s, BoundsKept s (f x s)) (l : List α)
    (s : State) : BoundsKept s (forEach l f s) := forEach_rel .refl .trans hf l s

/-- A handling of the engine, its end included. -/
theorem finish_boundsKept (s0 : State) {s t : State} (h : BoundsKept s t) : BoundsKept s (finish s0 t) :=
  h.trans (finish_countsSame s0 (.refl t)).boundsKept

/-! ## The accumulators (R26, R27) -/

/-- R26, R27: a completion leaves the accumulator of its channel within its bound. -/
theorem complete_acc_le (code : BitVec 12) (g : Option Gain) (settled : Bool) {r : ChannelRec} (bound : r.acc ≤ 32767) :
    (r.complete code g settled).acc ≤ 32767 := by
  have range := code.isLt
  unfold ChannelRec.complete
  dsimp only
  split <;> omega

/-- A change of one channel's record that keeps its accumulator within the bound. -/
theorem setSample_boundsKept (ch : SenseChannel) (r : ChannelRec) (s : State)
    (acc : (s.sample ch).acc ≤ 32767 → r.acc ≤ 32767) : BoundsKept s (s.setSample ch r) where
  accumulators bounded c := by
    rw [State.setSample_sample]
    split
    · exact acc (bounded ch)
    · exact bounded c
  faultCounts := id

theorem chooseGain_boundsKept (p : Port) (s : State) : BoundsKept s (chooseGain p s) := by
  unfold chooseGain
  split
  · exact .refl s
  · exact setSample_boundsKept _ _ s id

theorem completeSample_boundsKept (ch : SenseChannel) (code : BitVec 12) (g : Option Gain) (s : State) :
    BoundsKept s (completeSample ch code g s) := by
  have stored := setSample_boundsKept ch ((s.sample ch).complete code g (!s.changeoverFlag)) s
    (complete_acc_le code g _)
  have recorded : BoundsKept s (recordSample ch code g s) := ⟨stored.accumulators, stored.faultCounts⟩
  rw [completeSample_eq]
  refine recorded.trans ?_
  unfold rechooseGain
  split
  · exact .refl _
  · split
    · exact chooseGain_boundsKept _ _
    · exact .refl _

/-! ## The fault counters of a switch (R46, R50) -/

/-- R46, R50: a switch record whose counters are within their bounds under a retry limit. -/
def SwitchRec.countsWithin (limit : Nat) (w : SwitchRec) : Prop := w.tripCount ≤ Config.tripCountMax ∧ w.retry ≤ limit

/-- A change of one switch record that keeps its counters within their bounds. -/
theorem setSwitch_boundsKept (p : Port) (w : SwitchRec) (s : State)
    (within : (s.switch p).countsWithin (s.cfg p).retryLimit → w.countsWithin (s.cfg p).retryLimit) :
    BoundsKept s (s.setSwitch p w) where
  accumulators := id
  faultCounts bounded q := by
    rw [State.setSwitch_switch]
    split
    · next e => subst e; exact within (bounded q)
    · exact bounded q

/-- R50: the trip count rises to 255 and holds there. -/
theorem countTrip_countsWithin {limit : Nat} {w : SwitchRec} (h : w.countsWithin limit) :
    w.countTrip.countsWithin limit := by
  obtain ⟨tripCount, retry⟩ := h
  refine ⟨?_, retry⟩
  unfold SwitchRec.countTrip
  dsimp only
  split <;> omega

theorem faultReport_boundsKept (p : Port) (w : SwitchRec) (r : Report) (s : State)
    (within : (s.switch p).countsWithin (s.cfg p).retryLimit → w.countsWithin (s.cfg p).retryLimit) :
    BoundsKept s (faultReport p w r s) :=
  (setSwitch_boundsKept p w s within).trans (.of_eq rfl rfl rfl)

/-- R46: the retry counter of a switch rises by 1 and holds at the retry limit. -/
def SwitchRec.countRetry (limit : Nat) (w : SwitchRec) : SwitchRec :=
  { w with retry := if w.retry < limit then w.retry + 1 else w.retry }

theorem countRetry_countsWithin {limit : Nat} {w : SwitchRec} (h : w.countsWithin limit) :
    (w.countRetry limit).countsWithin limit := by
  obtain ⟨tripCount, retry⟩ := h
  refine ⟨tripCount, ?_⟩
  unfold SwitchRec.countRetry
  dsimp only
  split <;> omega

/-- R46, R50: a retry trip counts, and then cools or opens the switch. -/
theorem retryTrip_eq (p : Port) (k : FaultKind) (len : CoolLength) (counted : Bool) (s : State) :
    retryTrip p k len counted s =
      let w := SwitchRec.countRetry (s.cfg p).retryLimit (if counted then (s.switch p).countTrip else s.switch p)
      if w.retry < (s.cfg p).retryLimit then
        faultReport p { w.gateOff (.cooling (.wait len.micros) len) with lastFault := k } (.trip k .cooling) s
      else faultReport p { w.gateOff .opened with lastFault := .retryLimit } .retryLimit s := rfl

theorem retryTrip_boundsKept (p : Port) (k : FaultKind) (len : CoolLength) (counted : Bool) (s : State) :
    BoundsKept s (retryTrip p k len counted s) := by
  rw [retryTrip_eq]
  have counts : (s.switch p).countsWithin (s.cfg p).retryLimit →
      (SwitchRec.countRetry (s.cfg p).retryLimit
        (if counted then (s.switch p).countTrip else s.switch p)).countsWithin (s.cfg p).retryLimit := by
    intro h
    split
    · exact countRetry_countsWithin (countTrip_countsWithin h)
    · exact countRetry_countsWithin h
  generalize SwitchRec.countRetry _ _ = w at counts ⊢
  dsimp only
  split <;> exact faultReport_boundsKept p _ _ s fun h => counts h

theorem latchTrip_boundsKept (p : Port) (k : FaultKind) (s : State) : BoundsKept s (latchTrip p k s) :=
  faultReport_boundsKept p _ _ s countTrip_countsWithin

theorem hardTripStart_boundsKept (p : Port) (s : State) : BoundsKept s (hardTripStart p s) :=
  faultReport_boundsKept p _ _ s countTrip_countsWithin

theorem filteredTripClosed_boundsKept (p : Port) (s : State) : BoundsKept s (filteredTripClosed p s) := by
  unfold filteredTripClosed
  split
  · exact faultReport_boundsKept p _ _ s countTrip_countsWithin
  · exact latchTrip_boundsKept p _ s
  · exact retryTrip_boundsKept p _ _ _ s
  · exact retryTrip_boundsKept p _ _ _ s

theorem hardTripClosed_boundsKept (p : Port) (s : State) : BoundsKept s (hardTripClosed p s) := by
  unfold hardTripClosed
  split
  · exact latchTrip_boundsKept p _ s
  · exact latchTrip_boundsKept p _ s
  · exact retryTrip_boundsKept p _ _ _ s
  · exact retryTrip_boundsKept p _ _ _ s

/-- R54: cleared counters are within any bounds. -/
theorem clearFaults_boundsKept (p : Port) (s : State) : BoundsKept s (clearFaults p s) :=
  (setSwitch_boundsKept p _ s fun _ => ⟨Nat.zero_le _, Nat.zero_le _⟩).trans (.of_eq rfl rfl rfl)

/-! ## A new configuration (R53) -/

theorem reconfigure_tripCount (old new : PortConfig) (w : SwitchRec) :
    (w.reconfigure old new).tripCount = w.tripCount := by
  have kept : (w.rearm old new).tripCount = w.tripCount := by rcases rearm_cases old new w with h | h <;> rw [h]; rfl
  rw [reconfigure_eq, SwitchRec.adjustRetry]
  split <;> exact kept

/-- R53: a switch within the old retry limit is within the new one once it has taken it. -/
theorem reconfigure_countsWithin {old : PortConfig} (new : PortConfig) {w : SwitchRec}
    (h : w.countsWithin old.retryLimit) : (w.reconfigure old new).countsWithin new.retryLimit := by
  obtain ⟨tripCount, retry⟩ := h
  refine ⟨by rwa [reconfigure_tripCount], ?_⟩
  rw [reconfigure_retry]
  repeat' split
  all_goals omega

/-- R53, R57, R84: a port and its switch take a configuration. -/
theorem storeSwitch_boundsKept (p : Port) (c : PortConfig) (s : State) : BoundsKept s (storeSwitch p c s) := by
  set stored := s.mapPort p (fun r => { r with config := c }) with hs
  have cfg : stored.cfg p = c := by rw [State.cfg, hs, State.mapPort_port_self]
  have other : ∀ q, q ≠ p → stored.cfg q = s.cfg q := fun q h => by
    rw [State.cfg, hs, State.mapPort_port_ne s _ h, State.cfg]
  have taken : BoundsKept s (stored.setSwitch p ((s.switch p).reconfigure (s.cfg p) (stored.cfg p))) := by
    refine ⟨id, fun bounded q => ?_⟩
    rw [State.setSwitch_switch]
    split
    · next e => subst e; exact reconfigure_countsWithin _ (bounded q)
    · next h =>
      have same : (stored.setSwitch p ((s.switch p).reconfigure (s.cfg p) (stored.cfg p))).cfg q = s.cfg q := other q h
      rw [same]
      exact bounded q
  have quiet : (storeSwitch p c s) = reconfigureSwitch p (s.cfg p) stored := rfl
  rw [quiet]
  unfold reconfigureSwitch
  dsimp only
  split
  · exact taken.trans (filteredTripClosed_boundsKept p _)
  · exact taken

theorem storeConfig_boundsKept (p : Port) (c : PortConfig) (s : State) : BoundsKept s (storeConfig p c s) := by
  have lined := ((storeSwitch_boundsKept p c s).trans (chooseGain_boundsKept p _)).trans
    (applyLineConfig_frame p c _).boundsKept
  rw [storeConfig_eq]
  refine lined.trans ?_
  unfold applyDisable
  split
  · exact .refl _
  · have forgotten := mapPort_countsSame p (fun r => { r with identity := none })
      (applyLineConfig p c (chooseGain p (storeSwitch p c s)))
    exact forgotten.boundsKept.trans (.of_eq rfl rfl rfl)

/-! ## The end of INIT (R113) -/

theorem evaluate_boundsKept (s : State) : BoundsKept s (evaluate s) := (evaluate_frame s).boundsKept

theorem firstOver_boundsKept (x : Source) (s : State) : BoundsKept s (firstOver x s) := by
  unfold firstOver
  split
  · exact (changeSource_frame x _ s).boundsKept
  · exact .refl s

theorem loadSelector_boundsKept (x : SystemProfile) (s : State) : BoundsKept s (loadSelector x s) := by
  unfold loadSelector
  split
  · have stored : BoundsKept s { s with sel := { s.sel with settings := x.settings } } := .of_eq rfl rfl rfl
    exact ((stored.trans (forEach_boundsKept (fun i u => (setSource_frame i _ u).boundsKept) _ _)).trans
      (forEach_boundsKept (fun i u => (applyEnable_frame i _ u).boundsKept) _ _)).trans (evaluate_boundsKept _)
  · have stored : BoundsKept s { s with sel := { s.sel with settings := x.settings, loaded := true } } :=
      .of_eq rfl rfl rfl
    exact ((stored.trans (forEach_boundsKept (fun i u => (setSource_frame i _ u).boundsKept) _ _)).trans
      (forEach_boundsKept firstOver_boundsKept _ _)).trans (evaluate_boundsKept _)

/-- R57: a port takes its profile as it takes a configuration. -/
theorem loadPort_boundsKept (p : Port) (s : State) : BoundsKept s (loadPort p s) :=
  ((storeSwitch_boundsKept p _ s).trans (chooseGain_boundsKept p _)).trans (setLineRate_frame p _ _).boundsKept

/-- R108: a parent taken away is no part of the retry limit. -/
theorem breakCycle_boundsKept (p : Port) (s : State) : BoundsKept s (breakCycle p s) := by
  unfold breakCycle
  split
  · refine ⟨id, fun bounded q => ?_⟩
    have limit : ((s.mapPort p fun r => { r with config := { r.config with parent := none } }).cfg q).retryLimit =
        (s.cfg q).retryLimit := by
      simp only [State.cfg, State.mapPort_port]
      split
      · next e => rw [e]
      · rfl
    rw [limit]
    exact bounded q
  · exact .refl s

theorem coldStartPort_countsSame (p : Port) (s : State) : CountsSame s (coldStartPort p s) := by
  unfold coldStartPort
  dsimp only
  split
  · exact .refl s
  · exact (mapPort_countsSame p _ s).trans (enterWaiting_countsSame p _)

theorem firstEnvelope_countsSame (s : State) : CountsSame s (firstEnvelope s) := by
  unfold firstEnvelope
  split
  · exact mapEngine_countsSame _ s
  · exact recompute_countsSame s

theorem prepareEngine_countsSame (s : State) : CountsSame s (prepareEngine s) := by
  refine ((firstEnvelope_countsSame s).trans (forEach_countsSame coldStartPort_countsSame _ _)).trans
    (forEach_countsSame (fun p u => ?_) _ _)
  split
  · exact (postNotice_frame _ u).countsSame
  · exact .refl u

theorem loadSettings_boundsKept (x : SystemProfile) (s : State) : BoundsKept s (loadSettings x s) := .of_eq rfl rfl rfl

theorem applyProfiles_boundsKept (s : State) : BoundsKept s (applyProfiles s) := by
  have loaded := (loadSelector_boundsKept (loadedSystem (tget s.store.slots 8)) s).trans
    (forEach_boundsKept loadPort_boundsKept allPorts _)
  exact ((loaded.trans (loadSettings_boundsKept _ _)).trans (forEach_boundsKept breakCycle_boundsKept allPorts _)).trans
    (prepareEngine_countsSame _).boundsKept

theorem leaveInit_countsSame (s : State) : CountsSame s (leaveInit s) := by
  have left : CountsSame s { s with mode := s.targetMode, initByLink := false } := .of_eq rfl rfl rfl
  unfold leaveInit
  dsimp only
  refine left.trans (CountsSame.trans ?_ (postNotice_frame _ _).countsSame)
  split
  · exact (turnRailsOn_countsSame _).trans (opportunity_countsSame _)
  · exact .refl _

theorem endInit_boundsKept (s : State) : BoundsKept s (endInit s) :=
  finish_boundsKept s ((applyProfiles_boundsKept s).trans (leaveInit_countsSame _).boundsKept)

/-! ## The resets (R33, R34, R55) and a microsecond -/

theorem atReset_countsWithin (limit : Nat) (w : SwitchRec) : w.atReset.countsWithin limit :=
  ⟨Nat.zero_le _, Nat.zero_le _⟩

theorem hardReset_boundsKept (lock : Bool) (s : State) : BoundsKept s (hardReset lock s) where
  accumulators _ := reset_accumulatorsBounded
  faultCounts _ p := by
    rw [hardReset_switch]
    exact atReset_countsWithin _ _

theorem linkReset_boundsKept (s : State) : BoundsKept s (linkReset s) where
  accumulators := id
  faultCounts _ p := by
    have cleared : (linkReset s).switch p = (s.switch p).atReset := tget_map _ _ _
    rw [cleared]
    exact atReset_countsWithin _ _

theorem tick_countsSame (s : State) : CountsSame s (tick s) := by
  unfold tick
  split
  · exact .refl s
  · exact ⟨rfl, fun p => by simp only [State.cfg, State.port, tget_map]; rfl,
      fun p => by simp only [State.switch, tget_map]; rfl, fun p => by simp only [State.switch, tget_map]; rfl⟩

/-! ## The commands of the host -/

theorem reply_countsSame (c : Command) (tag : Byte) (r : Result) (fields : List Byte) (s : State) :
    CountsSame s (reply c tag r fields s) := .of_eq rfl rfl rfl

/-- A command that ends in a reply. -/
theorem BoundsKept.replied {s t : State} (h : BoundsKept s t) (c : Command) (tag : Byte) (r : Result)
    (fields : List Byte) : BoundsKept s (reply c tag r fields t) := h.trans (reply_countsSame c tag r fields t).boundsKept

theorem configureFor_boundsKept (p : Port) (tag : Byte) (b : List Byte) (s : State) :
    BoundsKept s (configureFor p tag b s) := by
  unfold configureFor
  dsimp only
  repeat' split
  case isFalse.isFalse.isFalse =>
    exact (finish_boundsKept s ((storeConfig_boundsKept p _ s).trans (applyConfig_countsSame p _ _).boundsKept)).replied
      _ _ _ _
  all_goals exact (BoundsKept.refl s).replied _ _ _ _

theorem requestFor_boundsKept (p : Port) (tag : Byte) (asked : Nat) (s : State) :
    BoundsKept s (requestFor p tag asked s) := by
  unfold requestFor replyRequest
  dsimp only
  repeat' split
  case isFalse.isFalse.isFalse =>
    exact (finish_countsSame s (acceptRequest_countsSame p asked .link s)).boundsKept.replied _ _ _ _
  all_goals exact (BoundsKept.refl s).replied _ _ _ _

theorem releaseFor_boundsKept (p : Port) (tag : Byte) (s : State) : BoundsKept s (releaseFor p tag s) := by
  unfold releaseFor
  repeat' split
  case isFalse.isFalse => exact (finish_countsSame s (releaseIfHeld_countsSame p s)).boundsKept.replied _ _ _ _
  all_goals exact (BoundsKept.refl s).replied _ _ _ _

theorem clearFor_boundsKept (p : Port) (tag : Byte) (s : State) : BoundsKept s (clearFor p tag s) := by
  unfold clearFor
  split
  · exact (BoundsKept.refl s).replied _ _ _ _
  · exact (finish_boundsKept s
      ((clearFaults_boundsKept p s).trans (clearFaulted_countsSame p _).boundsKept)).replied _ _ _ _

theorem setEnvelope_boundsKept (tag : Byte) (pl : List Byte) (s : State) : BoundsKept s (doSetEnvelope tag pl s) := by
  unfold doSetEnvelope
  split
  · exact (BoundsKept.refl s).replied _ _ _ _
  · exact (finish_countsSame s
      ((mapEngine_countsSame _ s).trans (recomputeUnlessHeld_countsSame _))).boundsKept.replied _ _ _ _

theorem setMode_boundsKept (tag : Byte) (pl : List Byte) (s : State) : BoundsKept s (doSetMode tag pl s) := by
  unfold doSetMode replyMode
  repeat' split
  case h_2.isFalse.isFalse => exact (changeMode_countsSame _ s).boundsKept.replied _ _ _ _
  all_goals exact (BoundsKept.refl s).replied _ _ _ _

theorem configureSource_boundsKept (x : Source) (pl : List Byte) (s : State) : BoundsKept s (configureSource x pl s) := by
  have stored : BoundsKept s (storeSourceSettings x (readSourceFields (s.source x).config (pl.drop 1))
      (readSettings (pl.drop 8)) s) := .of_eq rfl rfl rfl
  exact (stored.trans (applyEnable_frame x _ _).boundsKept).trans (evaluate_boundsKept _)

theorem relayCancel_boundsKept (tag : Byte) (pl : List Byte) (s : State) : BoundsKept s (doRelayCancel tag pl s) := by
  unfold doRelayCancel cancelSend
  repeat' split
  · exact (BoundsKept.refl s).replied _ _ _ _
  · exact (BoundsKept.refl s).replied _ _ _ _
  · exact ((leaveLine_frame _ _ s).trans (cancelRest_frame _ _ _)).boundsKept.replied _ _ _ _
  · exact (setChannel_frame _ _ s).boundsKept.replied _ _ _ _

theorem relaySend_boundsKept (tag : Byte) (pl : List Byte) (s : State) : BoundsKept s (doRelaySend tag pl s) := by
  unfold doRelaySend
  split
  · exact (BoundsKept.refl s).replied _ _ _ _
  · exact (BoundsKept.refl s).replied _ _ _ _
  · exact (.of_eq rfl rfl rfl : BoundsKept s (reservePlace s)).trans (reachNext_frame _ _ _ _).boundsKept

/-- R174: what the commands do to the counters. Those of the link, the relay pool and the profile store have no part in
them. -/
theorem carryOut_boundsKept (c : Command) (tag : Byte) (pl : List Byte) (s : State) :
    BoundsKept s (carryOut c tag pl s) := by
  have refused : ∀ (c : Command) (r : Result) (fields : List Byte), BoundsKept s (reply c tag r fields s) :=
    fun c r fields => (BoundsKept.refl s).replied c tag r fields
  cases c <;> simp only [carryOut]
  case portConfigure =>
    unfold doPortConfigure
    split
    · exact refused _ _ _
    · exact configureFor_boundsKept _ tag _ s
  case portRequest =>
    unfold doPortRequest
    split
    · exact refused _ _ _
    · exact requestFor_boundsKept _ tag _ s
  case portRelease =>
    unfold doPortRelease
    split
    · exact refused _ _ _
    · exact releaseFor_boundsKept _ tag s
  case portClear =>
    unfold doPortClear
    split
    · exact refused _ _ _
    · exact clearFor_boundsKept _ tag s
  case setEnvelope => exact setEnvelope_boundsKept tag pl s
  case setMode => exact setMode_boundsKept tag pl s
  case sourceConfigure =>
    unfold doSourceConfigure
    repeat' split
    case h_2.isFalse.isFalse => exact (configureSource_boundsKept _ pl s).replied _ _ _ _
    all_goals exact refused _ _ _
  case relaySend => exact relaySend_boundsKept tag pl s
  case relayCancel => exact relayCancel_boundsKept tag pl s
  case relayFetch | lineReset | linkSet | noticeConfig | noticeFetch | reset | measure | portQuery | profileRead
      | profileWrite | profileProtect =>
    simp only [doRelayFetch, fetchAny, fetchPort, fetchRecord, doLineReset, doLinkSet, doNoticeConfig, doNoticeFetch,
      doReset, doMeasure, doPortQuery, doProfileRead, doProfileWrite, writePayload, writeLive, doProfileProtect,
      protectSession, protectMap]
    repeat' split
    all_goals exact .of_eq rfl rfl rfl
  all_goals exact .of_eq rfl rfl rfl

theorem decodeFrame_boundsKept (f : Frame) (s : State) : BoundsKept s (decodeFrame f s) := by
  unfold decodeFrame decodeListed
  repeat' split
  case h_2.isFalse.isFalse => exact (carryOut_boundsKept _ _ _ s).trans (.of_eq rfl rfl rfl)
  all_goals exact .of_eq rfl rfl rfl

theorem handGoodFrame_boundsKept (f : Frame) (s : State) : BoundsKept s (handGoodFrame f s) := by
  unfold handGoodFrame
  repeat' split
  all_goals exact .of_eq rfl rfl rfl

theorem takeHead_boundsKept (s : State) : BoundsKept s (takeHead s) := by
  unfold takeHead
  split
  · exact .refl s
  · split
    · next f rest _ _ =>
      have alone : BoundsKept s (s.setLink { s.link with commands := [] }) := .of_eq rfl rfl rfl
      have decoded := alone.trans (decodeFrame_boundsKept f _)
      exact decoded.trans (.of_eq rfl rfl rfl)
    · exact .refl s

theorem offerFrame_boundsKept (f : Frame) (s : State) : BoundsKept s (offerFrame f s) := by
  unfold offerFrame
  repeat' split
  · exact .refl s
  · exact (handGoodFrame_boundsKept f s).trans (takeHead_boundsKept _)
  · exact takeHead_boundsKept s
  · exact handGoodFrame_boundsKept f s

/-- R171 to R173: a received character may hand over a frame. -/
theorem receiveLinkChar_boundsKept (x : LinkSamples) (s : State) : BoundsKept s (receiveLinkChar x s) := by
  have framed : ∀ b u, BoundsKept u (frameByte b u) := by
    intro b u
    unfold frameByte completeFrame
    dsimp only
    repeat' split
    case isFalse.isTrue.isTrue =>
      exact (.of_eq rfl rfl rfl : BoundsKept u (u.setLink u.link.hunt)).trans (handGoodFrame_boundsKept _ _)
    all_goals exact .of_eq rfl rfl rfl
  have taken : ∀ d u, BoundsKept u (linkByte d u) := by
    intro d u
    unfold linkByte
    split
    · split <;> exact .of_eq rfl rfl rfl
    · exact framed _ u
  have decided : BoundsKept s (s.setLink { s.link with charInProgress := false }) := .of_eq rfl rfl rfl
  unfold receiveLinkChar
  dsimp only
  split
  · exact decided.trans (taken _ _)
  · exact .of_eq rfl rfl rfl

/-! ## The events of the lines and the engine -/

/-- R123 to R129: a character of a line may reach the pool or the engine's inbox. -/
theorem receiveChar_countsSame (p : Port) (x : LineSamples) (s : State) : CountsSame s (receiveChar p x s) := by
  have effect : ∀ (e : LineEffect) (u : State), CountsSame u (applyLineEffect p e u) := by
    intro e u
    cases e with
    | none => exact .refl u
    | handOver r => exact .of_eq rfl rfl rfl
    | deposit body noise =>
      simp only [applyLineEffect, poolArrive]
      repeat' split
      all_goals exact .of_eq rfl rfl rfl
  exact ((setLine_frame p _ s).trans (idleAfterChar_frame p x _)).countsSame.trans (effect _ _)

theorem takeEvent_countsSame (e : SelEvent) {f : State → State} (hf : ∀ s, CountsSame s (f s)) (s : State) :
    CountsSame s (takeEvent e f s) := by
  unfold takeEvent
  split
  · exact .refl s
  · split
    · next rest _ _ =>
      have taken : CountsSame s { s with selEvents := rest } := .of_eq rfl rfl rfl
      exact taken.trans (finish_countsSame _ (hf _))
    · exact .refl s

theorem takeReport_countsSame (p : Port) (rest : List Report) {f : State → State} (hf : ∀ s, CountsSame s (f s))
    (s : State) : CountsSame s (takeReport p rest f s) :=
  (.of_eq rfl rfl rfl : CountsSame s (s.setReports p rest)).trans (finish_countsSame _ (hf _))

theorem takeRecord_countsSame (p : Port) (r : AccRecord) (s : State) : CountsSame s (takeRecord p r s) := by
  unfold takeRecord
  split
  · split
    · exact finish_countsSame s (actOnRecord_countsSame p r s)
    · exact .refl s
  · split
    · next rest _ _ =>
      exact (.of_eq rfl rfl rfl : CountsSame s (s.setRecords p rest)).trans
        (finish_countsSame _ (actOnRecord_countsSame p r _))
    · split
      · exact .of_eq rfl rfl rfl
      · exact .refl s

theorem dueReclose_countsSame (s : State) : CountsSame s (dueReclose s) := by
  have kept : ∀ w : SwitchRec, w.flagClears.tripCount = w.tripCount ∧ w.flagClears.retry = w.retry := by
    intro w
    unfold SwitchRec.flagClears
    split <;> exact ⟨rfl, rfl⟩
  have switch : ∀ p, (dueReclose s).switch p = (s.switch p).flagClears := fun p => tget_map _ _ _
  exact ⟨rfl, fun _ => rfl, fun p => by rw [switch, (kept _).1], fun p => by rw [switch, (kept _).2]⟩

theorem targetClosed_countsSame (t : Source) (s : State) : CountsSame s (targetClosed t s) := by
  have driven : CountsSame s (((driveSel t true s).setActive (some t)).setChangeover none) := .of_eq rfl rfl rfl
  exact ((driven.trans (dueReclose_countsSame _)).trans (sendEvent_frame _ _).countsSame).trans
    ((postSourceState_frame t _).trans (postActive_frame _ _)).countsSame

theorem failChangeover_countsSame (s : State) : CountsSame s (failChangeover s) := by
  have left : CountsSame s ((s.setActive none).setChangeover none) := .of_eq rfl rfl rfl
  exact (left.trans (dueReclose_countsSame _)).trans ((sendEvent_frame _ _).trans (postActive_frame _ _)).countsSame

/-- R13: the end of a changeover moves the switches in DUE and the selector. -/
theorem finishChangeover_countsSame (t : Source) (s : State) : CountsSame s (finishChangeover t s) := by
  unfold finishChangeover
  split
  · rw [closeChangeover_eq]
    exact (targetClosed_countsSame t s).trans (evaluate_frame _).countsSame
  · split
    · exact .of_eq rfl rfl rfl
    · exact failChangeover_countsSame s

end Sys2Proof.Machine
end

section
/-! Every step keeps the counters in bounds, assembled (O57): the events of a switch, and the commands one by one. -/

namespace Sys2Proof.Machine

/-! ## The events of a switch (R39 to R49) -/

theorem execPowerGood_boundsKept {p : Port} {s t : State} (h : execPowerGood p s = .next t) : BoundsKept s t := by
  cases h
  split
  · exact (takePowerGood_countsSame p s).boundsKept
  · exact setSwitch_boundsKept p _ s id
  · exact setSwitch_boundsKept p _ s id
  all_goals exact .refl s

theorem execStartTimeout_boundsKept {p : Port} {s t : State} (h : execStartTimeout p s = .next t) :
    BoundsKept s t := by
  cases h
  split
  · split
    · exact faultReport_boundsKept p _ _ s id
    · exact .refl s
  all_goals exact .refl s

theorem execHardTrip_boundsKept {p : Port} {s t : State} (h : execHardTrip p s = .next t) : BoundsKept s t := by
  cases h
  split
  · exact hardTripStart_boundsKept p s
  · exact hardTripStart_boundsKept p s
  · exact hardTripClosed_boundsKept p s
  · exact retryTrip_boundsKept p _ _ _ s
  all_goals exact .refl s

theorem execTripComparatorReleases_boundsKept {p : Port} {s t : State}
    (h : execTripComparatorReleases p s = .next t) : BoundsKept s t := by
  cases h
  split <;> exact setSwitch_boundsKept p _ s id

theorem execFilteredTrip_boundsKept {p : Port} {s t : State} (h : execFilteredTrip p s = .next t) :
    BoundsKept s t := by
  cases h
  split
  · exact filteredTripClosed_boundsKept p s
  · exact .refl s

theorem execCoolingExpiry_boundsKept {p : Port} {s t : State} (h : execCoolingExpiry p s = .next t) :
    BoundsKept s t := by
  cases h
  split
  · exact setSwitch_boundsKept p _ s id
  all_goals exact .refl s

theorem execRecloseTimeout_boundsKept {p : Port} {s t : State} (h : execRecloseTimeout p s = .next t) :
    BoundsKept s t := by
  cases h
  split
  · exact retryTrip_boundsKept p _ _ _ s
  all_goals exact .refl s

/-- R49: a clean run takes the retry counter to 0. -/
theorem execCleanRun_boundsKept {p : Port} {s t : State} (h : execCleanRun p s = .next t) : BoundsKept s t := by
  cases h
  split
  · split
    · exact setSwitch_boundsKept p _ s fun ⟨tripCount, _⟩ => ⟨tripCount, Nat.zero_le _⟩
    · exact .refl s
  all_goals exact .refl s

/-! ## The events of the engine -/

theorem execGraceExpiry_countsSame {p : Port} {s t : State} (h : execGraceExpiry p s = .next t) : CountsSame s t := by
  cases h
  split
  · exact finish_countsSame s (inOneStep_countsSame (dropTree_countsSame _ p) s)
  · exact .refl s

theorem execRestoreHoldExpiry_countsSame {s t : State} (h : execRestoreHoldExpiry s = .next t) : CountsSame s t := by
  cases h
  split
  · exact finish_countsSame s ((mapEngine_countsSame _ s).trans (opportunity_countsSame _))
  · exact .refl s

theorem execStartComplete_countsSame {p : Port} {s t : State} (h : execStartComplete p s = .next t) :
    CountsSame s t := by
  cases h
  split
  · exact takeReport_countsSame p _ (takeStartComplete_countsSame p) s
  all_goals exact .refl s

theorem execStartFail_countsSame {p : Port} {s t : State} (h : execStartFail p s = .next t) : CountsSame s t := by
  cases h
  split
  · exact takeReport_countsSame p _ (takeStartFail_countsSame p) s
  all_goals exact .refl s

theorem execTrip_countsSame {p : Port} {s t : State} (h : execTrip p s = .next t) : CountsSame s t := by
  cases h
  split
  · exact takeReport_countsSame p _ (takeTrip_countsSame p _) s
  all_goals exact .refl s

theorem execRetryLimit_countsSame {p : Port} {s t : State} (h : execRetryLimit p s = .next t) : CountsSame s t := by
  cases h
  split
  · exact takeReport_countsSame p _ (takeOpened_countsSame p) s
  all_goals exact .refl s

/-! ## The commands one by one -/

/-- R13: the end of a changeover. -/
theorem execChangeoverEnd_countsSame {s t : State} (h : execChangeoverEnd s = .next t) : CountsSame s t := by
  cases h
  split
  · exact .refl s
  · split
    · exact finishChangeover_countsSame _ s
    · exact .refl s

/-- R3: a comparator level taken, and the move it brings about. -/
theorem setComparator_boundsKept (x : Source) (b : Bool) (moves : Prop) [Decidable moves] (st : SourceState)
    (s : State) :
    BoundsKept s
      (if moves then changeSource x st (s.setSource x { s.source x with comparator := b })
        else s.setSource x { s.source x with comparator := b }) := by
  have level := setSource_frame x { s.source x with comparator := b } s
  split
  · exact (level.trans (changeSource_frame x st _)).boundsKept
  · exact level.boundsKept

/-- R161, R167: a completed write touches the store and the reply queue. -/
theorem execWriteComplete_countsSame {s t : State} (h : execWriteComplete s = .next t) : CountsSame s t := by
  cases h
  repeat' split
  all_goals exact .of_eq rfl rfl rfl

theorem execProtectionWriteComplete_countsSame {s t : State} (h : execProtectionWriteComplete s = .next t) :
    CountsSame s t := by
  cases h
  repeat' split
  all_goals exact .of_eq rfl rfl rfl

theorem execFrameEnd_boundsKept {s t : State} (h : execFrameEnd s = .next t) : BoundsKept s t := by
  cases h
  split
  · exact .refl s
  · split
    · exact linkReset_boundsKept s
    · exact .of_eq rfl rfl rfl

/-- A row that writes the link's record, or nothing. -/
theorem setLink_boundsKept (b : Prop) [Decidable b] (l : Link) (s : State) :
    BoundsKept s (if b then s.setLink l else s) := by
  split
  · exact .of_eq rfl rfl rfl
  · exact .refl s

theorem setLink_boundsKept_unless (b : Prop) [Decidable b] (l : Link) (s : State) :
    BoundsKept s (if b then s else s.setLink l) := by
  split
  · exact .refl s
  · exact .of_eq rfl rfl rfl

/-- R27, R46, R50: every command keeps the counters in bounds. -/
theorem exec_boundsKept {i : Instr} {s t : State} (h : exec i s = .next t) : BoundsKept s t := by
  cases i with
  | por => cases h; exact hardReset_boundsKept _ s
  | pinReset => cases h; exact hardReset_boundsKept _ s
  | loadingComplete =>
    cases h
    split
    · exact endInit_boundsKept s
    · exact .refl s
  | lockChange low => cases h; exact .of_eq rfl rfl rfl
  | resetRelease => cases h; exact .of_eq rfl rfl rfl
  | sampleCompletion ch code selectorFirst =>
    cases h
    split
    · exact .refl s
    · exact (completeSample_boundsKept ch code _ s).trans (takeSample_countsSame ch selectorFirst _).boundsKept
  | conversionStart ch =>
    cases h
    split
    · exact ⟨id, id⟩
    · exact .refl s
  | qualifyExpiry x =>
    cases h
    split
    · exact (changeSource_frame x _ s).boundsKept
    · exact .refl s
  | comparatorAsserts x => cases h; exact setComparator_boundsKept x true _ .over s
  | comparatorReleases x => cases h; exact setComparator_boundsKept x false _ .qualifying s
  | changeoverEnd => exact (execChangeoverEnd_countsSame h).boundsKept
  | changeoverBeginEvent => cases h; exact (takeEvent_countsSame _ beginHold_countsSame s).boundsKept
  | changeoverEndEvent => cases h; exact (takeEvent_countsSame _ endHold_countsSame s).boundsKept
  | noSourceEvent => cases h; exact (takeEvent_countsSame _ noSource_countsSame s).boundsKept
  | graceExpiry p => exact (execGraceExpiry_countsSame h).boundsKept
  | restoreHoldExpiry => exact (execRestoreHoldExpiry_countsSame h).boundsKept
  | powerGood p => exact execPowerGood_boundsKept h
  | startTimeout p => exact execStartTimeout_boundsKept h
  | hardTrip p => exact execHardTrip_boundsKept h
  | tripComparatorAsserts p => cases h; exact setSwitch_boundsKept p _ s id
  | tripComparatorReleases p => exact execTripComparatorReleases_boundsKept h
  | filteredTrip p => exact execFilteredTrip_boundsKept h
  | coolingExpiry p => exact execCoolingExpiry_boundsKept h
  | recloseTimeout p => exact execRecloseTimeout_boundsKept h
  | cleanRun p => exact execCleanRun_boundsKept h
  | startComplete p => exact (execStartComplete_countsSame h).boundsKept
  | startFail p => exact (execStartFail_countsSame h).boundsKept
  | trip p => exact (execTrip_countsSame h).boundsKept
  | retryLimit p => exact (execRetryLimit_countsSame h).boundsKept
  | announce p typeCode power identity => cases h; exact (takeRecord_countsSame p _ s).boundsKept
  | request p power => cases h; exact (takeRecord_countsSame p _ s).boundsKept
  | characterReceived p x =>
    cases h
    split
    · exact (receiveChar_countsSame p x s).boundsKept
    · exact .refl s
  | lineValidStart p => exact (execLineValidStart_frame h).boundsKept
  | lineGapExpiry p => exact (execLineGapExpiry_frame h).boundsKept
  | lineBreak p => exact (execLineBreak_frame h).boundsKept
  | pendingRateInForce p => exact (execPendingRateInForce_frame h).boundsKept
  | breakEnd p => exact (execBreakEnd_frame h).boundsKept
  | recordStart p => exact (execRecordStart_frame h).boundsKept
  | recordSent p => exact (execRecordSent_frame h).boundsKept
  | collision p => exact (execCollision_frame h).boundsKept
  | backoffStart p => exact (execBackoffStart_frame h).boundsKept
  | backoffExpiry p => exact (execBackoffExpiry_frame h).boundsKept
  | channelWaitExpiry c => exact (execChannelWaitExpiry_frame h).boundsKept
  | writeComplete => exact (execWriteComplete_countsSame h).boundsKept
  | protectionWriteComplete => exact (execProtectionWriteComplete_countsSame h).boundsKept
  | linkCharacterReceived x =>
    cases h
    split
    · exact receiveLinkChar_boundsKept x s
    · exact .refl s
  | linkValidStart => cases h; exact setLink_boundsKept_unless _ _ s
  | linkGapExpiry => cases h; exact setLink_boundsKept _ _ s
  | linkBreak => cases h; exact setLink_boundsKept _ _ s
  | frameBegin => cases h; exact setLink_boundsKept_unless _ _ s
  | receiverRateChange => cases h; exact setLink_boundsKept_unless _ _ s
  | frameEnd => exact execFrameEnd_boundsKept h
  | _ => cases h; exact offerFrame_boundsKept _ s

end Sys2Proof.Machine

open Sys2Proof Sys2Proof.Machine

/-- Settles O57: a step is a microsecond or a command. -/
theorem stepKeepsCountersBounded : Obligations.StepKeepsCountersBounded := by
  intro s t stepped
  have kept : BoundsKept s t := by
    unfold step at stepped
    split at stepped
    · cases stepped
      exact (tick_countsSame s).boundsKept
    · next i rest _ =>
      have taken : BoundsKept s { s with pending := rest } := .of_eq rfl rfl rfl
      exact taken.trans (exec_boundsKept stepped)
  exact ⟨kept.accumulators, kept.faultCounts⟩

end

section
/-! The sense unit settled: the round of conversions (O13), and the filter under a constant code (O14). -/

namespace Sys2Proof.Machine

/-! ## The round of conversions (R20, R25, R33) -/

theorem mayStart_iff (x : Sense) (ch : SenseChannel) :
    x.mayStart ch = true ↔ x.converting = none ∧ x.nextChannel = ch := by
  simp [Sense.mayStart]

theorem execConversionStart_of_turn {ch : SenseChannel} {s : State} (held : s.resetHeld = false)
    (turn : s.sense.mayStart ch = true) : exec (.conversionStart ch) s = .next (startConversion ch s) := by
  simp [exec, execConversionStart, held, turn]

theorem execConversionStart_of_refused {ch : SenseChannel} {s : State}
    (refused : s.resetHeld = true ∨ s.sense.mayStart ch = false) : exec (.conversionStart ch) s = .next s := by
  rcases refused with h | h <;> simp [exec, execConversionStart, h]

/-- R20: the round goes through the thirteen channels and begins again. -/
theorem followingChannel_val (ch : SenseChannel) : (followingChannel ch).val = (ch.val + 1) % 13 := by
  have range := ch.isLt
  unfold followingChannel
  split
  · next h => exact (Nat.mod_eq_of_lt (by omega)).symm
  · next h =>
    have last : ch.val = 12 := by omega
    rw [last]
    rfl

/-! ## The filter (R27) -/

/-- R27: the step of a seeded accumulator at code `c`. -/
def filterStep (c a : Nat) : Nat := a - a / 8 + c

/-- R27: the accumulators that a code `c` leaves alone. -/
def FilterAtRest (c a : Nat) : Prop := 8 * c ≤ a ∧ a ≤ 8 * c + 7

theorem filterStep_of_rest {c a : Nat} (h : FilterAtRest c a) : filterStep c a = a := by
  obtain ⟨low, high⟩ := h
  unfold filterStep
  omega

theorem filterStep_iterate_of_rest {c a : Nat} (h : FilterAtRest c a) (n : Nat) : (filterStep c)^[n] a = a :=
  Function.iterate_fixed (filterStep_of_rest h) n

/-- R27: from below the accumulator climbs, and not past 8 × code. -/
theorem filterStep_of_below {c a : Nat} (h : a < 8 * c) : a < filterStep c a ∧ filterStep c a ≤ 8 * c := by
  unfold filterStep
  omega

/-- R27: from above the accumulator falls, and not past 8 × code. -/
theorem filterStep_of_above {c a : Nat} (h : 8 * c + 7 < a) : filterStep c a < a ∧ 8 * c ≤ filterStep c a := by
  unfold filterStep
  omega

/-- R27: from below the accumulator reaches 8 × code. -/
theorem filter_climbs (c : Nat) (d : Nat) : ∀ a, a + d = 8 * c → ∃ n, (filterStep c)^[n] a = 8 * c := by
  induction d using Nat.strong_induction_on with
  | _ d ih =>
    intro a distance
    by_cases reached : a = 8 * c
    · exact ⟨0, reached⟩
    · obtain ⟨climbs, stays⟩ := filterStep_of_below (c := c) (a := a) (by omega)
      obtain ⟨n, arrives⟩ := ih (8 * c - filterStep c a) (by omega) (filterStep c a) (by omega)
      exact ⟨n + 1, arrives⟩

/-- R27: from above the accumulator comes to rest. -/
theorem filter_falls (c : Nat) (a : Nat) : 8 * c ≤ a → ∃ n, FilterAtRest c ((filterStep c)^[n] a) := by
  induction a using Nat.strong_induction_on with
  | _ a ih =>
    intro above
    by_cases rest : a ≤ 8 * c + 7
    · exact ⟨0, above, rest⟩
    · obtain ⟨falls, stays⟩ := filterStep_of_above (c := c) (a := a) (by omega)
      obtain ⟨n, arrives⟩ := ih (filterStep c a) falls stays
      exact ⟨n + 1, arrives⟩

/-- R27: every accumulator comes to rest. -/
theorem filter_rests (c a : Nat) : ∃ n, FilterAtRest c ((filterStep c)^[n] a) := by
  rcases Nat.le_total a (8 * c) with below | above
  · obtain ⟨n, arrives⟩ := filter_climbs c (8 * c - a) a (by omega)
    exact ⟨n, by rw [arrives]; exact ⟨le_refl _, Nat.le_add_right _ _⟩⟩
  · exact filter_falls c a above

/-- Past the step at which the accumulator comes to rest it stays where it is. -/
theorem filterStep_iterate_stays {c a n m : Nat} (rest : FilterAtRest c ((filterStep c)^[n] a)) (h : n ≤ m) :
    (filterStep c)^[m] a = (filterStep c)^[n] a := by
  obtain ⟨k, rfl⟩ := Nat.exists_eq_add_of_le' h
  rw [Function.iterate_add_apply]
  exact filterStep_iterate_of_rest rest k

/-! ## The record of a channel under a constant code -/

/-- R26, R27: a completion of a seeded channel at the gain in force. -/
theorem complete_acc_of_seeded {r : ChannelRec} (code : BitVec 12) {g : Option Gain} (settled : Bool)
    (seeded : r.seeded = true) (gain : r.gain = g) : (r.complete code g settled).acc = filterStep code.toNat r.acc := by
  simp [ChannelRec.complete, filterStep, seeded, gain]

/-- R27: completions at one gain step the accumulator. -/
theorem complete_iterate {r : ChannelRec} (code : BitVec 12) (settled : Bool) (seeded : r.seeded = true) (n : Nat) :
    ((fun x : ChannelRec => x.complete code r.gain settled)^[n] r).seeded = true ∧
      ((fun x : ChannelRec => x.complete code r.gain settled)^[n] r).gain = r.gain ∧
      ((fun x : ChannelRec => x.complete code r.gain settled)^[n] r).acc = (filterStep code.toNat)^[n] r.acc := by
  induction n with
  | zero => exact ⟨seeded, rfl, rfl⟩
  | succ n ih =>
    obtain ⟨still, gain, acc⟩ := ih
    simp only [Function.iterate_succ_apply']
    exact ⟨rfl, rfl, by rw [complete_acc_of_seeded code settled still gain, acc]⟩

/-- The filtered code of an accumulator within its bound is one of the 4,096 codes. -/
theorem filteredCode_le {r : ChannelRec} (h : r.acc ≤ 32767) : r.filteredCode ≤ 4095 := by
  unfold ChannelRec.filteredCode
  omega

/-- R27: at rest the filtered code is the code. -/
theorem filteredCode_of_rest {r : ChannelRec} {c : Nat} (h : FilterAtRest c r.acc) : r.filteredCode = c := by
  obtain ⟨low, high⟩ := h
  unfold ChannelRec.filteredCode
  omega

theorem complete_iterate_acc_le (code : BitVec 12) (g : Option Gain) (settled : Bool) {r : ChannelRec}
    (bound : r.acc ≤ 32767) (n : Nat) : ((fun x : ChannelRec => x.complete code g settled)^[n] r).acc ≤ 32767 := by
  induction n with
  | zero => exact bound
  | succ n ih =>
    rw [Function.iterate_succ_apply']
    exact complete_acc_le code g settled ih

end Sys2Proof.Machine

open Sys2Proof Sys2Proof.Machine

/-- Settles O13: a start in turn is `startConversion`, any other nothing. -/
theorem conversionStartsAtPendingGain : Obligations.ConversionStartsAtPendingGain := by
  intro ch s
  constructor
  · intro held idle turn
    have started := execConversionStart_of_turn held ((mayStart_iff _ _).2 ⟨idle, turn⟩)
    refine ⟨followingChannel ch, followingChannel_val ch, started.trans ?_⟩
    unfold startConversion ChannelRec.nextGain
    cases (s.sample ch).pendingGain <;> rfl
  · intro refused
    refine execConversionStart_of_refused ?_
    rcases refused with held | busy | other
    · exact .inl held
    · refine .inr (Bool.eq_false_iff.2 fun turn => ?_)
      obtain ⟨idle, -⟩ := (mayStart_iff _ _).1 turn
      simp [idle] at busy
    · refine .inr (Bool.eq_false_iff.2 fun turn => ?_)
      obtain ⟨-, same⟩ := (mayStart_iff _ _).1 turn
      exact other same

/-- Settles O14, by the accumulator alone: it climbs or falls to the accumulators that the code leaves alone. -/
theorem filterReachesAConstantCode : Obligations.FilterReachesAConstantCode := by
  intro r code settled seeded bound step
  have acc : ∀ n, (step^[n] r).acc = (filterStep code.toNat)^[n] r.acc := fun n => by
    obtain ⟨-, -, acc⟩ := complete_iterate code settled seeded n
    exact acc
  refine ⟨complete_acc_of_seeded code settled seeded rfl, filteredCode_le (complete_acc_le code r.gain settled bound),
    complete_iterate_acc_le code r.gain settled bound, ?_, fun below => ?_⟩
  · obtain ⟨n, rest⟩ := filter_rests code.toNat r.acc
    refine ⟨n, fun m later => ?_⟩
    have resting : FilterAtRest code.toNat (step^[m] r).acc := by
      rw [acc, filterStep_iterate_stays rest later]
      exact rest
    exact ⟨filteredCode_of_rest resting, resting.2⟩
  · obtain ⟨n, reached⟩ := filter_climbs code.toNat (8 * code.toNat - r.acc) r.acc (by omega)
    have rest : FilterAtRest code.toNat ((filterStep code.toNat)^[n] r.acc) := by
      rw [reached]
      exact ⟨le_refl _, Nat.le_add_right _ _⟩
    refine ⟨n, fun m later => ?_⟩
    rw [acc, filterStep_iterate_stays rest later, reached]

end

section
/-! A sample completion (O12), the selector's part: what the grading and the evaluation leave, and that no notice of the
engine takes the place of a source's (R1, R8, R16, R177). -/

namespace Sys2Proof.Machine

/-! ## The evaluation depends on the selector and the sense unit (R6 to R9) -/

theorem beginChangeover_congr {s t : State} (x : Source) (sel : t.sel = s.sel) :
    (beginChangeover x t).sel = (beginChangeover x s).sel := by
  unfold beginChangeover
  rw [sel]
  cases s.sel.active with
  | none => simp only [driveActive, sendEvent_sel, State.setChangeover, sel]
  | some a => simp only [driveActive, driveSel, sendEvent_sel, State.setChangeover, State.setSource, State.source, sel]

theorem loseSource_congr {s t : State} (a : Source) (sel : t.sel = s.sel) :
    (loseSource a t).sel = (loseSource a s).sel := by
  simp only [loseSource, postSourceState_sel, sendEvent_sel, State.setActive, driveSel, State.setSource, State.source,
    sel]

/-- R8, R9: equal selectors on equal samples evaluate alike. -/
theorem evaluate_congr {s t : State} (sel : t.sel = s.sel) (sense : t.sense = s.sense)
    (events : t.selEvents = s.selEvents) :
    (evaluate t).sel = (evaluate s).sel ∧ (evaluate t).selEvents = (evaluate s).selEvents := by
  have result : selection t.sel.active t = selection s.sel.active s := by
    rw [sel]
    exact selection_congr _ (by rw [sel]) (fun x => by simp only [State.source, sel]) sense
  rcases evaluate_cases s with ⟨e, why⟩ | ⟨x, idle, chosen, other, e⟩ | ⟨a, idle, lost, active, e⟩
  · have same : evaluate t = t := by
      rcases why with changing | same
      · exact evaluate_of_changeover (by rwa [sel])
      · exact evaluate_of_same (by rw [result, same, sel])
    rw [e, same]
    exact ⟨sel, events⟩
  · have begun : evaluate t = beginChangeover x t :=
      evaluate_of_other (by rw [sel, idle]) (by rw [result, chosen]) (by rwa [sel])
    obtain ⟨-, -, sent⟩ := beginChangeover_sel x s
    obtain ⟨-, -, sent'⟩ := beginChangeover_sel x t
    rw [e, begun, sent, sent', events]
    exact ⟨beginChangeover_congr x sel, rfl⟩
  · have left : evaluate t = loseSource a t :=
      evaluate_of_lost (by rw [sel, idle]) (by rw [result, lost]) (by rw [sel, active])
    obtain ⟨-, -, sent⟩ := loseSource_sel a s
    obtain ⟨-, -, sent'⟩ := loseSource_sel a t
    rw [e, left, sent, sent', events]
    exact ⟨loseSource_congr a sel, rfl⟩

/-- R6, R7: where NONE is selected against one reference, it is against any. -/
theorem selection_none_of_none {s : State} {ref : Option Source} (h : selection ref s = none) (other : Option Source) :
    selection other s = none := by
  unfold selection at h ⊢
  split
  · next mode => rwa [mode] at h
  · next mode =>
    rw [mode] at h
    have unusable := drainSelection_none h
    rcases drainSelection_of_sd_down s.voltage other (unusable .sd) with ⟨sa, -⟩ | ⟨sb, -⟩ | ⟨-, -, none⟩
    · rw [unusable] at sa; cases sa
    · rw [unusable] at sb; cases sb
    · exact none

/-- R8, R9: a second evaluation finds nothing left to do. -/
theorem evaluate_evaluate (s : State) : evaluate (evaluate s) = evaluate s := by
  rcases evaluate_cases s with ⟨e, -⟩ | ⟨x, -, -, -, e⟩ | ⟨a, -, lost, -, e⟩
  · rw [e, e]
  · obtain ⟨changing, -, -⟩ := beginChangeover_sel x s
    rw [e]
    exact evaluate_of_changeover (by rw [changing]; rfl)
  · have frame := loseSource_frame a s
    obtain ⟨-, active, -⟩ := loseSource_sel a s
    have result : selection none (loseSource a s) = none :=
      (selection_congr none frame.settings (fun x => by rw [loseSource_source]) frame.sense).trans
        (selection_none_of_none lost none)
    rw [e]
    exact evaluate_of_same (by rw [active, result])

/-! ## The grading (R1, R8) -/

/-- R5: the state before the evaluation that a grade brings about. -/
def regradeSource (x : Source) (st : SourceState) (s : State) : State :=
  if st = (s.source x).state then s else postSourceState x (enterSourceState x st s)

/-- R1: the grade of a source by the filtered voltage it has. -/
def State.gradeOf (s : State) (x : Source) : SourceState := grade (s.source x).config (s.source x).state (s.voltage x)

theorem selectorSample_eq {x : Source} {s : State} (loaded : s.sel.loaded = true) :
    selectorSample x s =
      if s.sel.settings.mode = .drain ∧ x ≠ .sd then evaluate (changeSource x (s.gradeOf x) s)
      else changeSource x (s.gradeOf x) s := if_pos loaded

/-- R5, R8: a change of grade evaluates, and in DRAIN mode every completion of a plate. -/
theorem selectorSample_evaluates {x : Source} {s : State} (loaded : s.sel.loaded = true)
    (h : s.gradeOf x ≠ (s.source x).state ∨ (s.sel.settings.mode = .drain ∧ x ≠ .sd)) :
    selectorSample x s = evaluate (regradeSource x (s.gradeOf x) s) := by
  rw [selectorSample_eq loaded]
  by_cases same : s.gradeOf x = (s.source x).state
  · rw [changeSource_same same, regradeSource, if_pos same, if_pos (h.resolve_left fun changed => changed same)]
  · rw [changeSource_new same, regradeSource, if_neg same, evaluate_evaluate]
    split <;> rfl

/-- R5, R8: otherwise an equal grade brings nothing about. -/
theorem selectorSample_idle {x : Source} {s : State} (loaded : s.sel.loaded = true)
    (same : s.gradeOf x = (s.source x).state) (quiet : s.sel.settings.mode = .priority ∨ x = .sd) :
    selectorSample x s = s := by
  have skipped : ¬(s.sel.settings.mode = .drain ∧ x ≠ .sd) := by
    rintro ⟨drain, plate⟩
    rcases quiet with priority | body
    · rw [priority] at drain; cases drain
    · exact plate body
  rw [selectorSample_eq loaded, if_neg skipped, changeSource_same same]

theorem regradeSource_source (x : Source) (st : SourceState) (s : State) :
    ((regradeSource x st s).source x).state = st := by
  unfold regradeSource
  split
  · next same => exact same.symm
  · rw [postSourceState_source, enterSourceState_source, if_pos rfl]

/-- R1: after a completion the source has its grade. -/
theorem selectorSample_state {x : Source} {s : State} (loaded : s.sel.loaded = true) :
    ((selectorSample x s).source x).state = s.gradeOf x := by
  have graded : ((changeSource x (s.gradeOf x) s).source x).state = s.gradeOf x := by rw [changeSource_self]
  rw [selectorSample_eq loaded]
  split
  · rw [evaluate_source]
    exact graded
  · exact graded

/-! ## The notice of a source (R16, R177) -/

/-- The notice queue holds a notice of the source with this state and voltage. -/
def Link.announces (l : Link) (x : Source) (st : SourceState) (v : Nat) : Prop :=
  ∃ active flag, Notice.sourceState x st v active flag ∈ l.notices

/-- R177: a queued notice stays, unless one of its kind and subject takes its place. -/
theorem mem_post_of_mem {l : Link} {n m : Notice} (h : m ∈ l.notices) (other : n.sameAs m = false) :
    m ∈ (l.post n).notices := by
  unfold Link.post
  split
  · split
    · exact List.mem_map.2 ⟨m, h, by rw [other]; rfl⟩
    · exact List.mem_append_left _ h
  · exact h

/-- R177: a notice of an enabled kind is queued. -/
theorem mem_post_self {l : Link} {n : Notice} (enabled : l.enables n = true) : n ∈ (l.post n).notices := by
  unfold Link.post
  rw [if_pos enabled]
  split
  · next queued =>
    obtain ⟨m, hm, same⟩ := List.any_eq_true.1 queued
    exact List.mem_map.2 ⟨m, hm, if_pos same⟩
  · exact List.mem_append_right _ (List.mem_singleton_self n)

theorem enables_sourceState {l : Link} (mask : l.mask.getLsbD 3 = true) (x : Source) (st : SourceState) (v : Nat)
    (active : Option Source) (flag : Bool) : l.enables (.sourceState x st v active flag) = true := mask

theorem sameAs_sourceState_ne {x y : Source} (h : x ≠ y) (st st' : SourceState) (v v' : Nat) (a a' : Option Source)
    (f f' : Bool) : (Notice.sourceState x st v a f).sameAs (.sourceState y st' v' a' f') = false := by
  cases x <;> cases y <;> first | exact absurd rfl h | rfl

/-- R16: an evaluation keeps the notice of a source as it stands, or posts a newer one of the same content. -/
theorem evaluate_announces {x : Source} {s : State} (h : s.link.announces x (s.source x).state (s.voltage x)) :
    (evaluate s).link.announces x (s.source x).state (s.voltage x) := by
  rcases evaluate_cases s with ⟨e, -⟩ | ⟨y, -, -, -, e⟩ | ⟨a, idle, -, -, e⟩ <;> rw [e]
  · exact h
  · rwa [beginChangeover_only]
  · rw [loseSource_link idle]
    by_cases own : a = x
    · subst own
      obtain ⟨active, flag, queued⟩ := h
      by_cases enabled : s.link.enables (.sourceState a (s.source a).state (s.voltage a) none false) = true
      · exact ⟨none, false, mem_post_self enabled⟩
      · refine ⟨active, flag, ?_⟩
        rwa [Link.post, if_neg enabled]
    · obtain ⟨active, flag, queued⟩ := h
      exact ⟨active, flag, mem_post_of_mem queued (sameAs_sourceState_ne own ..)⟩

/-- R5, R16: a change of grade is announced with the grade and the voltage. -/
theorem selectorSample_announces {x : Source} {s : State} (loaded : s.sel.loaded = true)
    (changed : s.gradeOf x ≠ (s.source x).state) (mask : s.link.mask.getLsbD 3 = true) :
    (selectorSample x s).link.announces x (s.gradeOf x) (s.voltage x) := by
  have state := regradeSource_source x (s.gradeOf x) s
  have posted : regradeSource x (s.gradeOf x) s = postSourceState x (enterSourceState x (s.gradeOf x) s) :=
    if_neg changed
  have voltage : (regradeSource x (s.gradeOf x) s).voltage x = s.voltage x := by rw [posted]; rfl
  have announced : (regradeSource x (s.gradeOf x) s).link.announces x
      ((regradeSource x (s.gradeOf x) s).source x).state ((regradeSource x (s.gradeOf x) s).voltage x) := by
    rw [posted]
    exact ⟨_, _, mem_post_self (enables_sourceState mask ..)⟩
  rw [selectorSample_evaluates loaded (.inl changed)]
  have kept := evaluate_announces announced
  rwa [state, voltage] at kept

/-! ## The engine's notices are of other kinds (R64, R98, R116) -/

/-- Every notice of a source that is queued stays queued. -/
def SourceNoticesStay (s t : State) : Prop :=
  ∀ x st v, s.link.announces x st v → t.link.announces x st v

theorem SourceNoticesStay.trans {s t u : State} (h : SourceNoticesStay s t) (k : SourceNoticesStay t u) :
    SourceNoticesStay s u := fun x st v announced => k x st v (h x st v announced)

theorem SourceNoticesStay.of_notices {s t : State} (h : t.link.notices = s.link.notices) : SourceNoticesStay s t :=
  fun x st v announced => by simpa only [Link.announces, h] using announced

theorem SourceNoticesStay.refl (s : State) : SourceNoticesStay s s := .of_notices rfl

theorem LineFrame.sourceNoticesStay {s t : State} (h : LineFrame s t) : SourceNoticesStay s t := .of_notices h.notices

/-- A notice of another kind. -/
theorem postNotice_sourceNoticesStay {n : Notice} (kind : n.kind ≠ 4) (s : State) :
    SourceNoticesStay s (postNotice n s) := by
  rintro x st v ⟨active, flag, queued⟩
  have other : n.sameAs (.sourceState x st v active flag) = false := by
    have differs : (n.kind == (Notice.sourceState x st v active flag).kind) = false := beq_false_of_ne kind
    rw [Notice.sameAs, differs, Bool.false_and]
  exact ⟨active, flag, mem_post_of_mem queued other⟩

theorem switchOn_link (p : Port) (s : State) : (switchOn p s).link = s.link := by unfold switchOn; split <;> rfl

theorem switchOff_link (p : Port) (s : State) : (switchOff p s).link = s.link := by unfold switchOff; split <;> rfl

/-- Shedding and admission post nothing. -/
theorem link_stable (l : Link) : PassStable (fun s => s.link = l) where
  drop {_ p _} _ h := (switchOff_link p _).trans h
  enqueue _ h := h
  grace _ h := h
  modeReason _ h := h
  hold h := h
  mark h := h
  admitPort {p _} _ h := (switchOn_link p _).trans h

theorem cancelWalk_link (l : List Port) (s : State) : (cancelWalk l s).link = s.link := by
  induction l generalizing s with
  | nil => rfl
  | cons p l ih =>
    unfold cancelWalk
    split
    · split
      · rw [ih]
        exact forEach_keeps (I := fun u => u.link = s.link) (f := cancelPort) (fun q u hu => hu) _ rfl
      · rfl
    · exact ih s

theorem recompute_link (s : State) : (recompute s).link = s.link := by
  have checked : (shedCheck 8 (storeEnvelope s)).link = s.link := (link_stable s.link).shedCheck 8 rfl
  unfold recompute afterRecompute
  dsimp only
  split
  · exact (cancelWalk_link _ _).trans checked
  · exact checked

theorem resolveOverdraw_link (p : Port) (power : Nat) (s : State) : (resolveOverdraw p power s).link = s.link := by
  unfold resolveOverdraw
  dsimp only
  split
  · rfl
  · split
    · exact (link_stable s.link).shedCheck 8 rfl
    · exact (link_stable s.link).hold ((link_stable s.link).shed .overdraw p rfl)

theorem overdrawSample_link (p : Port) (power : Nat) (s : State) : (overdrawSample p power s).link = s.link := by
  unfold overdrawSample
  split
  · split
    · split
      · exact resolveOverdraw_link p power s
      · rfl
    · rfl
  · rfl

theorem announceChanges_sourceNoticesStay (s0 s : State) : SourceNoticesStay s (announceChanges s0 s) := by
  refine forEach_rel (R := SourceNoticesStay) .refl .trans (fun p u => ?_) _ s
  split
  · exact (postNotice_sourceNoticesStay (by simp [portStateNotice, Notice.kind]) u).trans
      (queueStateRecord_frame p _).sourceNoticesStay
  · exact .refl u

theorem turnRailsOff_notices (s : State) : (turnRailsOff s).link.notices = s.link.notices := by
  have off := (linesOff_frame s).notices
  unfold turnRailsOff
  generalize forEach allPorts turnOffLine s = u at off ⊢
  exact off

theorem windDown_sourceNoticesStay (s : State) : SourceNoticesStay s (windDown s) := by
  have off : SourceNoticesStay s (turnRailsOff s) := .of_notices (turnRailsOff_notices s)
  unfold windDown
  generalize turnRailsOff s = u at off ⊢
  split
  · exact off.trans (postNotice_sourceNoticesStay (by simp [Notice.kind]) u)
  · exact .refl s

/-- The end of a handling keeps the notices of the sources. -/
theorem finish_sourceNoticesStay (s0 s : State) : SourceNoticesStay s (finish s0 s) := by
  have passed : SourceNoticesStay s (runOpportunity s) :=
    .of_notices (by rw [(link_stable s.link).runOpportunity (s := s) rfl])
  have overcommit : SourceNoticesStay (runOpportunity s) (updateOvercommit (runOpportunity s)) := by
    unfold updateOvercommit
    dsimp only
    split
    · exact .refl _
    · exact postNotice_sourceNoticesStay (by simp [envelopeNotice, Notice.kind]) _
  exact ((passed.trans overcommit).trans (announceChanges_sourceNoticesStay s0 _)).trans (windDown_sourceNoticesStay _)

theorem engineSample_sourceNoticesStay (ch : SenseChannel) (s : State) : SourceNoticesStay s (engineSample ch s) := by
  unfold engineSample
  split
  · split
    · exact (SourceNoticesStay.of_notices (by rw [overdrawSample_link])).trans (finish_sourceNoticesStay s _)
    · exact .refl s
  · split
    · exact (SourceNoticesStay.of_notices (by rw [recompute_link])).trans (finish_sourceNoticesStay s _)
    · exact .refl s

end Sys2Proof.Machine
end

section
/-! A sample completion settled (O12): what its consumers leave of the selector, in whichever order they take it (R20,
R30). -/

namespace Sys2Proof.Machine

/-! ## The engine's part leaves the selector (R20) -/

theorem engineSample_frame (ch : SenseChannel) (s : State) : HandlingFrame s (engineSample ch s) := by
  unfold engineSample
  split
  · split
    · exact (overdrawSample_frame _ _ s).toHandlingFrame.trans (finish_frame s _).toHandlingFrame
    · exact .refl s
  · split
    · exact (recompute_frame s).toHandlingFrame.trans (finish_frame s _).toHandlingFrame
    · exact .refl s

/-- R20: a completion, taken by both consumers, leaves the mode, the pool and the store. -/
theorem takeSample_rest (ch : SenseChannel) (selectorFirst : Bool) (s : State) :
    (takeSample ch selectorFirst s).mode = s.mode ∧ (takeSample ch selectorFirst s).pool = s.pool ∧
      (takeSample ch selectorFirst s).store = s.store := by
  unfold takeSample
  split
  · have selector := selectorPart_frame ch s
    have engine := engineSample_frame ch (selectorPart ch s)
    exact ⟨engine.mode.trans selector.mode, engine.pool.trans selector.pool, engine.store.trans selector.store⟩
  · have engine := engineSample_frame ch s
    have selector := selectorPart_frame ch (engineSample ch s)
    exact ⟨selector.mode.trans engine.mode, selector.pool.trans engine.pool, selector.store.trans engine.store⟩

/-- R30: a completion reaches a loaded selector alone, and on a source's channel. -/
theorem selectorPart_of_idle {ch : SenseChannel} {s : State}
    (h : (∀ x ∈ allSources, ch ≠ sourceChannel x) ∨ s.sel.loaded = false) : selectorPart ch s = s := by
  unfold selectorPart
  rcases h with noSource | unloaded
  · rw [channelSource_of_no_source noSource]
  · split
    · rfl
    · exact if_neg (by simp [unloaded])

theorem takeSample_of_idle {ch : SenseChannel} {s : State} (selectorFirst : Bool)
    (h : (∀ x ∈ allSources, ch ≠ sourceChannel x) ∨ s.sel.loaded = false) :
    (takeSample ch selectorFirst s).sel = s.sel ∧ (takeSample ch selectorFirst s).selEvents = s.selEvents := by
  have engine := engineSample_frame ch s
  have taken : takeSample ch selectorFirst s = engineSample ch s := by
    unfold takeSample
    split
    · rw [selectorPart_of_idle h]
    · exact selectorPart_of_idle (by rwa [engine.sel])
  rw [taken]
  exact ⟨engine.sel, engine.selEvents⟩

/-- R20, R30: whichever consumer is first, the selector grades the source in a state with the selector, the events, the
samples and the mask of the completion, and the engine leaves what it does. -/
theorem takeSample_of_source (x : Source) (selectorFirst : Bool) (s : State) :
    ∃ w, w.sel = s.sel ∧ w.selEvents = s.selEvents ∧ w.sense = s.sense ∧ w.link.mask = s.link.mask ∧
      (takeSample (sourceChannel x) selectorFirst s).sel = (selectorSample x w).sel ∧
      (takeSample (sourceChannel x) selectorFirst s).selEvents = (selectorSample x w).selEvents ∧
      SourceNoticesStay (selectorSample x w) (takeSample (sourceChannel x) selectorFirst s) := by
  have own : ∀ u, selectorPart (sourceChannel x) u = selectorSample x u := fun u => by
    rw [selectorPart, channelSource_sourceChannel]
  unfold takeSample
  split
  · have engine := engineSample_frame (sourceChannel x) (selectorSample x s)
    rw [own]
    exact ⟨s, rfl, rfl, rfl, rfl, engine.sel, engine.selEvents, engineSample_sourceNoticesStay _ _⟩
  · have engine := engineSample_frame (sourceChannel x) s
    rw [own]
    exact ⟨engineSample (sourceChannel x) s, engine.sel, engine.selEvents, engine.sense, by rw [engine.link], rfl, rfl,
      .refl _⟩

/-! ## The graded source -/

/-- R1, R5: the selector before the evaluation, written out. -/
theorem regradeSource_sel (x : Source) (st : SourceState) (s : State) :
    (regradeSource x st s).sel =
      if st = (s.source x).state then s.sel
      else
        s.sel.set x
          { s.source x with
            state := st
            qualify := if st = .qualifying then some (s.sel.settings.qualifyTime * 1000) else none } := by
  unfold regradeSource
  split <;> rfl

theorem regradeSource_rest (x : Source) (st : SourceState) (s : State) :
    (regradeSource x st s).sense = s.sense ∧ (regradeSource x st s).selEvents = s.selEvents := by
  unfold regradeSource
  split <;> exact ⟨rfl, rfl⟩

end Sys2Proof.Machine

open Sys2Proof Sys2Proof.Machine

/-- Settles O12: the record by the sense unit's part, the grade and the evaluation by the selector's. -/
theorem sampleUpdatesItsChannelAndSource : Obligations.SampleUpdatesItsChannelAndSource := by
  intro ch code selectorFirst s
  refine ⟨fun none => execSampleCompletion_of_none none code selectorFirst, fun g converting => ?_⟩
  set r := completeSample ch code g s with hr
  set t := takeSample ch selectorFirst r with ht
  obtain ⟨ended, next, only⟩ := completeSample_rest ch code g s
  have same : CountsSame r t := takeSample_countsSame ch selectorFirst r
  have sample : ∀ c, t.sample c = r.sample c := fun c => by simp only [State.sample, same.sense]
  have sel : r.sel = s.sel := by rw [hr, only]
  have events : r.selEvents = s.selEvents := by rw [hr, only]
  obtain ⟨mode, pool, store⟩ := takeSample_rest ch selectorFirst r
  refine ⟨t, execSampleCompletion_of_conversion converting code selectorFirst, by rw [same.sense, ended],
    by rw [same.sense, next], ?_, fun kept => ?_, fun other => ⟨fun p own => ?_, fun noPort => ?_⟩, fun c other => ?_,
    mode.trans (by rw [hr, only]), pool.trans (by rw [hr, only]), store.trans (by rw [hr, only]), fun p => ?_,
    fun idle => ?_, fun x _ own loaded => ?_⟩
  · rw [sample, hr, completeSample_self]
    simp [ChannelRec.complete, State.changeoverFlag]
  · rw [sample, hr, completeSample_pendingGain_kept code kept]
  · subst own
    rw [sample, hr, completeSample_pendingGain_chosen code other, gainFor_table]
  · rw [sample, hr, completeSample_pendingGain_cleared code other noPort]
  · rw [sample, hr, completeSample_other other]
  · rw [same.config, hr, only]
    rfl
  · obtain ⟨selKept, eventsKept⟩ := takeSample_of_idle selectorFirst (s := r) (by rwa [sel])
    exact ⟨selKept.trans sel, eventsKept.trans events⟩
  · subst own
    obtain ⟨w, wsel, wevents, wsense, wmask, tsel, tevents, stay⟩ := takeSample_of_source x selectorFirst r
    intro v old soft hard graded regraded u
    have wsource : w.source x = old := by simp only [State.source, wsel, sel, old]
    have wloaded : w.sel.loaded = true := by rw [wsel, sel, loaded]
    have wsettings : w.sel.settings = s.sel.settings := by rw [wsel, sel]
    have wvoltage : w.voltage x = v := by simp only [v, State.voltage, State.sample, wsense, same.sense]
    have grades : w.gradeOf x = graded := by
      rw [State.gradeOf, wsource, wvoltage]
      simp only [graded, Machine.grade]
      cases old.state <;> rfl
    refine ⟨?_, fun changed mask => ?_, fun why => ?_, fun equal quiet => ?_⟩
    · have state := selectorSample_state (x := x) wloaded
      rw [grades] at state
      rw [State.source, tsel]
      exact state
    · have announced := selectorSample_announces (x := x) wloaded (by rwa [grades, wsource])
        (by rw [wmask, hr, only]; exact mask)
      rw [grades, wvoltage] at announced
      exact stay x graded v announced
    · have evaluates := selectorSample_evaluates (x := x) wloaded (by rwa [grades, wsource, wsettings])
      obtain ⟨rsense, revents⟩ := regradeSource_rest x graded w
      rw [grades] at evaluates
      rw [tsel, tevents, evaluates]
      refine evaluate_congr ?_ (rsense.trans (wsense.trans same.sense.symm)) (revents.trans (wevents.trans events))
      rw [regradeSource_sel, wsource, wsel, sel]
    · have idle := selectorSample_idle (x := x) wloaded (by rw [grades, wsource, equal]) (by rwa [wsettings])
      rw [tsel, tevents, idle]
      exact ⟨wsel.trans sel, wevents.trans events⟩

end

section
/-! Chapter 3, the rules of the switches: what a trip does to a record, and what each switch event does by state (R36, R39
to R50). -/

namespace Sys2Proof.Machine

/-! ## Switch states by their code (Table 3-2) -/

theorem SwitchState.code_eq_ramping {x : SwitchState} : x.code = 1 ↔ ∃ r e, x = .ramping r e := by
  cases x <;> simp [SwitchState.code]

theorem SwitchState.code_eq_closed {x : SwitchState} : x.code = 3 ↔ ∃ n, x = .closed n := by
  cases x <;> simp [SwitchState.code]

theorem SwitchState.code_eq_opened {x : SwitchState} : x.code = 0 ↔ x = .opened := by
  cases x <;> simp [SwitchState.code]

/-- Table 3-3: the states in which the GATE is off. Neither power good nor a hard trip is anything to them. -/
abbrev SwitchState.IsOff (x : SwitchState) : Prop :=
  x = .opened ∨ (∃ n len, x = .cooling (.wait n) len) ∨ ∃ len, x = .cooling .due len

/-! ## Trips (R46, R48, R50) -/

/-- R50: the record whose counters a retry trip goes by: a re-close timeout leaves the trip count. -/
def SwitchRec.countIf (counted : Bool) (w : SwitchRec) : SwitchRec := if counted then w.countTrip else w

@[simp] theorem SwitchRec.countIf_retry (counted : Bool) (w : SwitchRec) : (w.countIf counted).retry = w.retry := by
  cases counted <;> rfl

/-- R46, R48: below the retry limit the switch cools. -/
theorem retryTrip_of_below {p : Port} {s : State} (below : (s.switch p).retry + 1 < (s.cfg p).retryLimit) (k : FaultKind)
    (len : CoolLength) (counted : Bool) :
    retryTrip p k len counted s =
      switchReports p
        { (s.switch p).countIf counted with
          state := .cooling (.wait len.micros) len, armed := false, filter := none, powerGood := false
          retry := (s.switch p).retry + 1, lastFault := k } (.trip k .cooling) s := by
  have risen : (if ((s.switch p).countIf counted).retry < (s.cfg p).retryLimit
      then ((s.switch p).countIf counted).retry + 1 else ((s.switch p).countIf counted).retry) =
        (s.switch p).retry + 1 := by
    rw [SwitchRec.countIf_retry, if_pos (by omega)]
  unfold SwitchRec.countIf at risen
  simp only [retryTrip, risen, if_pos below]
  rfl

/-- R46, R48: at the retry limit the switch opens for good, and the counter stands at the limit or where it stood. -/
theorem retryTrip_of_limit {p : Port} {s : State} (limit : (s.cfg p).retryLimit ≤ (s.switch p).retry + 1) (k : FaultKind)
    (len : CoolLength) (counted : Bool) :
    retryTrip p k len counted s =
      switchReports p
        { (s.switch p).countIf counted with
          state := .opened, armed := false, filter := none, powerGood := false
          retry := if (s.switch p).retry < (s.cfg p).retryLimit then (s.switch p).retry + 1 else (s.switch p).retry
          lastFault := .retryLimit } .retryLimit s := by
  have atLimit : ¬(if (s.switch p).retry < (s.cfg p).retryLimit then (s.switch p).retry + 1 else (s.switch p).retry) <
      (s.cfg p).retryLimit := by
    split <;> omega
  have same : (if counted then (s.switch p).countTrip else s.switch p).retry = (s.switch p).retry :=
    SwitchRec.countIf_retry counted (s.switch p)
  simp only [retryTrip, same, if_neg atLimit]
  rfl

/-! ## Power good and the timers, by state -/

theorem execPowerGood_of_ramping {p : Port} {s : State} {r : RampTime} {e : Nat}
    (state : (s.switch p).state = .ramping r e) : exec (.powerGood p) s = .next (takePowerGood p s) := by
  simp only [exec, execPowerGood, state]

theorem execPowerGood_of_paused {p : Port} {s : State} {r : RampTime} {e : Nat}
    (state : (s.switch p).state = .paused r e) :
    exec (.powerGood p) s = .next (s.setSwitch p { s.switch p with powerGood := true }) := by
  simp only [exec, execPowerGood, state]

theorem execPowerGood_of_reclose {p : Port} {s : State} {n : Nat} {len : CoolLength}
    (state : (s.switch p).state = .cooling (.reclose n) len) :
    exec (.powerGood p) s = .next (s.setSwitch p (s.switch p).close) := by
  simp only [exec, execPowerGood, state]

theorem execPowerGood_of_closed {p : Port} {s : State} {n : Nat} (state : (s.switch p).state = .closed n) :
    exec (.powerGood p) s = .next s := by
  simp only [exec, execPowerGood, state]

theorem execPowerGood_of_off {p : Port} {s : State} (off : (s.switch p).state.IsOff) : exec (.powerGood p) s = .next s := by
  rcases off with state | ⟨n, len, state⟩ | ⟨len, state⟩ <;> simp only [exec, execPowerGood, state]

theorem execStartTimeout_of_ramping {p : Port} {s : State} {r : RampTime} {e : Nat}
    (state : (s.switch p).state = .ramping r e) :
    exec (.startTimeout p) s =
      .next
        (if r.timeout ≤ e then
          faultReport p { (s.switch p).gateOff .opened with lastFault := .startFail } (.startFail .timeout) s
        else s) := by
  simp only [exec, execStartTimeout, state]

theorem execStartTimeout_of_other {p : Port} {s : State} (other : (s.switch p).state.code ≠ 1) :
    exec (.startTimeout p) s = .next s := by
  refine congrArg Host.Outcome.next ?_
  split
  · next r e state => exact absurd (SwitchState.code_eq_ramping.2 ⟨r, e, state⟩) other
  all_goals rfl

theorem execCoolingExpiry_of_due {p : Port} {s : State} {len : CoolLength}
    (state : (s.switch p).state = .cooling (.wait 0) len) :
    exec (.coolingExpiry p) s =
      .next (s.setSwitch p { s.switch p with state := .cooling (phaseAfterWait s.changeoverFlag) len }) := by
  simp only [exec, execCoolingExpiry, state]

theorem execCoolingExpiry_of_other {p : Port} {s : State}
    (other : ∀ len, (s.switch p).state ≠ .cooling (.wait 0) len) : exec (.coolingExpiry p) s = .next s := by
  refine congrArg Host.Outcome.next ?_
  split
  · next len state => exact absurd state (other len)
  all_goals rfl

theorem execRecloseTimeout_of_due {p : Port} {s : State} {len : CoolLength}
    (state : (s.switch p).state = .cooling (.reclose 0) len) :
    exec (.recloseTimeout p) s = .next (retryTrip p .trip len false s) := by
  simp only [exec, execRecloseTimeout, state]

theorem execRecloseTimeout_of_other {p : Port} {s : State}
    (other : ∀ len, (s.switch p).state ≠ .cooling (.reclose 0) len) : exec (.recloseTimeout p) s = .next s := by
  refine congrArg Host.Outcome.next ?_
  split
  · next len state => exact absurd state (other len)
  all_goals rfl

theorem execCleanRun_of_closed {p : Port} {s : State} {n : Nat} (state : (s.switch p).state = .closed n) :
    exec (.cleanRun p) s =
      .next (if Config.cleanRunTime ≤ n then s.setSwitch p { s.switch p with retry := 0 } else s) := by
  simp only [exec, execCleanRun, state]

theorem execCleanRun_of_other {p : Port} {s : State} (other : (s.switch p).state.code ≠ 3) :
    exec (.cleanRun p) s = .next s := by
  refine congrArg Host.Outcome.next ?_
  split
  · next n state => exact absurd (SwitchState.code_eq_closed.2 ⟨n, state⟩) other
  all_goals rfl

/-! ## The trips, by state and trip mode -/

theorem execHardTrip_of_start {p : Port} {s : State} {r : RampTime} {e : Nat}
    (state : (s.switch p).state = .ramping r e ∨ (s.switch p).state = .paused r e) :
    exec (.hardTrip p) s = .next (hardTripStart p s) := by
  rcases state with state | state <;> simp only [exec, execHardTrip, state]

theorem execHardTrip_of_closed {p : Port} {s : State} {n : Nat} (state : (s.switch p).state = .closed n) :
    exec (.hardTrip p) s = .next (hardTripClosed p s) := by
  simp only [exec, execHardTrip, state]

theorem execHardTrip_of_reclose {p : Port} {s : State} {n : Nat} {len : CoolLength}
    (state : (s.switch p).state = .cooling (.reclose n) len) :
    exec (.hardTrip p) s = .next (retryTrip p .hardTrip len true s) := by
  simp only [exec, execHardTrip, state]

theorem execHardTrip_of_off {p : Port} {s : State} (off : (s.switch p).state.IsOff) : exec (.hardTrip p) s = .next s := by
  rcases off with state | ⟨n, len, state⟩ | ⟨len, state⟩ <;> simp only [exec, execHardTrip, state]

/-- R44 to R46: a trip mode that retries, with its cooling length. -/
def TripMode.retries : TripMode → Option CoolLength
  | .report => none
  | .latch => none
  | .retryFast => some .ms5
  | .retrySlow => some .ms100

theorem TripMode.retries_isSome {m : TripMode} (h : m = .retryFast ∨ m = .retrySlow) : ∃ len, m.retries = some len := by
  rcases h with rfl | rfl <;> exact ⟨_, rfl⟩

theorem hardTripClosed_of_retries {p : Port} {s : State} {len : CoolLength}
    (mode : (s.cfg p).tripMode.retries = some len) : hardTripClosed p s = retryTrip p .hardTrip len true s := by
  unfold hardTripClosed
  cases h : (s.cfg p).tripMode <;> rw [h] at mode <;> cases mode <;> rfl

theorem hardTripClosed_of_latches {p : Port} {s : State}
    (mode : (s.cfg p).tripMode = .report ∨ (s.cfg p).tripMode = .latch) :
    hardTripClosed p s = latchTrip p .hardTrip s := by
  unfold hardTripClosed
  rcases mode with h | h <;> rw [h]

theorem filteredTripClosed_of_retries {p : Port} {s : State} {len : CoolLength}
    (mode : (s.cfg p).tripMode.retries = some len) : filteredTripClosed p s = retryTrip p .trip len true s := by
  unfold filteredTripClosed
  cases h : (s.cfg p).tripMode <;> rw [h] at mode <;> cases mode <;> rfl

theorem filteredTripClosed_of_latch {p : Port} {s : State} (mode : (s.cfg p).tripMode = .latch) :
    filteredTripClosed p s = latchTrip p .trip s := by
  simp only [filteredTripClosed, mode]

theorem filteredTripClosed_of_report {p : Port} {s : State} (mode : (s.cfg p).tripMode = .report) :
    filteredTripClosed p s = reportTrip p s := by
  simp only [filteredTripClosed, mode]

/-- R42: a count has reached the width exactly in CLOSED, where it runs and is not below it. -/
theorem widthReached_iff {c : PortConfig} {w : SwitchRec} :
    w.widthReached c = true ↔ w.state.code = 3 ∧ ∃ e ∈ w.filter, c.tripFilter.micros ≤ e := by
  rw [SwitchState.code_eq_closed]
  unfold SwitchRec.widthReached
  split <;> simp_all

theorem execFilteredTrip_of_due {p : Port} {s : State} {n e : Nat} (state : (s.switch p).state = .closed n)
    (armed : (s.switch p).armed = true) (count : (s.switch p).filter = some e)
    (due : (s.cfg p).tripFilter.micros ≤ e) : exec (.filteredTrip p) s = .next (filteredTripClosed p s) := by
  have reached : (s.switch p).widthReached (s.cfg p) = true :=
    widthReached_iff.2 ⟨SwitchState.code_eq_closed.2 ⟨n, state⟩, e, count, due⟩
  simp only [exec, execFilteredTrip, armed, reached, Bool.and_self, if_true]

theorem execFilteredTrip_of_not_due {p : Port} {s : State}
    (idle : (s.switch p).state.code ≠ 3 ∨ (s.switch p).armed = false ∨
      ∀ e ∈ (s.switch p).filter, e < (s.cfg p).tripFilter.micros) : exec (.filteredTrip p) s = .next s := by
  refine congrArg Host.Outcome.next (if_neg fun fires => ?_)
  obtain ⟨armed, reached⟩ := Bool.and_eq_true_iff.1 fires
  obtain ⟨closed, e, count, due⟩ := widthReached_iff.1 reached
  rcases idle with other | off | short
  · exact other closed
  · rw [armed] at off; cases off
  · exact absurd due (Nat.not_le.2 (short e count))

end Sys2Proof.Machine

open Sys2Proof Sys2Proof.Machine

/-- Settles O15, by the state of the switch. -/
theorem powerGoodClosesTheSwitch : Obligations.PowerGoodClosesTheSwitch := by
  intro p s
  refine ⟨fun r e => execPowerGood_of_ramping, fun r e => execPowerGood_of_paused, fun n len => execPowerGood_of_reclose,
    fun idle => ?_⟩
  rcases idle with opened | closed | cools
  · exact execPowerGood_of_off (.inl (SwitchState.code_eq_opened.1 opened))
  · obtain ⟨n, state⟩ := SwitchState.code_eq_closed.1 closed
    exact execPowerGood_of_closed state
  · exact execPowerGood_of_off (.inr cools)

/-- Settles O16, timer by timer. -/
theorem switchTimersRunOut : Obligations.SwitchTimersRunOut := by
  intro p s
  refine ⟨fun r e state => ?_, execStartTimeout_of_other, fun len state => ?_, fun len state => ?_, fun n state => ?_,
    execCleanRun_of_other, execCoolingExpiry_of_other, execRecloseTimeout_of_other⟩
  · rw [execStartTimeout_of_ramping state]
    exact ⟨fun ended => congrArg _ (if_pos ended), fun running => congrArg _ (if_neg (Nat.not_le.2 running))⟩
  · rw [execCoolingExpiry_of_due state, phaseAfterWait]
    rfl
  · rw [execRecloseTimeout_of_due state]
    exact ⟨fun below => congrArg _ (retryTrip_of_below below .trip len false),
      fun limit => congrArg _ (retryTrip_of_limit limit .trip len false)⟩
  · rw [execCleanRun_of_closed state]
    exact ⟨fun ended => congrArg _ (if_pos ended), fun running => congrArg _ (if_neg (Nat.not_le.2 running))⟩

/-- Settles O17, by the state of the switch and the trip mode. -/
theorem tripsFollowTheTripMode : Obligations.TripsFollowTheTripMode := by
  intro p s w count off cool limit opens
  have cools : ∀ (k : FaultKind) (len : CoolLength), w.retry + 1 < (s.cfg p).retryLimit →
      retryTrip p k len true s = cool len.micros len k := fun k len below => retryTrip_of_below below k len true
  have stops : ∀ (k : FaultKind) (len : CoolLength), (s.cfg p).retryLimit ≤ w.retry + 1 →
      retryTrip p k len true s = limit := fun k len reached => retryTrip_of_limit reached k len true
  refine ⟨fun r e state => ?_, fun n state => ?_, fun n e state armed filter due => ?_, execFilteredTrip_of_not_due,
    fun n len state => ?_, execHardTrip_of_off⟩
  · rw [execHardTrip_of_start state]
    rfl
  · rw [execHardTrip_of_closed state]
    refine ⟨fun mode => congrArg _ (hardTripClosed_of_latches mode), fun below => ⟨fun mode => ?_, fun mode => ?_⟩,
      fun reached mode => ?_⟩
    · rw [hardTripClosed_of_retries (congrArg TripMode.retries mode), cools _ _ below]
      rfl
    · rw [hardTripClosed_of_retries (congrArg TripMode.retries mode), cools _ _ below]
      rfl
    · obtain ⟨len, retries⟩ := TripMode.retries_isSome mode
      rw [hardTripClosed_of_retries retries, stops _ _ reached]
  · rw [execFilteredTrip_of_due state armed filter due]
    refine ⟨fun mode => congrArg _ (filteredTripClosed_of_report mode),
      fun mode => congrArg _ (filteredTripClosed_of_latch mode), fun below => ⟨fun mode => ?_, fun mode => ?_⟩,
      fun reached mode => ?_⟩
    · rw [filteredTripClosed_of_retries (congrArg TripMode.retries mode), cools _ _ below]
      rfl
    · rw [filteredTripClosed_of_retries (congrArg TripMode.retries mode), cools _ _ below]
      rfl
    · obtain ⟨len, retries⟩ := TripMode.retries_isSome mode
      rw [filteredTripClosed_of_retries retries, stops _ _ reached]
  · rw [execHardTrip_of_reclose state]
    exact ⟨fun below => congrArg _ (cools _ _ below), fun reached => congrArg _ (stops _ _ reached)⟩

/-- Settles O18: the filter at an assertion, the arming at a release. -/
theorem tripComparatorDrivesTheFilter : Obligations.TripComparatorDrivesTheFilter := by
  intro p s
  constructor
  · have counts : ((s.switch p).armed && !(s.switch p).tripLevel) = true ↔
        (s.switch p).armed = true ∧ (s.switch p).tripLevel = false := by simp
    simp only [exec, execTripComparatorAsserts, counts]
    rfl
  · cases state : (s.switch p).state <;> simp [exec, execTripComparatorReleases, state, SwitchState.code, State.setSwitch]

end

section
/-! PORT_RELEASE and PORT_CLEAR (R54, R72, R73, R106): what a release leaves of its port and of the children it had, what a
clear leaves of its port, and what the end of a handling keeps of both (O29). -/

namespace Sys2Proof.Machine

/-! ## The lists of the engine (R60 to R62) -/

@[simp] theorem mem_without {p q : Port} {l : List Port} : q ∈ without p l ↔ q ∈ l ∧ q ≠ p := by simp [without]

theorem mem_insertBefore {key : Port → Nat} {p q : Port} {l : List Port} :
    q ∈ insertBefore key p l ↔ q = p ∨ q ∈ l := by
  have parts : q ∈ l ↔
      q ∈ l.takeWhile (fun x => key x < key p) ∨ q ∈ l.dropWhile (fun x => key x < key p) := by
    rw [← List.mem_append, List.takeWhile_append_dropWhile]
  rw [parts, insertBefore, List.mem_append, List.mem_cons]
  tauto

theorem dropToShed_engine (why : ShedReason) (p : Port) (s : State) :
    (dropToShed why p s).engine = { s.engine.leaveGranted p with opportunity := true } := by
  rw [dropToShed, opportunity, State.mapEngine_engine, (switchOff_frame p _).engine]
  rfl

/-- R76: an admission moves its port from the queue to the end of the granted list. -/
theorem admitPort_lists (p : Port) (s : State) :
    (admitPort p s).engine.queue = without p s.engine.queue ∧ (admitPort p s).engine.granted = s.engine.granted ++ [p] := by
  rw [admitPort, (switchOn_frame p _).engine]
  exact ⟨rfl, rfl⟩

/-- R98: the overcommit mark is no part of the lists. -/
theorem updateOvercommit_lists (s : State) :
    (updateOvercommit s).engine.queue = s.engine.queue ∧ (updateOvercommit s).engine.granted = s.engine.granted := by
  unfold updateOvercommit
  dsimp only
  split <;> exact ⟨rfl, rfl⟩

/-! ## A loop that reaches one element -/

/-- What the turn of `x` makes of a loop's invariant holds after the loop, where the later turns keep it. -/
theorem forEach_reaches {α : Type} {I J : State → Prop} {f : α → State → State} {x : α} {l : List α}
    (before : ∀ y s, I s → I (f y s)) (turn : ∀ s, I s → J (f x s)) (after : ∀ y s, J s → J (f y s)) (mem : x ∈ l) :
    ∀ {s : State}, I s → J (forEach l f s) := by
  induction l with
  | nil => cases mem
  | cons y l ih =>
    intro s hs
    rcases List.mem_cons.1 mem with rfl | later
    · exact forEach_keeps after l (turn s hs)
    · exact ih later (before y s hs)

/-! ## An admission pass that does not meet a port (R75) -/

/-- A property that shedding keeps, and the admission of every port of the walk, is kept by the walk. -/
theorem ShedStable.passWalk_of_mem {I : State → Prop} (h : ShedStable I) {l : List Port}
    (admits : ∀ x ∈ l, ∀ u, I u → I (Machine.admitPort x u)) : ∀ {s : State}, I s → I (Machine.passWalk l s) := by
  induction l with
  | nil => exact id
  | cons x l ih =>
    have rest := fun {u : State} => ih (s := u) (fun y mem => admits y (List.mem_cons_of_mem x mem))
    intro s hs
    unfold Machine.passWalk
    split
    · exact rest hs
    · split
      · split
        · exact rest (admits x List.mem_cons_self s hs)
        · exact h.bump x hs
      · exact hs

/-- The pass at the end of a handling walks the queue as it stands. -/
theorem ShedStable.runOpportunity_of_queue {I : State → Prop} (h : ShedStable I) {s : State}
    (admits : ∀ x ∈ s.engine.queue, ∀ u, I u → I (Machine.admitPort x u)) (hs : I s) : I (Machine.runOpportunity s) := by
  unfold Machine.runOpportunity
  split
  · refine h.mark ?_
    split
    · exact hs
    · exact h.passWalk_of_mem admits hs
  · exact hs

/-! ## A port that has been released (R72) -/

/-- R72: the port is OFF with the record `r`, its switch OPEN, in neither list. -/
structure Released (p : Port) (r : PortRec) (s : State) : Prop where
  port : s.port p = r
  off : r.alloc = .off
  opened : (s.switch p).state = .opened
  notGranted : p ∉ s.engine.granted
  notQueued : p ∉ s.engine.queue

theorem Released.alloc {p : Port} {r : PortRec} {s : State} (h : Released p r s) : s.alloc p = .off := by
  rw [State.alloc, h.port, h.off]

/-- A port in another state than OFF is another port. -/
theorem Released.ne {p x : Port} {r : PortRec} {s : State} (h : Released p r s) (other : s.alloc x ≠ .off) : p ≠ x :=
  fun e => other (e ▸ h.alloc)

/-- A change of another port's record alone. -/
theorem Released.mapPort {p x : Port} {r : PortRec} {s : State} (h : Released p r s) (ne : p ≠ x) (f : PortRec → PortRec) :
    Released p r (s.mapPort x f) where
  port := by rw [State.mapPort_port_ne s f ne, h.port]
  off := h.off
  opened := h.opened
  notGranted := h.notGranted
  notQueued := h.notQueued

/-- Nothing in a shed order reaches a port that has been released. -/
theorem released_stable (p : Port) (r : PortRec) : ShedStable (Released p r) where
  drop {why x s} granted h := by
    have ne : p ≠ x := h.ne fun off => by rw [off] at granted; cases granted
    refine ⟨by rw [dropToShed_port, if_neg ne, h.port], h.off, by rw [dropToShed_switch_ne why s ne, h.opened], ?_, ?_⟩
    · rw [dropToShed_engine]
      exact fun mem => h.notGranted (mem_without.1 mem).1
    · rw [dropToShed_engine]
      exact h.notQueued
  enqueue {x s} shed h := by
    have ne : p ≠ x := h.ne fun off => by rw [off] at shed; cases shed
    refine ⟨h.port, h.off, h.opened, h.notGranted, fun mem => ?_⟩
    rcases mem_insertBefore.1 mem with e | queued
    · exact ne e
    · exact h.notQueued queued
  grace {why x s} on h := h.mapPort (h.ne fun off => by rw [off] at on; cases on) _
  modeReason {x s} shedding h := h.mapPort (h.ne fun off => by rw [off] at shedding; cases shedding) _
  hold h := ⟨h.port, h.off, h.opened, h.notGranted, h.notQueued⟩
  mark h := ⟨h.port, h.off, h.opened, h.notGranted, h.notQueued⟩

/-- R76: nor does the admission of another port. -/
theorem Released.admitPort {p x : Port} {r : PortRec} {s : State} (h : Released p r s) (ne : p ≠ x) :
    Released p r (admitPort x s) := by
  obtain ⟨queue, granted⟩ := admitPort_lists x s
  refine ⟨by rw [admitPort_port, if_neg ne, h.port], h.off, by rw [admitPort_switch_ne s ne, h.opened], ?_, ?_⟩
  · rw [granted]
    simpa [ne] using h.notGranted
  · rw [queue]
    exact fun mem => h.notQueued (mem_without.1 mem).1

/-- A port that has been released stays so through the end of the handling: the pass walks a queue without it. -/
theorem Released.finish {p : Port} {r : PortRec} {s : State} (h : Released p r s) (s0 : State) :
    Released p r (finish s0 s) := by
  have passed : Released p r (runOpportunity s) :=
    (released_stable p r).runOpportunity_of_queue
      (fun x mem _ hu => hu.admitPort fun e => h.notQueued (e ▸ mem)) h
  obtain ⟨ports, switches, -, engine⟩ := finish_ports s0 s
  obtain ⟨queue, granted⟩ := updateOvercommit_lists (runOpportunity s)
  refine ⟨(congrArg (tget · p) ports).trans passed.port, h.off, ?_, ?_, ?_⟩
  · exact (congrArg (fun v => (tget v p).state) switches).trans passed.opened
  · rw [engine, granted]
    exact passed.notGranted
  · rw [engine, queue]
    exact passed.notQueued

/-- R72: the record of a port that a release takes to OFF. -/
def PortRec.released (r : PortRec) : PortRec :=
  { r with alloc := .off, grant := 0, request := 0, reason := none, grace := none, overdraw := 0 }

theorem goOff_port (p q : Port) (s : State) :
    (goOff p s).port q = if q = p then (s.port p).released else s.port q := by
  rw [goOff, (switchOff_frame p _).port, State.mapEngine_port, State.mapPort_port]
  rfl

theorem goOff_engine (p : Port) (s : State) : (goOff p s).engine = s.engine.leaveLists p :=
  (switchOff_frame p _).engine

theorem goOff_released (p : Port) (s : State) : Released p (s.port p).released (goOff p s) where
  port := by rw [goOff_port, if_pos rfl]
  off := rfl
  opened := switchOff_opens p _
  notGranted := by rw [goOff_engine]; exact fun mem => (mem_without.1 mem).2 rfl
  notQueued := by rw [goOff_engine]; exact fun mem => (mem_without.1 mem).2 rfl

theorem release_of_granted {p : Port} {s : State} (granted : (s.alloc p).granted = true) :
    release p s = requeue s.engine.granted (opportunity (dropChildren 8 p (goOff p s))) := if_pos granted

theorem release_of_outside {p : Port} {s : State} (outside : (s.alloc p).granted = false) : release p s = goOff p s :=
  if_neg (by simp [outside])

/-- R72: a release takes its port to OFF. -/
theorem release_released (p : Port) (s : State) : Released p (s.port p).released (release p s) := by
  have stable := released_stable p (s.port p).released
  cases granted : (s.alloc p).granted with
  | true =>
    rw [release_of_granted granted]
    exact stable.requeue _ (stable.mark (stable.dropChildren 8 p (goOff_released p s)))
  | false =>
    rw [release_of_outside granted]
    exact goOff_released p s

theorem releaseIfHeld_of_held {p : Port} {s : State} (faulted : s.alloc p ≠ .faulted) (off : s.alloc p ≠ .off) :
    releaseIfHeld p s = release p s := by
  unfold releaseIfHeld
  split
  · next e => exact absurd e off
  · next e => exact absurd e faulted
  all_goals rfl

theorem releaseIfHeld_of_off {p : Port} {s : State} (off : s.alloc p = .off) : releaseIfHeld p s = s := by
  simp only [releaseIfHeld, off]

/-! ## The children of a port that has left the granted list (R90, R106) -/

/-- R90: an orphan that enters SHED is gone. -/
theorem dropToShed_gone {p q : Port} {why : ShedReason} {s : State} (orphan : Orphan p q s)
    (granted : (s.alloc p).granted = true) : Gone p q (PortRec.drop why (s.port p)) (dropToShed why p s) where
  orphan := (orphan_stable p q).drop granted orphan
  port := by rw [dropToShed_port, if_pos rfl]
  out := by rcases drop_leaves why (s.port p) with e | e <;> rw [e] <;> rfl
  opened := dropToShed_opens why p s

/-- R102, R106: the orphan is gone, to SHED or, with a request of 0 mW, to OFF. -/
def ShedAway (p q : Port) (request : Nat) (s : State) : Prop :=
  ∃ r : PortRec, r.alloc = (if request = 0 then .off else .shed) ∧ Gone p q r s

theorem shedAway_stable (p q : Port) (request : Nat) : PassStable (ShedAway p q request) where
  drop granted := fun ⟨r, e, gone⟩ => ⟨r, e, (gone_stable p q r).drop granted gone⟩
  enqueue shed := fun ⟨r, e, gone⟩ => ⟨r, e, (gone_stable p q r).enqueue shed gone⟩
  grace on := fun ⟨r, e, gone⟩ => ⟨r, e, (gone_stable p q r).grace on gone⟩
  modeReason shedding := fun ⟨r, e, gone⟩ => ⟨r, e, (gone_stable p q r).modeReason shedding gone⟩
  hold := fun ⟨r, e, gone⟩ => ⟨r, e, (gone_stable p q r).hold gone⟩
  mark := fun ⟨r, e, gone⟩ => ⟨r, e, (gone_stable p q r).mark gone⟩
  admitPort enters := fun ⟨r, e, gone⟩ => ⟨r, e, (gone_stable p q r).admitPort enters gone⟩

/-- The orphan is still in the granted list, with its request, or has been shed from it. -/
def OnTheWay (p q : Port) (request : Nat) (s : State) : Prop :=
  (Orphan p q s ∧ (s.alloc p).granted = true ∧ (s.port p).request = request) ∨ ShedAway p q request s

theorem shedAway_of_drop {p q : Port} {why : ShedReason} {s : State} (orphan : Orphan p q s)
    (granted : (s.alloc p).granted = true) : ShedAway p q (s.port p).request (dropToShed why p s) :=
  ⟨_, (drop_empties why (s.port p)).2.2.2, dropToShed_gone orphan granted⟩

/-- Leaving the granted list for SHED, of this port or another, keeps an orphan on its way. -/
theorem OnTheWay.drop {p q x : Port} {request : Nat} {why : ShedReason} {s : State} (h : OnTheWay p q request s)
    (granted : (s.alloc x).granted = true) : OnTheWay p q request (dropToShed why x s) := by
  rcases h with ⟨orphan, stays, asked⟩ | away
  · by_cases own : p = x
    · subst own asked
      exact .inr (shedAway_of_drop orphan granted)
    · refine .inl ⟨(orphan_stable p q).drop granted orphan, ?_, ?_⟩
      · rwa [State.alloc, dropToShed_port, if_neg own]
      · rwa [dropToShed_port, if_neg own]
  · exact .inr ((shedAway_stable p q request).drop granted away)

/-- R106: so do the children of any port that enter SHED. -/
theorem OnTheWay.dropChildren {p q : Port} {request : Nat} (n : Nat) :
    ∀ (x : Port) {s : State}, OnTheWay p q request s → OnTheWay p q request (dropChildren n x s) := by
  induction n with
  | zero => exact fun _ _ h => h
  | succ n ih =>
    intro x s h
    refine forEach_keeps (I := OnTheWay p q request) (fun y u hu => ?_) _ h
    split
    · next granted => exact ih y (hu.drop granted)
    · exact hu

/-- R106: a child of the port, in the granted list, is shed with it. -/
theorem dropChildren_sheds {p q : Port} {n : Nat} {s : State} (orphan : Orphan p q s) (mem : p ∈ s.engine.granted)
    (granted : (s.alloc p).granted = true) : ShedAway p q (s.port p).request (dropChildren (n + 1) q s) := by
  have away := (shedAway_stable p q (s.port p).request).toShedStable
  have child : p ∈ s.childrenOf q := by simp [State.childrenOf, mem, orphan.1]
  refine forEach_reaches (I := OnTheWay p q (s.port p).request) (x := p) (fun y u hu => ?_) (fun u hu => ?_)
    (fun y u hu => ?_) child (.inl ⟨orphan, granted, rfl⟩)
  · split
    · next stays => exact OnTheWay.dropChildren n y (hu.drop stays)
    · exact hu
  · rcases hu with ⟨orphan, stays, asked⟩ | gone
    · rw [if_pos stays, ← asked]
      exact (shedAway_stable p q _).dropChildren n p (shedAway_of_drop orphan stays)
    · obtain ⟨r, e, gone⟩ := gone
      rw [if_neg (by rw [State.alloc, gone.port, gone.out]; nofun)]
      exact ⟨r, e, gone⟩
  · split
    · next stays => exact away.dropChildren n y (away.drop stays hu)
    · exact hu

/-- R106: the children of a released port, at the end of the handling. -/
theorem release_finish_child {p q : Port} {s : State} (ne : q ≠ p) (released : (s.alloc p).granted = true)
    (mem : q ∈ s.engine.granted) (granted : (s.alloc q).granted = true) (parent : (s.cfg q).parent = some p) :
    let t := finish s (release p s)
    t.alloc q = (if (s.port q).request = 0 then .off else .shed) ∧ (t.switch q).state = .opened := by
  intro t
  have stable := shedAway_stable q p (s.port q).request
  have kept : (goOff p s).port q = s.port q := by rw [goOff_port, if_neg ne]
  have orphan : Orphan q p (goOff p s) := by
    refine ⟨by rw [State.cfg, kept]; exact parent, ?_⟩
    rw [(goOff_released p s).alloc]
    nofun
  have listed : q ∈ (goOff p s).engine.granted := by
    rw [goOff_engine]
    exact mem_without.2 ⟨mem, ne⟩
  have dropped : ShedAway q p (s.port q).request (dropChildren 8 p (goOff p s)) := by
    rw [← kept]
    exact dropChildren_sheds orphan listed (by rwa [State.alloc, kept])
  have away : ShedAway q p (s.port q).request (release p s) := by
    rw [release_of_granted released]
    exact stable.requeue _ (stable.mark dropped)
  obtain ⟨u, ⟨r, alloc, gone⟩, ports, switches⟩ := stable.finish s away
  refine ⟨(congrArg (fun v => (tget v q).alloc) ports).trans ?_,
    (congrArg (fun v => (tget v q).state) switches).trans gone.opened⟩
  rw [← alloc, ← gone.port]
  rfl

/-! ## PORT_RELEASE -/

theorem doPortRelease_eq {p : Port} {pl : List Byte} (tag : Byte) (s : State) (port : byteAt pl 0 = p.val) :
    doPortRelease tag pl s = releaseFor p tag s := by
  rw [doPortRelease, port, portOfCode_val]

theorem portRelease_answered {p : Port} {tag : Byte} {pl : List Byte} {r : Result} {s t : State} (free : DecoderFree s)
    (length : pl.length = 1) (port : byteAt pl 0 = p.val) (carried : releaseFor p tag s = reply .portRelease tag r [] t) :
    exec (.portRelease tag pl) s = .next (answered .portRelease tag r [] t) :=
  congrArg Host.Outcome.next
    (offerCommand_answered free (by simp [lengthMatches, length]) rfl rfl ((doPortRelease_eq tag s port).trans carried))

theorem releaseFor_of_protected {p : Port} {s : State} (tag : Byte)
    (guarded : s.enforced = true ∧ s.protectedPort p = true) :
    releaseFor p tag s = reply .portRelease tag .protected_ [] s := if_pos guarded

theorem releaseFor_of_faulted {p : Port} {s : State} (tag : Byte)
    (unguarded : ¬(s.enforced = true ∧ s.protectedPort p = true)) (faulted : s.alloc p = .faulted) :
    releaseFor p tag s = reply .portRelease tag .conflict [] s := by
  rw [releaseFor, if_neg unguarded, if_pos faulted]

theorem releaseFor_of_other {p : Port} {s : State} (tag : Byte)
    (unguarded : ¬(s.enforced = true ∧ s.protectedPort p = true)) (faulted : s.alloc p ≠ .faulted) :
    releaseFor p tag s = reply .portRelease tag .ok [] (finish s (releaseIfHeld p s)) := by
  rw [releaseFor, if_neg unguarded, if_neg faulted]

/-! ## PORT_CLEAR -/

theorem doPortClear_eq {p : Port} {pl : List Byte} (tag : Byte) (s : State) (port : byteAt pl 0 = p.val) :
    doPortClear tag pl s = clearFor p tag s := by
  rw [doPortClear, port, portOfCode_val]

theorem portClear_answered {p : Port} {tag : Byte} {pl : List Byte} {r : Result} {s t : State} (free : DecoderFree s)
    (length : pl.length = 1) (port : byteAt pl 0 = p.val) (carried : clearFor p tag s = reply .portClear tag r [] t) :
    exec (.portClear tag pl) s = .next (answered .portClear tag r [] t) :=
  congrArg Host.Outcome.next
    (offerCommand_answered free (by simp [lengthMatches, length]) rfl rfl ((doPortClear_eq tag s port).trans carried))

/-- R54: a clear empties the fault record of its switch alone. -/
theorem clearFaults_switch (p q : Port) (s : State) :
    (clearFaults p s).switch q =
      if q = p then { s.switch p with lastFault := .none, tripCount := 0, retry := 0 } else s.switch q :=
  State.setSwitch_switch s p q _

/-- R73: the engine's part of a clear takes a port in FAULTED to OFF. -/
theorem clearFaulted_port (p q : Port) (s : State) :
    (clearFaulted p s).port q =
      if q = p ∧ s.alloc p = .faulted then { s.port p with alloc := .off, request := 0, grant := 0, origin := none }
      else s.port q := by
  unfold clearFaulted
  split
  · next faulted => rw [State.mapPort_port]; simp only [faulted, and_true]
  · next other => rw [if_neg fun h => other h.2]

theorem clearFaulted_rest (p : Port) (s : State) :
    (clearFaulted p s).switches = s.switches ∧ (clearFaulted p s).engine = s.engine := by
  unfold clearFaulted
  split <;> exact ⟨rfl, rfl⟩

/-- R54, R73: both parts of a clear, before the end of the handling. -/
theorem cleared_ports (p q : Port) (s : State) :
    (clearFaulted p (clearFaults p s)).port q =
        (if q = p ∧ s.alloc p = .faulted then { s.port p with alloc := .off, request := 0, grant := 0, origin := none }
        else s.port q) ∧
      (clearFaulted p (clearFaults p s)).switch q =
        (if q = p then { s.switch p with lastFault := .none, tripCount := 0, retry := 0 } else s.switch q) ∧
      (clearFaulted p (clearFaults p s)).engine = s.engine := by
  obtain ⟨switches, engine⟩ := clearFaulted_rest p (clearFaults p s)
  have port := (clearFaults_frame p s).port
  refine ⟨?_, ?_, engine.trans (clearFaults_frame p s).engine⟩
  · rw [clearFaulted_port, State.alloc, port, port]
    rfl
  · rw [← clearFaults_switch]
    exact congrArg (tget · q) switches

/-- R74: without an opportunity the end of a handling changes no port, no switch and no list. -/
theorem finish_of_no_opportunity {s : State} (s0 : State) (none : s.engine.opportunity = false) :
    (∀ q, (finish s0 s).port q = s.port q ∧ (finish s0 s).switch q = s.switch q) ∧
      (finish s0 s).engine.queue = s.engine.queue ∧ (finish s0 s).engine.granted = s.engine.granted := by
  have idle : runOpportunity s = s := if_neg (by simp [none])
  obtain ⟨ports, switches, -, engine⟩ := finish_ports s0 s
  rw [idle] at ports switches engine
  rw [engine]
  exact ⟨fun q => ⟨congrArg (tget · q) ports, congrArg (tget · q) switches⟩, updateOvercommit_lists s⟩

theorem clearFor_of_protected {p : Port} {s : State} (tag : Byte)
    (guarded : s.enforced = true ∧ s.protectedPort p = true) :
    clearFor p tag s = reply .portClear tag .protected_ [] s := if_pos guarded

theorem clearFor_of_other {p : Port} {s : State} (tag : Byte)
    (unguarded : ¬(s.enforced = true ∧ s.protectedPort p = true)) :
    clearFor p tag s = reply .portClear tag .ok [] (finish s (clearFaulted p (clearFaults p s))) := if_neg unguarded

end Sys2Proof.Machine

open Sys2Proof Sys2Proof.Machine

/-- Settles O29, reply by reply; the released port and its children stay as they are left through the admission pass. -/
theorem portReleaseAndClear : Obligations.PortReleaseAndClear := by
  intro tag pl p s free length port consistent
  obtain ⟨⟨⟨-, -, -, states, -⟩, -⟩, idle⟩ := consistent
  have released {r : Result} {t : State} (carried : releaseFor p tag s = reply .portRelease tag r [] t) :=
    portRelease_answered free length port carried
  have cleared {r : Result} {t : State} (carried : clearFor p tag s = reply .portClear tag r [] t) :=
    portClear_answered free length port carried
  refine ⟨fun enforced guarded => ⟨released (releaseFor_of_protected tag ⟨enforced, guarded⟩),
    cleared (clearFor_of_protected tag ⟨enforced, guarded⟩)⟩, fun allowed => ?_⟩
  have unguarded : ¬(s.enforced = true ∧ s.protectedPort p = true) := by
    rintro ⟨enforced, guarded⟩
    rcases allowed with h | h
    · rw [enforced] at h; cases h
    · rw [guarded] at h; cases h
  refine ⟨fun faulted => released (releaseFor_of_faulted tag unguarded faulted), fun off => released ?_,
    fun faulted off => ⟨_, released (releaseFor_of_other tag unguarded faulted), ?_⟩,
    _, cleared (clearFor_of_other tag unguarded), ?_⟩
  · rw [releaseFor_of_other tag unguarded (by rw [off]; nofun), releaseIfHeld_of_off off]
  · rw [releaseIfHeld_of_held faulted off]
    have out := (release_released p s).finish s
    exact ⟨out.port, out.opened, out.notGranted, out.notQueued, fun q ne up mem parent =>
      release_finish_child ne ((states p).1 up) mem ((states q).1 mem) parent⟩
  · have left := fun q => cleared_ports p q s
    obtain ⟨-, -, engine⟩ := left p
    obtain ⟨kept, queue, granted⟩ :=
      finish_of_no_opportunity s (s := clearFaulted p (clearFaults p s)) (by rw [engine, idle])
    refine ⟨?_, ?_, fun q ne => ⟨?_, ?_⟩, by rw [queue, engine], by rw [granted, engine]⟩
    · rw [(kept p).2, (left p).2.1, if_pos rfl]
    · rw [(kept p).1, (left p).1]
      simp only [true_and]
    · rw [(kept q).1, (left q).1, if_neg fun h => ne h.1]
    · rw [(kept q).2, (left q).2.1, if_neg ne]

end

section
/-! Chains of parents (R84, R107, R108): a chain that closes nowhere ranks the ports, each below its parent; a new parent
that does not lead back to its port, and the breaking of the cycles at the end of INIT, leave no cycle. -/

namespace Sys2Proof.Machine

/-! ## Following parents -/

/-- No chain of parents leads back to its port. -/
abbrev Acyclic (parent : Port → Option Port) : Prop := ∀ p, leadsTo parent p 8 p = false

/-- Every port has a number above its parent's. -/
def Ranks (parent : Port → Option Port) (rank : Port → Nat) : Prop := ∀ {p q}, parent p = some q → rank q < rank p

theorem leadsTo_succ {parent : Port → Option Port} {t p : Port} {n : Nat} :
    leadsTo parent t (n + 1) p = true ↔ ∃ q, parent p = some q ∧ (q = t ∨ leadsTo parent t n q = true) := by
  rw [leadsTo]
  split <;> simp [*]

theorem leadsTo_of_le {parent : Port → Option Port} {t : Port} {n m : Nat} (le : n ≤ m) :
    ∀ {p}, leadsTo parent t n p = true → leadsTo parent t m p = true := by
  induction n generalizing m with
  | zero => nofun
  | succ n ih =>
    intro p h
    obtain ⟨m, rfl⟩ : ∃ k, m = k + 1 := ⟨m - 1, by omega⟩
    obtain ⟨q, up, h⟩ := leadsTo_succ.1 h
    exact leadsTo_succ.2 ⟨q, up, h.imp_right (ih (by omega))⟩

/-- Fewer parents lead to fewer ports. -/
theorem leadsTo_of_sub {parent other : Port → Option Port} {t : Port} (sub : ∀ p q, other p = some q → parent p = some q)
    {n : Nat} : ∀ {p}, leadsTo other t n p = true → leadsTo parent t n p = true := by
  induction n with
  | zero => nofun
  | succ n ih =>
    intro p h
    obtain ⟨q, up, h⟩ := leadsTo_succ.1 h
    exact leadsTo_succ.2 ⟨q, sub p q up, h.imp_right ih⟩

theorem Ranks.lt_of_leadsTo {parent : Port → Option Port} {rank : Port → Nat} (ranks : Ranks parent rank) {t : Port}
    {n : Nat} : ∀ {p}, leadsTo parent t n p = true → rank t < rank p := by
  induction n with
  | zero => nofun
  | succ n ih =>
    intro p h
    obtain ⟨q, up, rfl | h⟩ := leadsTo_succ.1 h
    · exact ranks up
    · exact (ih h).trans (ranks up)

/-- A chain of parents is no longer than the rank of its port. -/
theorem Ranks.leadsTo_rank {parent : Port → Option Port} {rank : Port → Nat} (ranks : Ranks parent rank) {t : Port}
    {n : Nat} : ∀ {p}, leadsTo parent t n p = true → leadsTo parent t (rank p) p = true := by
  induction n with
  | zero => nofun
  | succ n ih =>
    intro p h
    obtain ⟨q, up, h⟩ := leadsTo_succ.1 h
    have lower := ranks up
    obtain ⟨k, hk⟩ : ∃ k, rank p = k + 1 := ⟨rank p - 1, by omega⟩
    rw [hk]
    exact leadsTo_succ.2 ⟨q, up, h.imp_right fun h => leadsTo_of_le (by omega) (ih h)⟩

/-! ## Ranks from the absence of cycles -/

/-- The port `k` steps up the chain of parents. -/
def ancestor (parent : Port → Option Port) : Nat → Port → Option Port
  | 0, p => some p
  | k + 1, p => (parent p).bind (ancestor parent k)

theorem ancestor_add (parent : Port → Option Port) (i j : Nat) :
    ∀ p, ancestor parent (i + j) p = (ancestor parent i p).bind (ancestor parent j) := by
  induction i with
  | zero => intro p; simp [ancestor]
  | succ i ih =>
    intro p
    rw [Nat.succ_add, ancestor, ancestor, Option.bind_assoc]
    exact congrArg _ (funext ih)

theorem leadsTo_of_ancestor {parent : Port → Option Port} {t : Port} {k : Nat} :
    ∀ {p}, ancestor parent (k + 1) p = some t → leadsTo parent t (k + 1) p = true := by
  induction k with
  | zero =>
    intro p h
    simp only [ancestor, Option.bind_eq_some_iff, Option.some.injEq] at h
    obtain ⟨q, up, rfl⟩ := h
    exact leadsTo_succ.2 ⟨q, up, .inl rfl⟩
  | succ k ih =>
    intro p h
    rw [ancestor, Option.bind_eq_some_iff] at h
    obtain ⟨q, up, h⟩ := h
    exact leadsTo_succ.2 ⟨q, up, .inr (ih h)⟩

/-- A chain of eight steps passes some port twice: there are eight ports. -/
theorem Acyclic.ancestor_eight {parent : Port → Option Port} (h : Acyclic parent) (p : Port) :
    ancestor parent 8 p = none := by
  by_contra top
  have reached : ∀ i : Fin 9, ∃ q, ancestor parent i p = some q := by
    intro i
    by_contra none
    have split := ancestor_add parent i (8 - i) p
    rw [Option.eq_none_iff_forall_ne_some.2 fun q e => none ⟨q, e⟩, Nat.add_sub_of_le (by omega)] at split
    exact top split
  choose f hf using reached
  obtain ⟨i, j, ne, same⟩ := Fintype.exists_ne_map_eq_of_card_lt f (by simp)
  wlog lt : i < j generalizing i j
  · exact this j i ne.symm same.symm (by omega)
  have around := ancestor_add parent i (j - i) p
  rw [Nat.add_sub_of_le (by omega), hf, hf, Option.bind_some, same] at around
  obtain ⟨k, hk⟩ : ∃ k, (j : Nat) - i = k + 1 := ⟨j - i - 1, by omega⟩
  rw [hk] at around
  have cycle := leadsTo_of_le (m := 8) (by omega) (leadsTo_of_ancestor around.symm)
  rw [h] at cycle
  cases cycle

theorem Acyclic.exists_rank {parent : Port → Option Port} (h : Acyclic parent) :
    ∃ rank, Ranks parent rank ∧ ∀ p, rank p < 8 := by
  classical
  have ends : ∀ p, ∃ k, ancestor parent (k + 1) p = none := fun p => ⟨7, h.ancestor_eight p⟩
  refine ⟨fun p => Nat.find (ends p), fun {p q} up => ?_, fun p => Nat.lt_succ_of_le (Nat.find_min' _ (h.ancestor_eight p))⟩
  dsimp only
  rw [Nat.lt_find_iff]
  intro m le none
  rw [ancestor, up, Option.bind_some] at none
  obtain _ | m := m
  · cases none
  · exact Nat.find_min (ends q) (by omega) none

theorem Ranks.acyclic {parent : Port → Option Port} {rank : Port → Nat} (ranks : Ranks parent rank) : Acyclic parent := by
  intro p
  by_contra cycle
  exact (ranks.lt_of_leadsTo (by simpa using cycle)).false

/-! ## A new parent (R84) -/

/-- The port is `p`, or its chain of parents leads to `p`. -/
abbrev Under (parent : Port → Option Port) (p x : Port) : Prop := x = p ∨ leadsTo parent p 8 x = true

theorem Acyclic.under_of_parent {parent : Port → Option Port} (h : Acyclic parent) {p x y : Port}
    (up : parent x = some y) (under : Under parent p y) : Under parent p x := by
  obtain ⟨rank, ranks, bound⟩ := h.exists_rank
  have steps : leadsTo parent p 9 x = true := leadsTo_succ.2 ⟨y, up, under⟩
  exact .inr (leadsTo_of_le (bound x).le (ranks.leadsTo_rank steps))

/-- The ranks with every port under `p` raised above all others. -/
def raisedRank (parent : Port → Option Port) (rank : Port → Nat) (p x : Port) : Nat :=
  if Under parent p x then rank x + 8 else rank x

/-- R84, R107: a new parent of `p` from which no chain leads to `p` closes no cycle. -/
theorem Acyclic.newParent {parent other : Port → Option Port} (h : Acyclic parent) {p : Port}
    (same : ∀ x, x ≠ p → other x = parent x) (opens : ∀ q, other p = some q → q ≠ p ∧ leadsTo parent p 8 q = false) :
    Acyclic other := by
  obtain ⟨rank, ranks, bound⟩ := h.exists_rank
  refine Ranks.acyclic (rank := raisedRank parent rank p) fun {x y} up => ?_
  unfold raisedRank
  by_cases own : x = p
  · subst own
    obtain ⟨ne, out⟩ := opens y up
    have lower := bound y
    rw [if_neg (by simp [ne, out]), if_pos (.inl rfl)]
    omega
  · rw [same x own] at up
    have lower := ranks up
    by_cases under : Under parent p y
    · rw [if_pos under, if_pos (h.under_of_parent up under)]
      omega
    · rw [if_neg under]
      split <;> omega

/-! ## Cycles broken at the end of INIT (R108) -/

theorem breakCycle_parentOf (p x : Port) (s : State) :
    (breakCycle p s).parentOf x = if x = p ∧ leadsTo s.parentOf p 8 p = true then none else s.parentOf x := by
  unfold breakCycle
  split
  · next cycle =>
    simp only [State.parentOf, State.cfg, State.mapPort_port, cycle, and_true]
    split <;> rfl
  · next open_ => rw [if_neg fun h => open_ h.2]

/-- R108: breaking a cycle takes parents away. -/
theorem breakCycle_sub (y p q : Port) (s : State) (up : (breakCycle y s).parentOf p = some q) : s.parentOf p = some q := by
  rw [breakCycle_parentOf] at up
  split at up
  · cases up
  · exact up

/-- R108: after the walk over the ports no chain of parents leads back to its port. -/
theorem breakCycles_acyclic (s : State) : Acyclic (forEach allPorts breakCycle s).parentOf := by
  intro p
  refine forEach_reaches (I := fun _ => True) (J := fun u => leadsTo u.parentOf p 8 p = false) (x := p)
    (fun _ _ _ => trivial) (fun u _ => ?_) (fun y u hu => ?_) (by revert p; decide) (s := s) trivial
  · by_contra still
    have cycle : leadsTo (breakCycle p u).parentOf p 8 p = true := by simpa using still
    have before := leadsTo_of_sub (breakCycle_sub p · · u) cycle
    obtain ⟨q, up, -⟩ := leadsTo_succ.1 cycle
    rw [breakCycle_parentOf, if_pos ⟨rfl, before⟩] at up
    cases up
  · by_contra still
    have before := leadsTo_of_sub (breakCycle_sub y · · u) (by simpa using still)
    rw [hu] at before
    cases before

end Sys2Proof.Machine
end

section
/-! The allocation table within a step of the engine (R60 to R62, R102): what the lists, the slots and the switches owe to
the ports' states while some ports still wait for their place in the queue, and what the elementary moves keep of it. -/

namespace Sys2Proof.Machine

/-! ## Places in the queue (R60) -/

theorem insertAfter_perm (key : Port → Nat) (p : Port) (l : List Port) : (insertAfter key p l).Perm (p :: l) :=
  List.perm_middle.trans (by rw [List.takeWhile_append_dropWhile])

theorem insertBefore_perm (key : Port → Nat) (p : Port) (l : List Port) : (insertBefore key p l).Perm (p :: l) :=
  List.perm_middle.trans (by rw [List.takeWhile_append_dropWhile])

theorem mem_insertAfter {key : Port → Nat} {p q : Port} {l : List Port} :
    q ∈ insertAfter key p l ↔ q = p ∨ q ∈ l := by
  rw [(insertAfter_perm key p l).mem_iff, List.mem_cons]

/-- The list is in key order, highest key first. -/
abbrev InKeyOrder (key : Port → Nat) (l : List Port) : Prop := l.Pairwise (fun p q => key p ≤ key q)

/-- A port put between those that a test takes and the others keeps the order, where the test goes by the key. -/
theorem inKeyOrder_insert {key : Port → Nat} {p : Port} {f : Port → Bool} (above : ∀ q, f q = true → key q ≤ key p)
    (below : ∀ q, f q = false → key p ≤ key q) {l : List Port} (h : InKeyOrder key l) :
    InKeyOrder key (l.takeWhile f ++ p :: l.dropWhile f) := by
  induction l with
  | nil => simp
  | cons q l ih =>
    obtain ⟨first, rest⟩ := List.pairwise_cons.1 h
    cases taken : f q with
    | true =>
      rw [List.takeWhile_cons_of_pos taken, List.dropWhile_cons_of_pos taken, List.cons_append]
      refine List.pairwise_cons.2 ⟨fun x mem => ?_, ih rest⟩
      rcases List.mem_append.1 mem with before | after
      · exact first x (List.takeWhile_subset _ before)
      · rcases List.mem_cons.1 after with rfl | after
        · exact above q taken
        · exact first x (List.dropWhile_subset _ after)
    | false =>
      rw [List.takeWhile_cons_of_neg (by simp [taken]), List.dropWhile_cons_of_neg (by simp [taken]), List.nil_append]
      refine List.pairwise_cons.2 ⟨fun x mem => ?_, h⟩
      rcases List.mem_cons.1 mem with rfl | mem
      · exact below x taken
      · exact (below q taken).trans (first x mem)

theorem insertAfter_inKeyOrder {key : Port → Nat} (p : Port) {l : List Port} (h : InKeyOrder key l) :
    InKeyOrder key (insertAfter key p l) :=
  inKeyOrder_insert (fun q hq => by simpa using hq) (fun q hq => by simp at hq; omega) h

theorem insertBefore_inKeyOrder {key : Port → Nat} (p : Port) {l : List Port} (h : InKeyOrder key l) :
    InKeyOrder key (insertBefore key p l) :=
  inKeyOrder_insert (fun q hq => by simp at hq; omega) (fun q hq => by simpa using hq) h

/-! ## The table with ports that wait for their place -/

/-- What the lists, slots and switches owe to the states of the ports, but for the places in the queue of the ports of
`wait` that have entered SHED (R92). No configuration counts here. -/
structure ListsBut (wait : Port → Prop) (s : State) : Prop where
  queueNodup : s.engine.queue.Nodup
  grantedNodup : s.engine.granted.Nodup
  queued_of_mem : ∀ {p}, p ∈ s.engine.queue → (s.alloc p).queued = true
  mem_of_queued : ∀ {p}, (s.alloc p).queued = true → p ∈ s.engine.queue ∨ (s.alloc p = .shed ∧ wait p)
  granted : ∀ p, p ∈ s.engine.granted ↔ (s.alloc p).granted = true
  slots : SlotsFollowStates s
  requests : ∀ {p}, (s.alloc p).queued = true → 0 < (s.port p).request
  power : OnlyGrantedHavePower s

/-- The same with what keys and parents ask for, but for the states of the parents. -/
structure TableBut (wait : Port → Prop) (s : State) : Prop extends ListsBut wait s where
  sorted : InKeyOrder s.key s.engine.queue
  acyclic : Acyclic s.parentOf

/-- R104, R105, R107: the parent of `p` is ON, or both are in SHEDDING. -/
def EdgeUp (s : State) (p q : Port) : Prop := s.alloc q = .on ∨ (s.alloc q = .shedding ∧ s.alloc p = .shedding)

/-- R104, R105, R107, of every port of the granted list. -/
def EdgesUp (s : State) : Prop := ∀ ⦃p q⦄, (s.alloc p).granted = true → s.parentOf p = some q → EdgeUp s p q

/-- R88: in INIT every port is OFF. -/
def OffInInit (s : State) : Prop := s.mode = .init → ∀ p, s.alloc p = .off

/-- The table with every port in its place. -/
structure Table (s : State) : Prop extends TableBut (fun _ => False) s where
  up : EdgesUp s

theorem tableConsistent_iff (s : State) : TableConsistent s ↔ Table s ∧ OffInInit s := by
  constructor
  · rintro ⟨⟨queueNodup, grantedNodup, queued, granted, init⟩, slots, ⟨sorted, requests⟩, ⟨up, acyclic⟩, power⟩
    refine ⟨⟨⟨⟨queueNodup, grantedNodup, fun mem => (queued _).1 mem, fun h => .inl ((queued _).2 h), granted, slots,
      fun h => requests _ ((queued _).2 h), power⟩, sorted, acyclic⟩, fun {p q} h parent => ?_⟩, init⟩
    simpa [EdgeUp] using up p q ((granted p).2 h) parent
  · rintro ⟨⟨h, up⟩, init⟩
    refine ⟨⟨h.queueNodup, h.grantedNodup, fun p => ⟨h.queued_of_mem, fun queued => ?_⟩, h.granted, init⟩, h.slots,
      ⟨h.sorted, fun p mem => h.requests (h.queued_of_mem mem)⟩, ⟨fun p q mem parent => ?_, h.acyclic⟩, h.power⟩
    · rcases h.mem_of_queued queued with mem | ⟨-, none⟩
      · exact mem
      · exact none.elim
    · simpa [EdgeUp] using up ((h.granted p).1 mem) parent

theorem Table.mem_queue {s : State} (h : Table s) (p : Port) : p ∈ s.engine.queue ↔ (s.alloc p).queued = true :=
  ⟨h.queued_of_mem, fun queued => (h.mem_of_queued queued).elim id fun none => none.2.elim⟩

theorem AllocState.granted_of_slotted {a : AllocState} (h : a.slotted = true) : a.granted = true := by
  cases a <;> first | rfl | cases h

theorem AllocState.granted_iff {a : AllocState} :
    a.granted = true ↔ a = .starting ∨ a = .held ∨ a = .on ∨ a = .shedding := by
  cases a <;> simp [AllocState.granted]

theorem AllocState.slotted_iff {a : AllocState} : a.slotted = true ↔ a = .starting ∨ a = .held := by
  cases a <;> simp [AllocState.slotted]

end Sys2Proof.Machine
end

section
/-! Moves of one port through the allocation table (R60 to R62): leaving the lists, a change within its list, entering the
queue, admission, and the end of a start. -/

namespace Sys2Proof.Machine

theorem key_of_cfg {s t : State} (cfg : ∀ q, t.cfg q = s.cfg q) : t.key = s.key :=
  funext fun q => by rw [State.key, State.key, cfg]

theorem parentOf_of_cfg {s t : State} (cfg : ∀ q, t.cfg q = s.cfg q) : t.parentOf = s.parentOf :=
  funext fun q => by rw [State.parentOf, State.parentOf, cfg]

/-- The record of one port has become `r`. -/
structure OnePort (p : Port) (r : PortRec) (s t : State) : Prop where
  port : ∀ q, t.port q = if q = p then r else s.port q

/-- It has the configuration it had. -/
structure PortBecomes (p : Port) (r : PortRec) (s t : State) : Prop extends OnePort p r s t where
  config : r.config = s.cfg p

namespace OnePort

variable {p q : Port} {r : PortRec} {s t : State}

theorem self (h : OnePort p r s t) : t.port p = r := by rw [h.port, if_pos rfl]

theorem other (h : OnePort p r s t) (ne : q ≠ p) : t.port q = s.port q := by rw [h.port, if_neg ne]

theorem alloc_self (h : OnePort p r s t) : t.alloc p = r.alloc := by rw [State.alloc, h.self]

theorem alloc_other (h : OnePort p r s t) (ne : q ≠ p) : t.alloc q = s.alloc q := by
  rw [State.alloc, h.other ne, State.alloc]

end OnePort

namespace PortBecomes

variable {p : Port} {r : PortRec} {s t : State}

theorem cfg (h : PortBecomes p r s t) (q : Port) : t.cfg q = s.cfg q := by
  rw [State.cfg, h.port]
  split
  · next e => rw [h.config, e]
  · rfl

theorem key (h : PortBecomes p r s t) : t.key = s.key := key_of_cfg h.cfg

theorem parentOf (h : PortBecomes p r s t) : t.parentOf = s.parentOf := parentOf_of_cfg h.cfg

end PortBecomes

theorem mapPort_becomes (p : Port) (f : PortRec → PortRec) (s : State) (config : (f (s.port p)).config = s.cfg p) :
    PortBecomes p (f (s.port p)) s (s.mapPort p f) :=
  ⟨⟨fun q => State.mapPort_port s p q f⟩, config⟩

theorem PortBecomes.of_ports {p : Port} {r : PortRec} {s t u : State} (h : PortBecomes p r s t)
    (ports : ∀ q, u.port q = t.port q) : PortBecomes p r s u :=
  ⟨⟨fun q => (ports q).trans (h.port q)⟩, h.config⟩

/-! ## Leaving the lists -/

theorem without_of_not_mem {p : Port} {l : List Port} (h : p ∉ l) : without p l = l :=
  List.filter_eq_self.2 fun _ mem => bne_iff_ne.2 fun e => h (e ▸ mem)

theorem without_nodup {l : List Port} (p : Port) (h : l.Nodup) : (without p l).Nodup := h.filter _

theorem without_sorted {key : Port → Nat} {l : List Port} (p : Port) (h : InKeyOrder key l) :
    InKeyOrder key (without p l) := h.filter _

/-- R61, R62, R64: `p` has left its lists and its slot with the record `r`, which has no grant, its switch OPEN. -/
structure Leaves (p : Port) (r : PortRec) (s t : State) : Prop extends PortBecomes p r s t where
  out : r.alloc.granted = false
  empty : r.grant = 0
  opened : (t.switch p).state = .opened
  others : ∀ {q}, q ≠ p → (s.switch q).state = .opened → (t.switch q).state = .opened
  queue : t.engine.queue = without p s.engine.queue
  granted : t.engine.granted = without p s.engine.granted
  slot0 : t.engine.slot0 = if s.engine.slot0 = some p then none else s.engine.slot0
  slot1 : t.engine.slot1 = if s.engine.slot1 = some p then none else s.engine.slot1

theorem AllocState.not_slotted {a : AllocState} (h : a.granted = false) : a.slotted = false := by
  cases a <;> first | rfl | cases h

/-- R62: a port whose slot is freed, and no other, holds none. -/
theorem slots_freed {p : Port} {a b : Option Port} {slotted after : Port → Prop}
    (h : (∀ q, (a = some q ∨ b = some q) ↔ slotted q) ∧ (a = none ∨ a ≠ b))
    (keep : ∀ q, after q ↔ slotted q ∧ q ≠ p) :
    (∀ q, ((if a = some p then none else a) = some q ∨ (if b = some p then none else b) = some q) ↔ after q) ∧
      ((if a = some p then none else a) = none ∨
        (if a = some p then none else a) ≠ (if b = some p then none else b)) := by
  obtain ⟨slots, distinct⟩ := h
  refine ⟨fun q => ?_, ?_⟩
  · rw [keep, ← slots]
    by_cases e : q = p
    · subst e
      constructor
      · rintro (h | h) <;> split at h
        · cases h
        · next ne => exact absurd h ne
        · cases h
        · next ne => exact absurd h ne
      · rintro ⟨-, ne⟩
        exact absurd rfl ne
    · have ne : some p ≠ some q := fun h => e (Option.some.inj h).symm
      constructor
      · rintro (h | h) <;> split at h
        · cases h
        · exact ⟨.inl h, e⟩
        · cases h
        · exact ⟨.inr h, e⟩
      · rintro ⟨h | h, -⟩
        · left; rw [if_neg (by rw [h]; exact ne.symm), h]
        · right; rw [if_neg (by rw [h]; exact ne.symm), h]
  · by_cases ha : a = some p
    · simp [ha]
    · rw [if_neg ha]
      rcases distinct with h | h
      · exact .inl h
      · split
        · cases a
          · exact .inl rfl
          · exact .inr nofun
        · exact .inr h

theorem ListsBut.leaves {wait : Port → Prop} {p : Port} {r : PortRec} {s t : State} (h : ListsBut wait s)
    (l : Leaves p r s t) (waits : r.alloc.queued = true → r.alloc = .shed ∧ wait p ∧ 0 < r.request) : ListsBut wait t := by
  have other {q : Port} (ne : q ≠ p) : t.alloc q = s.alloc q := l.alloc_other ne
  refine ⟨?_, ?_, fun {q} mem => ?_, fun {q} queued => ?_, fun q => ?_, ?_, fun {q} queued => ?_, fun q => ?_⟩
  · rw [l.queue]; exact without_nodup p h.queueNodup
  · rw [l.granted]; exact without_nodup p h.grantedNodup
  · rw [l.queue, mem_without] at mem
    rw [other mem.2]
    exact h.queued_of_mem mem.1
  · by_cases e : q = p
    · subst e
      rw [l.alloc_self] at queued ⊢
      exact .inr ⟨(waits queued).1, (waits queued).2.1⟩
    · rw [other e] at queued ⊢
      rw [l.queue, mem_without]
      exact (h.mem_of_queued queued).imp_left fun mem => ⟨mem, e⟩
  · rw [l.granted, mem_without, h.granted]
    by_cases e : q = p
    · subst e
      rw [l.alloc_self, l.out]
      simp
    · rw [other e]
      simp [e]
  · unfold SlotsFollowStates
    rw [l.slot0, l.slot1]
    refine slots_freed h.slots fun q => ?_
    by_cases e : q = p
    · subst e
      rw [l.alloc_self, AllocState.not_slotted l.out]
      simp
    · rw [other e]
      simp [e]
  · by_cases e : q = p
    · subst e
      rw [l.alloc_self] at queued
      rw [l.self]
      exact (waits queued).2.2
    · rw [other e] at queued
      rw [l.other e]
      exact h.requests queued
  · by_cases e : q = p
    · subst e
      rw [l.self]
      exact .inr ⟨l.opened, l.empty⟩
    · rw [other e, l.other e]
      exact (h.power q).imp_right fun ⟨opened, empty⟩ => ⟨l.others e opened, empty⟩

theorem TableBut.leaves {wait : Port → Prop} {p : Port} {r : PortRec} {s t : State} (h : TableBut wait s)
    (l : Leaves p r s t) (waits : r.alloc.queued = true → r.alloc = .shed ∧ wait p ∧ 0 < r.request) : TableBut wait t where
  toListsBut := h.toListsBut.leaves l waits
  sorted := by rw [l.queue, l.key]; exact without_sorted p h.sorted
  acyclic := by rw [l.parentOf]; exact h.acyclic

/-! ## A change of states within the lists -/

/-- No port changes its list or its slot, and none that waits for its place in the queue leaves SHED. -/
structure SameLists (s t : State) : Prop where
  queue : t.engine.queue = s.engine.queue
  granted : t.engine.granted = s.engine.granted
  slot0 : t.engine.slot0 = s.engine.slot0
  slot1 : t.engine.slot1 = s.engine.slot1
  isGranted : ∀ q, (t.alloc q).granted = (s.alloc q).granted
  isSlotted : ∀ q, (t.alloc q).slotted = (s.alloc q).slotted
  isQueued : ∀ q, (t.alloc q).queued = (s.alloc q).queued
  isShed : ∀ q, s.alloc q = .shed → t.alloc q = .shed
  request : ∀ q, (s.alloc q).queued = true → 0 < (s.port q).request → 0 < (t.port q).request
  power : ∀ q, (s.alloc q).granted = false → (s.switch q).state = .opened ∧ (s.port q).grant = 0 →
    (t.switch q).state = .opened ∧ (t.port q).grant = 0

theorem ListsBut.sameLists {wait : Port → Prop} {s t : State} (h : ListsBut wait s) (same : SameLists s t) :
    ListsBut wait t := by
  refine ⟨?_, ?_, fun {q} mem => ?_, fun {q} queued => ?_, fun q => ?_, ?_, fun {q} queued => ?_, fun q => ?_⟩
  · rw [same.queue]; exact h.queueNodup
  · rw [same.granted]; exact h.grantedNodup
  · rw [same.queue] at mem
    rw [same.isQueued]
    exact h.queued_of_mem mem
  · rw [same.isQueued] at queued
    rw [same.queue]
    exact (h.mem_of_queued queued).imp_right fun ⟨shed, waits⟩ => ⟨same.isShed q shed, waits⟩
  · rw [same.granted, same.isGranted, h.granted]
  · unfold SlotsFollowStates
    simp only [same.slot0, same.slot1, same.isSlotted]
    exact h.slots
  · rw [same.isQueued] at queued
    exact same.request q queued (h.requests queued)
  · rw [same.isGranted]
    cases granted : (s.alloc q).granted with
    | true => exact .inl rfl
    | false => exact .inr (same.power q granted ((h.power q).resolve_left (by simp [granted])))

theorem TableBut.sameLists {wait : Port → Prop} {s t : State} (h : TableBut wait s) (same : SameLists s t)
    (cfg : ∀ q, t.cfg q = s.cfg q) : TableBut wait t where
  toListsBut := h.toListsBut.sameLists same
  sorted := by rw [same.queue, key_of_cfg cfg]; exact h.sorted
  acyclic := by rw [parentOf_of_cfg cfg]; exact h.acyclic

/-- The same ports and lists, with no switch closed. -/
theorem SameLists.of_eq {s t : State} (ports : t.ports = s.ports) (queue : t.engine.queue = s.engine.queue)
    (granted : t.engine.granted = s.engine.granted) (slot0 : t.engine.slot0 = s.engine.slot0)
    (slot1 : t.engine.slot1 = s.engine.slot1)
    (switches : ∀ q, (s.switch q).state = .opened → (t.switch q).state = .opened) : SameLists s t := by
  have port : ∀ q, t.port q = s.port q := fun q => by simp only [State.port, ports]
  have alloc : ∀ q, t.alloc q = s.alloc q := fun q => by rw [State.alloc, port, State.alloc]
  refine ⟨queue, granted, slot0, slot1, fun q => ?_, fun q => ?_, fun q => ?_, fun q => ?_, fun q _ => ?_, fun q _ power =>
    ⟨switches q power.1, ?_⟩⟩
  · rw [alloc]
  · rw [alloc]
  · rw [alloc]
  · rw [alloc]; exact id
  · rw [port]; exact id
  · rw [port]; exact power.2

/-- A change of one record within its list. -/
theorem OnePort.sameLists {p : Port} {r : PortRec} {s t : State} (h : OnePort p r s t)
    (queue : t.engine.queue = s.engine.queue) (granted : t.engine.granted = s.engine.granted)
    (slot0 : t.engine.slot0 = s.engine.slot0) (slot1 : t.engine.slot1 = s.engine.slot1)
    (switches : ∀ q, (s.switch q).state = .opened → (t.switch q).state = .opened)
    (isGranted : r.alloc.granted = (s.alloc p).granted) (isSlotted : r.alloc.slotted = (s.alloc p).slotted)
    (isQueued : r.alloc.queued = (s.alloc p).queued) (isShed : s.alloc p = .shed → r.alloc = .shed)
    (request : (s.alloc p).queued = true → 0 < (s.port p).request → 0 < r.request)
    (grant : (s.alloc p).granted = false → (s.port p).grant = 0 → r.grant = 0) : SameLists s t := by
  have each : ∀ {P : Port → PortRec → Prop} (q : Port), P p r → (q ≠ p → P q (s.port q)) → P q (t.port q) := by
    intro P q self other
    rw [h.port]
    split
    · next e => rw [e]; exact self
    · next e => exact other e
  refine ⟨queue, granted, slot0, slot1, fun q => ?_, fun q => ?_, fun q => ?_, fun q => ?_, fun q => ?_,
    fun q out power => ⟨switches q power.1, ?_⟩⟩
  · exact each (P := fun q r => r.alloc.granted = (s.alloc q).granted) q isGranted fun _ => rfl
  · exact each (P := fun q r => r.alloc.slotted = (s.alloc q).slotted) q isSlotted fun _ => rfl
  · exact each (P := fun q r => r.alloc.queued = (s.alloc q).queued) q isQueued fun _ => rfl
  · exact each (P := fun q r => s.alloc q = .shed → r.alloc = .shed) q isShed fun _ e => e
  · exact each (P := fun q r => (s.alloc q).queued = true → 0 < (s.port q).request → 0 < r.request) q request
      fun _ _ e => e
  · exact each (P := fun q r => (s.alloc q).granted = false → (s.port q).grant = 0 → r.grant = 0) q grant
      (fun _ _ e => e) out power.2

/-- A change of one record that keeps its state, and its request and grant but for those of the granted list. -/
theorem OnePort.sameLists_of_alloc {p : Port} {r : PortRec} {s t : State} (h : OnePort p r s t)
    (engine : t.engine = s.engine) (switches : ∀ q, (s.switch q).state = .opened → (t.switch q).state = .opened)
    (alloc : r.alloc = s.alloc p) (request : (s.alloc p).queued = true → 0 < (s.port p).request → 0 < r.request)
    (grant : (s.alloc p).granted = false → (s.port p).grant = 0 → r.grant = 0) : SameLists s t := by
  refine h.sameLists ?_ ?_ ?_ ?_ switches ?_ ?_ ?_ ?_ request grant
  · rw [engine]
  · rw [engine]
  · rw [engine]
  · rw [engine]
  · rw [alloc]
  · rw [alloc]
  · rw [alloc]
  · rw [alloc]; exact id

end Sys2Proof.Machine
end

section
/-! Within one step of the engine (R90 to R92, R105, R106): why a shed order reaches a port, and what such a step keeps
before the ports that entered SHED take their places in the queue. -/

namespace Sys2Proof.Machine

/-! ## Loops -/

/-- An invariant that the body of a loop keeps for the elements of its list holds after the loop. -/
theorem forEach_keeps_of_mem {α : Type} {I : State → Prop} {f : α → State → State} {l : List α}
    (hf : ∀ x ∈ l, ∀ u, I u → I (f x u)) {s : State} (h : I s) : I (forEach l f s) := by
  induction l generalizing s with
  | nil => exact h
  | cons x l ih => exact ih (fun y mem => hf y (List.mem_cons_of_mem x mem)) (hf x List.mem_cons_self s h)

/-- A claim on the elements still to come that each turn passes on ends with none to come. -/
theorem forEach_consumes {α : Type} {I : List α → State → Prop} {f : α → State → State}
    (turn : ∀ x l u, I (x :: l) u → I l (f x u)) {l : List α} {s : State} (h : I l s) : I [] (forEach l f s) := by
  induction l generalizing s with
  | nil => exact h
  | cons x l ih => exact ih (turn x l s h)

/-! ## Why a shed order reaches a port -/

/-- R90, R91, R105, R106: a shed order that began at `root` with reason `w` reaches `root` with that reason, and any other
port because its parent is no longer ON. -/
def Cause (root : Port) (w why : ShedReason) (p : Port) (s : State) : Prop :=
  (p = root ∧ why = w) ∨ ∃ q, Orphan p q s ∧ why = childReason (s.port p)

/-- A property that one step of shedding from `root` with reason `w` keeps, which touches ports of `D` alone, until the
ports that entered SHED take their places in the queue. -/
structure StepStable (root : Port) (w : ShedReason) (D : Port → Prop) (I : State → Prop) : Prop where
  child : ∀ {p q s}, I s → p ∈ s.engine.granted → s.parentOf p = some q → D q → D p
  drop : ∀ {why p s}, I s → D p → (s.alloc p).granted = true → Cause root w why p s → I (dropToShed why p s)
  grace : ∀ {why p s}, I s → D p → s.alloc p = .on → (s.cfg p).shedGrace ≠ 0 → Cause root w why p s →
    I (startGrace why p s)
  modeReason : ∀ {s}, I s → D root → s.alloc root = .shedding → w = .mode →
    I (s.mapPort root (fun r => { r with reason := some .mode }))

/-- No shed order and no admission makes a port ON. -/
theorem notOn_stable (q : Port) : PassStable (fun s => s.alloc q ≠ .on) where
  drop {why x s} _ h := by
    rw [State.alloc, dropToShed_port]
    split
    · exact drop_not_on why _
    · exact h
  enqueue _ h := h
  grace {why x s} _ h := by
    rw [State.alloc, startGrace_port]
    split
    · nofun
    · exact h
  modeReason {x s} _ h := by
    rw [State.alloc, State.mapPort_port]
    split
    · next e => rw [← e]; exact h
    · exact h
  hold h := h
  mark h := h
  admitPort {x s} _ h := by
    rw [State.alloc, admitPort_port]
    split
    · nofun
    · exact h

theorem mem_childrenOf {s : State} {p q : Port} :
    q ∈ s.childrenOf p ↔ q ∈ s.engine.granted ∧ s.parentOf q = some p := by
  simp [State.childrenOf, State.parentOf]

theorem dropToShed_alloc_self (why : ShedReason) (p : Port) (s : State) :
    (dropToShed why p s).alloc p = .shed ∨ (dropToShed why p s).alloc p = .off := by
  rw [State.alloc, dropToShed_port, if_pos rfl]
  exact drop_leaves why _

theorem dropToShed_not_on (why : ShedReason) (p : Port) (s : State) : (dropToShed why p s).alloc p ≠ .on := by
  rcases dropToShed_alloc_self why p s with e | e <;> rw [e] <;> nofun

namespace StepStable

variable {root : Port} {w : ShedReason} {D : Port → Prop} {I : State → Prop}

theorem dropChildren (h : StepStable root w D I) (n : Nat) :
    ∀ {p : Port} {s : State}, I s → D p → s.alloc p ≠ .on → I (Machine.dropChildren n p s) := by
  induction n with
  | zero => exact fun hs _ _ => hs
  | succ n ih =>
    intro p s hs reach down
    refine (forEach_keeps_of_mem (I := fun u => I u ∧ u.alloc p ≠ .on ∧ ∀ x, u.cfg x = s.cfg x)
      (fun q mem u hu => ?_) ⟨hs, down, fun _ => rfl⟩).1
    obtain ⟨hu, down, cfg⟩ := hu
    obtain ⟨listed, parent⟩ := mem_childrenOf.1 mem
    have below := h.child hs listed parent reach
    split
    · next granted =>
      have cause : Cause root w (childReason (u.port q)) q u := .inr ⟨p, ⟨by rw [cfg]; exact parent, down⟩, rfl⟩
      have dropped := h.drop hu below granted cause
      refine ⟨ih dropped below (dropToShed_not_on _ q u), ?_, fun x => ?_⟩
      · exact (notOn_stable p).dropChildren n q ((notOn_stable p).drop granted down)
      · exact (((dropToShed_frame _ q u).trans (dropChildren_frame n q _)).config x).trans (cfg x)
    · exact ⟨hu, down, cfg⟩

theorem dropTree (h : StepStable root w D I) {why : ShedReason} {p : Port} {s : State} (hs : I s) (reach : D p)
    (granted : (s.alloc p).granted = true) (cause : Cause root w why p s) : I (Machine.dropTree why p s) :=
  h.dropChildren 8 (h.drop hs reach granted cause) reach (dropToShed_not_on why p s)

/-- The order itself, from the root with its reason, or from a port whose parent is no longer ON. -/
theorem shedOrder (h : StepStable root w D I) (n : Nat) :
    ∀ {why : ShedReason} {p : Port} {s : State}, I s → D p →
      (p = root ∧ why = w) ∨ (why = .dependency ∧ ∃ q, Orphan p q s) → I (Machine.shedOrder n why p s) := by
  induction n with
  | zero => exact fun hs _ _ => hs
  | succ n ih =>
    intro why p s hs reach from_
    have cause (other : s.alloc p ≠ .shedding) : Cause root w why p s :=
      from_.imp_right fun ⟨e, q, orphan⟩ => ⟨q, orphan, e.trans (if_neg other).symm⟩
    unfold Machine.shedOrder
    split
    · next on =>
      split
      · exact h.dropTree hs reach (by rw [on]; rfl) (cause (by rw [on]; nofun))
      · next grace =>
        have started := h.grace hs reach on grace (cause (by rw [on]; nofun))
        have down : (startGrace why p s).alloc p ≠ .on := by
          rw [State.alloc, startGrace_port, if_pos rfl]
          nofun
        refine (forEach_keeps_of_mem (I := fun u => I u ∧ u.alloc p ≠ .on ∧ ∀ x, u.cfg x = s.cfg x)
          (fun q mem u hu => ?_) ⟨started, down, (startGrace_frame why p s).config⟩).1
        obtain ⟨hu, down, cfg⟩ := hu
        obtain ⟨listed, parent⟩ := mem_childrenOf.1 mem
        exact ⟨ih hu (h.child hs listed parent reach) (.inr ⟨rfl, p, by rw [cfg]; exact parent, down⟩),
          (notOn_stable p).shedOrder n .dependency q down,
          fun x => ((shedOrder_frame n .dependency q u).config x).trans (cfg x)⟩
    · next starting => exact h.dropTree hs reach (by rw [starting]; rfl) (cause (by rw [starting]; nofun))
    · next held => exact h.dropTree hs reach (by rw [held]; rfl) (cause (by rw [held]; nofun))
    · next shedding =>
      split
      · next mode =>
        rcases from_ with ⟨rfl, e⟩ | ⟨e, -⟩
        · exact h.modeReason hs reach shedding (e ▸ mode)
        · rw [e] at mode; cases mode
      · exact hs
    all_goals exact hs

end StepStable

end Sys2Proof.Machine
end

section
/-! The states of the parents (R104, R105, R107) through a shed order: what hangs on a port that leaves follows it, and what
hangs on a port that goes to SHEDDING leaves or goes there too. -/

namespace Sys2Proof.Machine

/-! ## What a shed order does not reach -/

theorem dropToShed_granted (why : ShedReason) (p : Port) (s : State) :
    (dropToShed why p s).engine.granted = without p s.engine.granted := by
  rw [dropToShed_engine]
  rfl

theorem dropToShed_queue (why : ShedReason) (p : Port) (s : State) :
    (dropToShed why p s).engine.queue = s.engine.queue := by
  rw [dropToShed_engine]
  rfl

theorem dropToShed_cfg (why : ShedReason) (p q : Port) (s : State) : (dropToShed why p s).cfg q = s.cfg q :=
  (dropToShed_frame why p s).config q

theorem startGrace_cfg (why : ShedReason) (p q : Port) (s : State) : (startGrace why p s).cfg q = s.cfg q :=
  (startGrace_frame why p s).config q

/-- The ports of `D` are closed under the children that are in the granted list. -/
def ClosedUnder (D : Port → Prop) (s : State) : Prop := ∀ ⦃p q⦄, p ∈ s.engine.granted → s.parentOf p = some q → D q → D p

/-- One step of shedding within `D` leaves every other port and switch as `v` has it. -/
def OutsideAs (D : Port → Prop) (v s : State) : Prop :=
  ClosedUnder D s ∧ ∀ x, ¬D x → s.port x = v.port x ∧ s.switch x = v.switch x

theorem outsideAs_stable (root : Port) (w : ShedReason) (D : Port → Prop) (v : State) :
    StepStable root w D (OutsideAs D v) where
  child h mem up reach := h.1 mem up reach
  drop {why p s} h reach _ _ := by
    refine ⟨fun {x y} mem up => ?_, fun x out => ?_⟩
    · rw [dropToShed_granted, mem_without] at mem
      rw [State.parentOf, dropToShed_cfg] at up
      exact h.1 mem.1 up
    · have ne : x ≠ p := fun e => out (e ▸ reach)
      rw [dropToShed_port, if_neg ne, dropToShed_switch_ne why s ne]
      exact h.2 x out
  grace {why p s} h reach _ _ _ := by
    refine ⟨fun {x y} mem up => ?_, fun x out => ?_⟩
    · rw [State.parentOf, startGrace_cfg] at up
      exact h.1 mem up
    · have ne : x ≠ p := fun e => out (e ▸ reach)
      rw [startGrace_port, if_neg ne]
      exact h.2 x out
  modeReason {s} h reach _ _ := by
    refine ⟨fun {x y} mem up => h.1 mem ?_, fun x out => ?_⟩
    · rw [← up, State.parentOf, State.parentOf, State.cfg, State.cfg, State.mapPort_port]
      split
      · next e => rw [e]
      · rfl
    · have ne : x ≠ root := fun e => out (e ▸ reach)
      rw [State.mapPort_port_ne _ _ ne]
      exact h.2 x out

/-- Ports of no higher rank than that of another port are out of the reach of a shed order on it. -/
theorem shedOrder_parts_of_rank {rank : Port → Nat} {p x : Port} {s : State} (ranks : Ranks s.parentOf rank)
    (lower : rank x < rank p) (n : Nat) (why : ShedReason) :
    (shedOrder n why p s).port x = s.port x ∧ (shedOrder n why p s).switch x = s.switch x := by
  have stable := outsideAs_stable p why (fun y => rank p ≤ rank y) s
  have start : OutsideAs (fun y => rank p ≤ rank y) s s :=
    ⟨fun {y z} _ up (reach : rank p ≤ rank z) => reach.trans (ranks up).le, fun _ _ => ⟨rfl, rfl⟩⟩
  exact (stable.shedOrder n start le_rfl (.inl ⟨rfl, rfl⟩)).2 x (by omega)

/-! ## Parents that are up, but for some children -/

/-- The granted list holds the ports whose state says so, the parents are those of `parent`, and every port of the list but
those of `bad` has its parent ON, or in SHEDDING with it. -/
structure UpBut (parent : Port → Option Port) (bad : Port → Prop) (s : State) : Prop where
  parents : s.parentOf = parent
  listed : ∀ p, p ∈ s.engine.granted ↔ (s.alloc p).granted = true
  up : ∀ {p q}, (s.alloc p).granted = true → parent p = some q → EdgeUp s p q ∨ bad p

theorem UpBut.mono {parent : Port → Option Port} {bad worse : Port → Prop} {s : State} (h : UpBut parent bad s)
    (le : ∀ p, (s.alloc p).granted = true → bad p → worse p) : UpBut parent worse s :=
  ⟨h.parents, h.listed, fun granted up => (h.up granted up).imp_right (le _ granted)⟩

theorem drop_out (why : ShedReason) (r : PortRec) : (PortRec.drop why r).alloc.granted = false := by
  rcases drop_leaves why r with e | e <;> rw [e] <;> rfl

theorem OnePort.granted_iff {p q : Port} {r : PortRec} {s t : State} (h : OnePort p r s t)
    (out : r.alloc.granted = false) : (t.alloc q).granted = true ↔ (s.alloc q).granted = true ∧ q ≠ p := by
  by_cases e : q = p
  · subst e
    simp [h.alloc_self, out]
  · simp [h.alloc_other e, e]

theorem dropToShed_alloc_granted (why : ShedReason) (p q : Port) (s : State) :
    ((dropToShed why p s).alloc q).granted = true ↔ (s.alloc q).granted = true ∧ q ≠ p :=
  OnePort.granted_iff ⟨fun q => dropToShed_port why p q s⟩ (drop_out why _)

/-- A port that leaves the granted list leaves its children without a parent in it. -/
theorem UpBut.leave {parent : Port → Option Port} {bad : Port → Prop} {p : Port} {r : PortRec} {s t : State}
    (h : UpBut parent bad s) (left : PortBecomes p r s t) (out : r.alloc.granted = false)
    (granted : t.engine.granted = without p s.engine.granted) :
    UpBut parent (fun c => bad c ∨ parent c = some p) t where
  parents := left.parentOf.trans h.parents
  listed q := by rw [granted, mem_without, h.listed, left.granted_iff out]
  up {c q} granted up := by
    obtain ⟨granted, ne⟩ := (left.granted_iff out).1 granted
    by_cases e : q = p
    · exact .inr (.inr (e ▸ up))
    · refine (h.up granted up).imp (fun edge => ?_) .inl
      rw [EdgeUp, left.alloc_other ne, left.alloc_other e]
      exact edge

theorem dropToShed_becomes (why : ShedReason) (p : Port) (s : State) :
    PortBecomes p (PortRec.drop why (s.port p)) s (dropToShed why p s) :=
  ⟨⟨fun q => dropToShed_port why p q s⟩, (drop_keeps why (s.port p)).1⟩

/-- R90: a port that enters SHED leaves its children without a parent in the granted list. -/
theorem UpBut.drop {parent : Port → Option Port} {bad : Port → Prop} {s : State} (h : UpBut parent bad s)
    (why : ShedReason) (p : Port) : UpBut parent (fun c => bad c ∨ parent c = some p) (dropToShed why p s) :=
  h.leave (dropToShed_becomes why p s) (drop_out why _) (dropToShed_granted why p s)

/-- The children of `p` in `l` are still to be turned to: they may be without a parent that is up. -/
structure ChildrenLeft (parent : Port → Option Port) (bad : Port → Prop) (p : Port) (l : List Port) (s : State) :
    Prop where
  children : ∀ c ∈ l, parent c = some p
  up : UpBut parent (fun c => bad c ∨ c ∈ l) s

namespace ChildrenLeft

variable {parent : Port → Option Port} {bad : Port → Prop} {p c : Port} {l : List Port} {s : State}

theorem own (h : ChildrenLeft parent bad p (c :: l) s) : parent c = some p := h.children c List.mem_cons_self

theorem later (h : ChildrenLeft parent bad p (c :: l) s) : ∀ x ∈ l, parent x = some p := fun x mem =>
  h.children x (List.mem_cons_of_mem c mem)

theorem done (h : ChildrenLeft parent bad p [] s) : UpBut parent bad s := h.up.mono fun c _ => by simp

end ChildrenLeft

/-- R106: the children of a port that has left the granted list leave it, with all that hangs on them. -/
theorem UpBut.dropChildren {parent : Port → Option Port} {rank : Port → Nat} (ranks : Ranks parent rank)
    (bound : ∀ p, rank p < 8) (n : Nat) :
    ∀ {bad : Port → Prop} {p : Port} {s : State}, 8 ≤ rank p + n →
      UpBut parent (fun c => bad c ∨ parent c = some p) s → UpBut parent bad (Machine.dropChildren n p s) := by
  induction n with
  | zero =>
    intro bad p s fuel
    have := bound p
    omega
  | succ n ih =>
    intro bad p s fuel h
    have start : ChildrenLeft parent bad p (s.childrenOf p) s :=
      ⟨fun c mem => h.parents ▸ (mem_childrenOf.1 mem).2,
        h.mono fun c granted => Or.imp_right fun up => mem_childrenOf.2 ⟨(h.listed c).2 granted, h.parents ▸ up⟩⟩
    refine (forEach_consumes (I := ChildrenLeft parent bad p) (fun c l u left => ⟨left.later, ?_⟩) start).done
    have own := ranks left.own
    split
    · next granted =>
      refine ih (by omega) ((left.up.drop _ c).mono fun x stays => ?_)
      obtain ⟨-, ne⟩ := (dropToShed_alloc_granted _ c x u).1 stays
      simp only [List.mem_cons, ne, false_or]
      exact id
    · next out =>
      refine left.up.mono fun x granted => Or.imp_right fun mem => ?_
      exact (List.mem_cons.1 mem).resolve_left fun e => out (e ▸ granted)

/-- R90, R106: a port that enters SHED takes all that hangs on it along. -/
theorem UpBut.dropTree {parent : Port → Option Port} {rank : Port → Nat} (ranks : Ranks parent rank)
    (bound : ∀ p, rank p < 8) {bad : Port → Prop} {p : Port} {s : State} (h : UpBut parent (fun c => bad c ∨ c = p) s)
    (why : ShedReason) : UpBut parent bad (Machine.dropTree why p s) := by
  refine .dropChildren ranks bound 8 (by omega) ((h.drop why p).mono fun c left => ?_)
  obtain ⟨-, ne⟩ := (dropToShed_alloc_granted why p c s).1 left
  simp only [ne, or_false]
  exact id

theorem startGrace_alloc (why : ShedReason) (p q : Port) (s : State) :
    (startGrace why p s).alloc q = if q = p then .shedding else s.alloc q := by
  rw [State.alloc, startGrace_port]
  split <;> rfl

/-- R91: a port that goes from ON to SHEDDING leaves its children to be turned to. -/
theorem UpBut.grace {parent : Port → Option Port} {rank : Port → Nat} (ranks : Ranks parent rank) {bad : Port → Prop}
    {why : ShedReason} {p : Port} {s : State} (h : UpBut parent (fun c => bad c ∨ c = p) s) (on : s.alloc p = .on)
    (above : ∀ q, parent p = some q → s.alloc q = .on ∨ s.alloc q = .shedding) :
    ChildrenLeft parent bad p (s.childrenOf p) (startGrace why p s) := by
  have alloc := startGrace_alloc why p (s := s)
  refine ⟨fun c mem => h.parents ▸ (mem_childrenOf.1 mem).2,
    (parentOf_of_cfg (startGrace_cfg why p · s)).trans h.parents, fun x => ?_, fun {c q} granted up => ?_⟩
  · rw [alloc]
    refine (h.listed x).trans ?_
    split
    · next e => rw [e, on]; simp [AllocState.granted]
    · rfl
  · have upper := ranks up
    unfold EdgeUp
    simp only [alloc] at granted ⊢
    by_cases own : c = p
    · subst own
      have ne : q ≠ c := fun e => by rw [e] at upper; omega
      simp only [if_neg ne, if_true, and_true]
      exact .inl (above q up)
    · rw [if_neg own] at granted ⊢
      by_cases e : q = p
      · exact .inr (.inr (mem_childrenOf.2 ⟨(h.listed c).2 granted, by rw [h.parents, up, e]⟩))
      · rw [if_neg e]
        exact (h.up granted up).imp_right fun b => .inl (b.resolve_right own)

/-- R91, R105: a shed order on a port whose parent is ON or in SHEDDING leaves all that hangs on it with a parent that is
up, and so the port itself. -/
theorem UpBut.shedOrder {parent : Port → Option Port} {rank : Port → Nat} (ranks : Ranks parent rank)
    (bound : ∀ p, rank p < 8) (n : Nat) :
    ∀ {bad : Port → Prop} {why : ShedReason} {p : Port} {s : State}, 8 ≤ rank p + n →
      UpBut parent (fun c => bad c ∨ c = p) s → (∀ q, parent p = some q → s.alloc q = .on ∨ s.alloc q = .shedding) →
      UpBut parent bad (Machine.shedOrder n why p s) := by
  induction n with
  | zero =>
    intro bad why p s fuel
    have := bound p
    omega
  | succ n ih =>
    intro bad why p s fuel h above
    have resolved (out : (s.alloc p).granted = false) : UpBut parent bad s := by
      refine h.mono fun c granted => fun
        | .inl b => b
        | .inr e => ?_
      rw [e, out] at granted
      cases granted
    unfold Machine.shedOrder
    split
    · next on =>
      split
      · exact h.dropTree ranks bound why
      · have shedding : (startGrace why p s).alloc p = .shedding := by rw [startGrace_alloc, if_pos rfl]
        refine (forEach_consumes (I := fun l u => ChildrenLeft parent bad p l u ∧ u.alloc p = .shedding)
          (fun c l u left => ?_) ⟨h.grace ranks on above, shedding⟩).1.done
        obtain ⟨left, shedding⟩ := left
        have own := ranks left.own
        refine ⟨⟨left.later, ih (by omega) (left.up.mono fun x _ => ?_) ?_⟩, ?_⟩
        · simp only [List.mem_cons]
          tauto
        · intro q up
          rw [left.own] at up
          cases up
          exact .inr shedding
        · rw [State.alloc, (shedOrder_parts_of_rank (by rw [left.up.parents]; exact ranks) own ..).1]
          exact shedding
    · exact h.dropTree ranks bound why
    · exact h.dropTree ranks bound why
    · next shedding =>
      have settled : UpBut parent bad s := by
        refine ⟨h.parents, h.listed, fun {c q} granted up => ?_⟩
        by_cases own : c = p
        · subst own
          exact .inl ((above q up).imp_right fun e => ⟨e, shedding⟩)
        · exact (h.up granted up).imp_right fun b => b.resolve_right own
      split
      · have same : ∀ q, (s.mapPort p (fun r => { r with reason := some .mode })).alloc q = s.alloc q := fun q => by
          rw [State.alloc, State.mapPort_port]
          split
          · next e => rw [e]; rfl
          · rfl
        have cfg : ∀ q, (s.mapPort p (fun r => { r with reason := some .mode })).cfg q = s.cfg q :=
          (mapPort_becomes p (fun r => { r with reason := some .mode }) s rfl).cfg
        refine ⟨(parentOf_of_cfg cfg).trans h.parents, fun q => ?_, fun {c q} granted up => ?_⟩
        · rw [same]; exact h.listed q
        · unfold EdgeUp
          rw [same] at granted
          rw [same, same]
          exact settled.up granted up
      · exact settled
    all_goals next out => exact resolved (by rw [out]; rfl)

end Sys2Proof.Machine
end

section
/-! Whole steps of the engine keep the allocation table (R90 to R92, R96, R77): a shed order, the shed check, the taking of
victims. -/

namespace Sys2Proof.Machine

/-! ## The elementary moves -/

theorem dropToShed_leaves {p : Port} {s : State} (why : ShedReason) (queued : p ∉ s.engine.queue) :
    Leaves p (PortRec.drop why (s.port p)) s (dropToShed why p s) where
  toPortBecomes := dropToShed_becomes why p s
  out := drop_out why _
  empty := (drop_empties why (s.port p)).1
  opened := dropToShed_opens why p s
  others ne opened := by rw [dropToShed_switch_ne why s ne]; exact opened
  queue := by rw [dropToShed_queue, without_of_not_mem queued]
  granted := dropToShed_granted why p s
  slot0 := by rw [dropToShed_engine]; rfl
  slot1 := by rw [dropToShed_engine]; rfl

/-- R102: a port that enters SHED has a request. -/
theorem drop_queued {why : ShedReason} {r : PortRec} (h : (PortRec.drop why r).alloc.queued = true) :
    (PortRec.drop why r).alloc = .shed ∧ 0 < (PortRec.drop why r).request := by
  obtain ⟨-, -, -, alloc⟩ := drop_empties why r
  obtain ⟨-, request, -⟩ := drop_keeps why r
  rw [alloc] at h ⊢
  rw [request]
  split at h
  · cases h
  · next ne => exact ⟨if_neg ne, Nat.pos_of_ne_zero ne⟩

theorem startGrace_sameLists {why : ShedReason} {p : Port} {s : State} (on : s.alloc p = .on) :
    SameLists s (startGrace why p s) := by
  have change := mapPort_becomes p (fun r => { r with
    alloc := .shedding, reason := some why, grace := some (r.config.shedGrace * 1000) }) s rfl
  refine change.sameLists rfl rfl rfl rfl (fun _ => id) ?_ ?_ ?_ ?_ (fun _ => id) fun _ => id <;> rw [on]
  · rfl
  · rfl
  · rfl
  · nofun

theorem modeReason_cfg (p q : Port) (s : State) :
    (s.mapPort p (fun r => { r with reason := some .mode })).cfg q = s.cfg q :=
  (mapPort_becomes p (fun r => { r with reason := some .mode }) s rfl).cfg q

theorem modeReason_sameLists (p : Port) (s : State) :
    SameLists s (s.mapPort p (fun r => { r with reason := some .mode })) :=
  (mapPort_becomes p (fun r => { r with reason := some .mode }) s rfl).sameLists_of_alloc rfl (fun _ => id) rfl
    (fun _ => id) fun _ => id

/-- A change of the engine record outside the lists and the slots. -/
theorem mapEngine_sameLists {f : Engine → Engine} {s : State} (queue : (f s.engine).queue = s.engine.queue)
    (granted : (f s.engine).granted = s.engine.granted) (slot0 : (f s.engine).slot0 = s.engine.slot0)
    (slot1 : (f s.engine).slot1 = s.engine.slot1) : SameLists s (s.mapEngine f) :=
  .of_eq rfl queue granted slot0 slot1 fun _ => id

theorem ListsBut.notQueued {wait : Port → Prop} {p : Port} {s : State} (h : ListsBut wait s)
    (granted : (s.alloc p).granted = true) : p ∉ s.engine.queue := fun mem =>
  AllocState.not_granted_of_queued (h.queued_of_mem mem) granted

/-! ## Within one step -/

/-- The table within a step that began with the granted list `order`. -/
def TableStep (order : List Port) (s : State) : Prop := TableBut (· ∈ order) s ∧ s.engine.granted ⊆ order

theorem TableStep.member {order : List Port} {s : State} {p : Port} (h : TableStep order s)
    (granted : (s.alloc p).granted = true) : p ∈ order := h.2 ((h.1.granted p).2 granted)

theorem tableStep_stable (root : Port) (w : ShedReason) (order : List Port) :
    StepStable root w (fun _ => True) (TableStep order) where
  child _ _ _ _ := trivial
  drop {why p s} h _ granted _ := by
    have left := dropToShed_leaves why (h.1.notQueued granted)
    refine ⟨h.1.leaves left fun queued => ?_, fun q mem => ?_⟩
    · obtain ⟨shed, asked⟩ := drop_queued queued
      exact ⟨shed, h.member granted, asked⟩
    · rw [left.granted, mem_without] at mem
      exact h.2 mem.1
  grace h _ on _ _ := ⟨h.1.sameLists (startGrace_sameLists on) (startGrace_cfg _ _ · _), h.2⟩
  modeReason h _ _ _ := ⟨h.1.sameLists (modeReason_sameLists root _) (modeReason_cfg root · _), h.2⟩

/-! ## The places in the queue (R92) -/

/-- R92: the requeueing changes the queue alone. -/
theorem requeue_eq (order : List Port) (s : State) :
    requeue order s = s.mapEngine (fun e => { e with queue := (requeue order s).engine.queue }) := by
  refine forEach_keeps (I := fun u => u = s.mapEngine (fun e => { e with queue := u.engine.queue })) (fun p u hu => ?_) _ rfl
  split
  · rw [hu]
    rfl
  · exact hu

theorem TableBut.insert {wait : Port → Prop} {p : Port} {s : State} (h : TableBut (fun q => q = p ∨ wait q) s)
    (shed : s.alloc p = .shed) (out : p ∉ s.engine.queue) :
    TableBut wait (s.mapEngine (fun e => { e with queue := insertBefore s.key p e.queue })) := by
  have perm := insertBefore_perm s.key p s.engine.queue
  refine ⟨⟨perm.nodup_iff.2 (List.nodup_cons.2 ⟨out, h.queueNodup⟩), h.grantedNodup, fun {q} mem => ?_,
    fun {q} queued => ?_, h.granted, h.slots, h.requests, h.power⟩, insertBefore_inKeyOrder p h.sorted, h.acyclic⟩
  · rcases mem_insertBefore.1 mem with e | mem
    · rw [e, State.mapEngine_alloc, shed]
      rfl
    · exact h.queued_of_mem mem
  · rcases h.mem_of_queued queued with mem | ⟨e, waits⟩
    · exact .inl (mem_insertBefore.2 (.inr mem))
    · exact waits.elim (fun e => .inl (mem_insertBefore.2 (.inl e))) fun waits => .inr ⟨e, waits⟩

/-- R92: after the requeueing no port waits for its place. -/
theorem TableBut.requeue {order : List Port} {s : State} (h : TableBut (· ∈ order) s) :
    TableBut (fun _ => False) (requeue order s) := by
  have start : TableBut (· ∈ order.reverse) s := by simpa only [List.mem_reverse] using h
  have done := forEach_consumes (I := fun l => TableBut (· ∈ l)) (f := fun p s =>
      if s.alloc p = .shed ∧ p ∉ s.engine.queue then
        s.mapEngine (fun e => { e with queue := insertBefore s.key p e.queue })
      else s) (fun p l u hu => ?_) start
  · exact (funext fun _ => by simp : (· ∈ ([] : List Port)) = fun _ => False) ▸ done
  · simp only [List.mem_cons] at hu
    split
    · next enters => exact hu.insert enters.1 enters.2
    · next stays =>
      refine { hu with mem_of_queued := fun {q} queued => ?_ }
      rcases hu.mem_of_queued queued with mem | ⟨shed, rfl | later⟩
      · exact .inl mem
      · exact .inl (Classical.not_not.1 fun out => stays ⟨shed, out⟩)
      · exact .inr ⟨shed, later⟩

/-! ## The states of the parents within one step -/

/-- The table within a step that began with the granted list `order`, at a moment at which every parent is up. -/
structure StepUp (order : List Port) (s : State) : Prop where
  step : TableStep order s
  up : EdgesUp s

theorem Table.stepUp {s : State} (h : Table s) : StepUp s.engine.granted s where
  step := ⟨{ h.toTableBut with mem_of_queued := fun queued => .inl ((h.mem_queue _).2 queued) }, fun _ => id⟩
  up := h.up

/-- R92: a step of the engine ends with every port in its place. -/
theorem StepUp.requeue {order : List Port} {s : State} (h : StepUp order s) : Table (requeue order s) where
  toTableBut := h.step.1.requeue
  up := by rw [requeue_eq]; exact h.up

/-- Every parent is up but that of `p`. -/
def EdgesUpBut (p : Port) (s : State) : Prop :=
  ∀ ⦃c q⦄, (s.alloc c).granted = true → s.parentOf c = some q → EdgeUp s c q ∨ c = p

theorem EdgesUp.but {s : State} (h : EdgesUp s) (p : Port) : EdgesUpBut p s := fun _ _ granted up => .inl (h granted up)

theorem TableStep.upBut {order : List Port} {s : State} (h : TableStep order s) {p : Port} (up : EdgesUpBut p s) :
    UpBut s.parentOf (fun c => False ∨ c = p) s :=
  ⟨rfl, h.1.granted, fun granted parent => (up granted parent).imp_right .inr⟩

theorem UpBut.edgesUp {parent : Port → Option Port} {s : State} (h : UpBut parent (fun _ => False) s) : EdgesUp s :=
  fun _ _ granted up => (h.up granted (h.parents ▸ up)).resolve_right id

theorem shedOrder_of_out {n : Nat} {why : ShedReason} {p : Port} {s : State} (out : (s.alloc p).granted = false) :
    shedOrder n why p s = s := by
  cases n with
  | zero => rfl
  | succ n =>
    unfold shedOrder
    split
    case h_5 | h_6 | h_7 | h_8 => rfl
    all_goals next e => rw [e] at out; cases out

/-- R91, R105, R107: a shed order on a port whose parent is ON or in SHEDDING leaves every parent up. -/
theorem TableStep.shedOrder {order : List Port} {p : Port} {s : State} (h : TableStep order s) (up : EdgesUpBut p s)
    (above : ∀ q, s.parentOf p = some q → s.alloc q = .on ∨ s.alloc q = .shedding) (why : ShedReason) :
    StepUp order (shedOrder 8 why p s) where
  step := (tableStep_stable p why order).shedOrder 8 h trivial (.inl ⟨rfl, rfl⟩)
  up := by
    obtain ⟨rank, ranks, bound⟩ := h.1.acyclic.exists_rank
    exact (UpBut.shedOrder ranks bound 8 (by omega) (h.upBut up) above).edgesUp

/-- R90, R106, R107: a port of the granted list that is dropped with its dependants leaves every parent up. -/
theorem TableStep.dropTree {order : List Port} {p : Port} {s : State} (h : TableStep order s) (up : EdgesUpBut p s)
    (granted : (s.alloc p).granted = true) (why : ShedReason) : StepUp order (dropTree why p s) where
  step := (tableStep_stable p why order).dropTree h trivial granted (.inl ⟨rfl, rfl⟩)
  up := by
    obtain ⟨rank, ranks, bound⟩ := h.1.acyclic.exists_rank
    exact (UpBut.dropTree ranks bound (h.upBut up) why).edgesUp

theorem StepUp.shedOrder {order : List Port} {s : State} (h : StepUp order s) (why : ShedReason) (p : Port) :
    StepUp order (shedOrder 8 why p s) := by
  cases granted : (s.alloc p).granted with
  | true => exact h.step.shedOrder (h.up.but p) (fun q parent => (h.up granted parent).imp_right And.left) why
  | false => rw [shedOrder_of_out granted]; exact h

/-! ## Whole steps -/

namespace Table

/-- R91: a shed order, as one step. -/
theorem shed {s : State} (h : Table s) (why : ShedReason) (p : Port) : Table (shed why p s) :=
  (h.stepUp.shedOrder why p).requeue

/-- R93: a port of the granted list leaves with its dependants, as one step. -/
theorem dropTree {p : Port} {s : State} (h : Table s) (granted : (s.alloc p).granted = true) (why : ShedReason) :
    Table (inOneStep (dropTree why p) s) :=
  (h.stepUp.step.dropTree (h.up.but p) granted why).requeue

/-- R119: shed orders on several ports, as one step. -/
theorem shedAll {s : State} (h : Table s) (why : ShedReason) (l : List Port) :
    Table (inOneStep (fun s => forEach l (shedOrder 8 why) s) s) :=
  (forEach_keeps (I := StepUp s.engine.granted) (fun p _ hu => hu.shedOrder why p) l h.stepUp).requeue

theorem sameLists {s t : State} (h : Table s) (same : SameLists s t) (cfg : ∀ q, t.cfg q = s.cfg q)
    (on : ∀ q, s.alloc q = .on → t.alloc q = .on) (shedding : ∀ q, s.alloc q = .shedding ↔ t.alloc q = .shedding) :
    Table t where
  toTableBut := h.toTableBut.sameLists same cfg
  up {p q} granted up := by
    rw [same.isGranted] at granted
    rw [parentOf_of_cfg cfg] at up
    exact (h.up granted up).imp (on q) fun both => ⟨(shedding q).1 both.1, (shedding p).1 both.2⟩

/-- A change of the engine record outside the lists and the slots. -/
theorem mapEngine {s : State} (h : Table s) {f : Engine → Engine} (queue : (f s.engine).queue = s.engine.queue)
    (granted : (f s.engine).granted = s.engine.granted) (slot0 : (f s.engine).slot0 = s.engine.slot0)
    (slot1 : (f s.engine).slot1 = s.engine.slot1) : Table (s.mapEngine f) :=
  h.sameLists (mapEngine_sameLists queue granted slot0 slot1) (fun _ => rfl) (fun _ => id) fun _ => .rfl

theorem opportunity {s : State} (h : Table s) : Table (opportunity s) := h.mapEngine rfl rfl rfl rfl

theorem startHold {s : State} (h : Table s) : Table (startHold s) := h.mapEngine rfl rfl rfl rfl

/-- R96: the shed check. -/
theorem shedCheck (n : Nat) : ∀ {s : State}, Table s → Table (shedCheck n s) := by
  induction n with
  | zero => exact id
  | succ n ih =>
    intro s h
    unfold Machine.shedCheck
    split
    · exact h
    · split
      · exact h
      · exact ih (h.shed .envelope _).startHold

/-- R77: the taking of victims. -/
theorem takeVictims (cand : Port) (need n : Nat) : ∀ {s : State}, Table s → Table (takeVictims cand need n s) := by
  induction n with
  | zero => exact id
  | succ n ih =>
    intro s h
    unfold Machine.takeVictims
    split
    · exact h
    · split
      · exact h
      · exact ih (h.shed .preempted _)

theorem bump (cand : Port) {s : State} (h : Table s) : Table (bump cand s) := by
  unfold Machine.bump
  split
  · exact h
  · split
    · exact h.takeVictims cand _ 8
    · exact h

end Table

end Sys2Proof.Machine
end

section
/-! The other moves of the engine keep the allocation table: the end of a start, releases and faults, requests, admissions,
and the end of a handling (R62, R64, R70 to R79, R102). -/

namespace Sys2Proof.Machine

/-! ## Parents that stay up -/

/-- A change of one record keeps every parent up, where the port does not leave ON or SHEDDING, and enters the granted list
only under a parent that is ON. -/
theorem EdgesUp.becomes {p : Port} {r : PortRec} {s t : State} (h : EdgesUp s) (c : PortBecomes p r s t)
    (enters : r.alloc.granted = true → (s.alloc p).granted = true ∨ s.parentOn p = true)
    (on : s.alloc p = .on → r.alloc = .on) (shedding : s.alloc p = .shedding ↔ r.alloc = .shedding) : EdgesUp t := by
  have isOn : ∀ q, s.alloc q = .on → t.alloc q = .on := fun q e => by
    by_cases own : q = p
    · subst own; rw [c.alloc_self]; exact on e
    · rw [c.alloc_other own]; exact e
  have isShedding : ∀ q, s.alloc q = .shedding → t.alloc q = .shedding := fun q e => by
    by_cases own : q = p
    · subst own; rw [c.alloc_self]; exact shedding.1 e
    · rw [c.alloc_other own]; exact e
  intro x q granted up
  rw [c.parentOf] at up
  have kept (before : (s.alloc x).granted = true) : EdgeUp t x q :=
    (h before up).imp (isOn q) fun both => ⟨isShedding q both.1, isShedding x both.2⟩
  by_cases own : x = p
  · subst own
    rw [c.alloc_self] at granted
    refine (enters granted).elim kept fun parentOn => .inl (isOn q ?_)
    simp only [State.parentOf] at up
    simpa [State.parentOn, up] using parentOn
  · rw [c.alloc_other own] at granted
    exact kept granted

namespace Table

/-! ## A change within the lists -/

/-- A change of one record that keeps its state. -/
theorem keepsState {p : Port} {r : PortRec} {s t : State} (h : Table s) (c : PortBecomes p r s t)
    (engine : t.engine = s.engine) (switches : ∀ q, (s.switch q).state = .opened → (t.switch q).state = .opened)
    (alloc : r.alloc = s.alloc p) (request : (s.alloc p).queued = true → 0 < (s.port p).request → 0 < r.request)
    (grant : (s.alloc p).granted = false → (s.port p).grant = 0 → r.grant = 0) : Table t where
  toTableBut := h.toTableBut.sameLists (c.sameLists_of_alloc engine switches alloc request grant) c.cfg
  up := h.up.becomes c (fun granted => .inl (alloc ▸ granted)) (fun e => alloc.trans e) (by rw [alloc])

/-- The same ports and lists, with no switch closed. -/
theorem of_eq {s t : State} (h : Table s) (ports : t.ports = s.ports) (queue : t.engine.queue = s.engine.queue)
    (granted : t.engine.granted = s.engine.granted) (slot0 : t.engine.slot0 = s.engine.slot0)
    (slot1 : t.engine.slot1 = s.engine.slot1)
    (switches : ∀ q, (s.switch q).state = .opened → (t.switch q).state = .opened) : Table t := by
  have port : ∀ q, t.port q = s.port q := fun q => by simp only [State.port, ports]
  refine h.sameLists (.of_eq ports queue granted slot0 slot1 switches) (fun q => ?_) (fun q => ?_) fun q => ?_
  · rw [State.cfg, port, State.cfg]
  · rw [State.alloc, State.alloc, port]; exact id
  · rw [State.alloc, State.alloc, port]

/-! ## The end of a start (R78) -/

theorem startCompletes {p : Port} {s : State} (h : Table s) (slotted : (s.alloc p).slotted = true) :
    Table (startCompletes p s) := by
  have granted := AllocState.granted_of_slotted slotted
  have c : PortBecomes p { s.port p with alloc := .on, overdraw := 0 } s (Machine.startCompletes p s) :=
    (mapPort_becomes p (fun r => { r with alloc := .on, overdraw := 0 }) s rfl).of_ports fun _ => rfl
  have flag {f : AllocState → Bool} (e : f .on = f (s.alloc p)) (q : Port) :
      f ((Machine.startCompletes p s).alloc q) = f (s.alloc q) := by
    by_cases own : q = p
    · subst own; rw [c.alloc_self]; exact e
    · rw [c.alloc_other own]
  have notShedding : s.alloc p ≠ .shedding := fun e => by rw [e] at slotted; cases slotted
  have isGranted := flag (f := AllocState.granted) granted.symm
  have isQueued := flag (f := AllocState.queued) (by rcases AllocState.slotted_iff.1 slotted with e | e <;> rw [e] <;> rfl)
  refine ⟨⟨⟨h.queueNodup, h.grantedNodup, fun mem => ?_, fun queued => ?_, fun q => ?_, ?_, fun {q} queued => ?_,
    fun q => ?_⟩, by rw [c.key]; exact h.sorted, by rw [c.parentOf]; exact h.acyclic⟩,
    h.up.becomes c (fun _ => .inl granted) (fun _ => rfl) ⟨fun e => absurd e notShedding, nofun⟩⟩
  · rw [isQueued]; exact h.queued_of_mem mem
  · rw [isQueued] at queued; exact .inl ((h.mem_queue _).2 queued)
  · rw [isGranted]; exact h.granted q
  · refine slots_freed h.slots fun q => ?_
    by_cases own : q = p
    · subst own; simp [c.alloc_self, AllocState.slotted]
    · simp [c.alloc_other own, own]
  · rw [isQueued] at queued
    have ne : q ≠ p := fun e => AllocState.not_granted_of_queued queued (e ▸ granted)
    rw [c.other ne]
    exact h.requests queued
  · rw [isGranted]
    by_cases own : q = p
    · exact .inl (own ▸ granted)
    · rw [c.other own]; exact h.power q

/-! ## Releases and faults (R72, R78, R79, R102, R106) -/

/-- A port outside the granted list that goes to a state outside both lists. -/
theorem leave {p : Port} {r : PortRec} {s t : State} (h : Table s) (l : Leaves p r s t)
    (outside : (s.alloc p).granted = false) (unlisted : r.alloc.queued = false) : Table t where
  toTableBut := h.toTableBut.leaves l fun queued => absurd queued (by simp [unlisted])
  up := h.up.becomes l.toPortBecomes (fun granted => by rw [l.out] at granted; cases granted)
    (fun e => by rw [e] at outside; cases outside)
    ⟨fun e => (by rw [e] at outside; cases outside), fun e => by have := l.out; rw [e] at this; cases this⟩

/-- A port of the granted list that goes to a state outside both lists, with its dependants shed, as one step. -/
theorem leaveWithDependants {p : Port} {r : PortRec} {f : State → State} {s : State} (h : Table s)
    (l : Leaves p r s (f s)) (unlisted : r.alloc.queued = false) :
    Table (inOneStep (fun s => Machine.opportunity (dropDependants p (f s))) s) := by
  obtain ⟨rank, ranks, bound⟩ := h.acyclic.exists_rank
  have left : TableStep s.engine.granted (f s) := by
    refine ⟨h.stepUp.step.1.leaves l fun queued => absurd queued (by simp [unlisted]), fun q mem => ?_⟩
    rw [l.granted, mem_without] at mem
    exact mem.1
  have down : (f s).alloc p ≠ .on := fun e => by
    have out := l.out
    rw [← l.alloc_self, e] at out
    cases out
  have up := (h.stepUp.step.upBut (h.up.but p)).leave l.toPortBecomes l.out l.granted
  have dropped : UpBut s.parentOf (fun _ => False) (dropDependants p (f s)) := by
    refine .dropChildren ranks bound 8 (by omega) (up.mono fun c granted => ?_)
    obtain ⟨-, ne⟩ := (l.granted_iff l.out).1 granted
    simp only [false_or, ne]
    exact id
  have stepped := (tableStep_stable p .dependency _).dropChildren 8 left trivial down
  exact StepUp.requeue (s := Machine.opportunity (dropDependants p (f s)))
    ⟨⟨stepped.1.sameLists (mapEngine_sameLists rfl rfl rfl rfl) fun _ => rfl, stepped.2⟩, dropped.edgesUp⟩

/-! ## Requests (R60, R70, R102) -/

/-- R60: a port in OFF enters WAITING. -/
theorem enterWaiting {p : Port} {s : State} (h : Table s) (off : s.alloc p = .off) (asked : 0 < (s.port p).request) :
    Table (enterWaiting p s) := by
  have c : PortBecomes p { s.port p with alloc := .waiting } s (Machine.enterWaiting p s) :=
    (mapPort_becomes p (fun r => { r with alloc := .waiting }) s rfl).of_ports fun _ => rfl
  have queue : (Machine.enterWaiting p s).engine.queue = insertAfter s.key p s.engine.queue := rfl
  have out : p ∉ s.engine.queue := fun mem => by
    have := h.queued_of_mem mem
    rw [off] at this
    cases this
  have flag {f : AllocState → Bool} (e : f .waiting = f .off) (q : Port) :
      f ((Machine.enterWaiting p s).alloc q) = f (s.alloc q) := by
    by_cases own : q = p
    · subst own; rw [c.alloc_self, off]; exact e
    · rw [c.alloc_other own]
  refine ⟨⟨⟨?_, h.grantedNodup, fun {q} mem => ?_, fun {q} queued => .inl ?_, fun q => ?_, ?_, fun {q} queued => ?_,
    fun q => ?_⟩, ?_, by rw [c.parentOf]; exact h.acyclic⟩, h.up.becomes c nofun (fun e => ?_) ⟨fun e => ?_, nofun⟩⟩
  · rw [queue, (insertAfter_perm _ _ _).nodup_iff]
    exact List.nodup_cons.2 ⟨out, h.queueNodup⟩
  · rw [queue, mem_insertAfter] at mem
    by_cases own : q = p
    · subst own; rw [c.alloc_self]; rfl
    · rw [c.alloc_other own]; exact h.queued_of_mem (mem.resolve_left own)
  · rw [queue, mem_insertAfter]
    by_cases own : q = p
    · exact .inl own
    · rw [c.alloc_other own] at queued; exact .inr ((h.mem_queue q).2 queued)
  · rw [flag (f := AllocState.granted) rfl]; exact h.granted q
  · simp only [SlotsFollowStates, flag (f := AllocState.slotted) rfl]
    exact h.slots
  · by_cases own : q = p
    · subst own; rw [c.self]; exact asked
    · rw [c.alloc_other own] at queued; rw [c.other own]; exact h.requests queued
  · rw [flag (f := AllocState.granted) rfl]
    by_cases own : q = p
    · subst own; rw [c.self]; exact h.power q
    · rw [c.other own]; exact h.power q
  · rw [queue, c.key]; exact insertAfter_inKeyOrder p h.sorted
  · rw [off] at e; cases e
  · rw [off] at e; cases e

end Table

/-! ## Admissions (R62, R76) -/

/-- R62, R76: a port that takes a free slot is the only one that joins those with a slot. -/
theorem slots_taken {p : Port} {a b : Option Port} {slotted after : Port → Prop}
    (h : (∀ q, (a = some q ∨ b = some q) ↔ slotted q) ∧ (a = none ∨ a ≠ b)) (free : a = none ∨ b = none)
    (outside : ¬slotted p) (join : ∀ q, after q ↔ slotted q ∨ q = p) :
    (∀ q, ((if a = none then some p else a) = some q ∨ (if a = none then b else some p) = some q) ↔ after q) ∧
      ((if a = none then some p else a) = none ∨ (if a = none then some p else a) ≠ (if a = none then b else some p)) := by
  obtain ⟨slots, -⟩ := h
  have own : ∀ q, some p = some q ↔ q = p := fun q => ⟨fun e => (Option.some.inj e).symm, fun e => by rw [e]⟩
  by_cases e : a = none
  · simp only [e, if_true, own, reduceCtorEq, false_or] at slots ⊢
    refine ⟨fun q => by rw [join, ← slots, or_comm], fun same => outside ((slots p).1 same.symm)⟩
  · rw [free.resolve_left e] at slots
    simp only [reduceCtorEq, or_false] at slots
    rw [if_neg e, if_neg e]
    exact ⟨fun q => by rw [own, join, ← slots], .inr fun same => outside ((slots p).1 same)⟩

theorem admitPort_engine (p : Port) (s : State) :
    (admitPort p s).engine =
      { s.engine with
        queue := without p s.engine.queue
        granted := s.engine.granted ++ [p]
        slot0 := if s.engine.slot0 = none then some p else s.engine.slot0
        slot1 := if s.engine.slot0 = none then s.engine.slot1 else some p } := by
  rw [admitPort, (switchOn_frame p _).engine, State.mapEngine_engine, State.mapPort_engine, Engine.takeSlot]
  cases s.engine.slot0 <;> simp

theorem admitPort_becomes (p : Port) (s : State) :
    PortBecomes p { s.port p with alloc := .starting, grant := (s.port p).request, reason := none, overdraw := 0 } s
      (admitPort p s) :=
  ⟨⟨fun q => admitPort_port p q s⟩, rfl⟩

namespace Table

theorem admitPort {p : Port} {s : State} (h : Table s) (mem : p ∈ s.engine.queue) (free : s.engine.hasSlot = true)
    (enters : s.skips p = false) : Table (admitPort p s) := by
  have c := admitPort_becomes p s
  have queued := h.queued_of_mem mem
  have outside : (s.alloc p).granted = false := by simpa using AllocState.not_granted_of_queued queued
  have engine := admitPort_engine p s
  have parentOn : s.parentOn p = true := by simp [State.skips] at enters; exact enters.1.1
  have notIn {f : AllocState → Bool} (e : f .starting = true) (none : f (s.alloc p) = false) (q : Port) :
      f ((Machine.admitPort p s).alloc q) = true ↔ f (s.alloc q) = true ∨ q = p := by
    by_cases own : q = p
    · subst own; simp [c.alloc_self, e]
    · simp [c.alloc_other own, own]
  refine ⟨⟨⟨?_, ?_, fun {q} mem => ?_, fun {q} queued => .inl ?_, fun q => ?_, ?_, fun {q} queued => ?_, fun q => ?_⟩, ?_,
    by rw [c.parentOf]; exact h.acyclic⟩, h.up.becomes c (fun _ => .inr parentOn) (fun e => ?_) ⟨fun e => ?_, nofun⟩⟩
  · rw [engine]; exact without_nodup p h.queueNodup
  · rw [engine]
    refine List.nodup_append.2 ⟨h.grantedNodup, List.nodup_singleton p, fun a ha b hb e => ?_⟩
    rw [List.mem_singleton.1 hb] at e
    rw [e, h.granted, outside] at ha
    cases ha
  · rw [engine, mem_without] at mem
    rw [c.alloc_other mem.2]
    exact h.queued_of_mem mem.1
  · have own : q ≠ p := fun e => by rw [e, c.alloc_self] at queued; cases queued
    rw [c.alloc_other own] at queued
    rw [engine, mem_without]
    exact ⟨(h.mem_queue q).2 queued, own⟩
  · rw [engine, notIn rfl outside, ← h.granted]
    simp
  · have slots := slots_taken (p := p) h.slots (by simpa [Engine.hasSlot] using free)
      (by rw [AllocState.not_slotted outside]; nofun) (notIn rfl (AllocState.not_slotted outside))
    rw [SlotsFollowStates, engine]
    exact slots
  · have own : q ≠ p := fun e => by rw [e, c.alloc_self] at queued; cases queued
    rw [c.alloc_other own] at queued
    rw [c.other own]
    exact h.requests queued
  · by_cases own : q = p
    · subst own; rw [c.alloc_self]; exact .inl rfl
    · rw [c.alloc_other own, c.other own, admitPort_switch_ne s own]; exact h.power q
  · rw [engine, c.key]; exact without_sorted p h.sorted
  · rw [e] at outside; cases outside
  · rw [e] at outside; cases outside

/-- R75: the walk of the pass over entries of the queue. -/
theorem passWalk (l : List Port) : ∀ {s : State}, Table s → l.Nodup → (∀ x ∈ l, x ∈ s.engine.queue) → Table (passWalk l s) := by
  induction l with
  | nil => exact fun h _ _ => h
  | cons p l ih =>
    intro s h nodup queued
    obtain ⟨out, nodup⟩ := List.nodup_cons.1 nodup
    have later : ∀ x ∈ l, x ∈ s.engine.queue := fun x mem => queued x (List.mem_cons_of_mem p mem)
    unfold Machine.passWalk
    split
    · exact ih h nodup later
    · next enters =>
      split
      · next free =>
        split
        · refine ih (h.admitPort (queued p List.mem_cons_self) free (by simpa using enters)) nodup fun x mem => ?_
          rw [admitPort_engine, mem_without]
          exact ⟨later x mem, fun e => out (e ▸ mem)⟩
        · exact h.bump p
      · exact h

theorem admissionPass {s : State} (h : Table s) : Table (admissionPass s) := h.passWalk _ h.queueNodup fun _ => id

theorem runOpportunity {s : State} (h : Table s) : Table (runOpportunity s) := by
  unfold Machine.runOpportunity
  split
  · refine mapEngine ?_ rfl rfl rfl rfl
    split
    · exact h
    · exact h.admissionPass
  · exact h

end Table

/-! ## The end of a handling -/

theorem updateOvercommit_engine (s : State) :
    (updateOvercommit s).engine = { s.engine with overcommit := (updateOvercommit s).engine.overcommit } := by
  unfold updateOvercommit
  dsimp only
  split <;> rfl

/-- The engine at the end of a handling, but for the overcommit mark. -/
theorem finish_engine (s0 s : State) :
    (finish s0 s).engine = { (runOpportunity s).engine with overcommit := (finish s0 s).engine.overcommit } := by
  obtain ⟨-, -, -, engine⟩ := finish_ports s0 s
  rw [engine]
  exact updateOvercommit_engine _

theorem runOpportunity_closes (s : State) : (runOpportunity s).engine.opportunity = false := by
  unfold runOpportunity
  split
  · rfl
  · next none => simpa using none

theorem Table.finish {s : State} (h : Table s) (s0 : State) : Table (finish s0 s) := by
  obtain ⟨ports, switches, -, -⟩ := finish_ports s0 s
  have engine := finish_engine s0 s
  refine h.runOpportunity.of_eq ports ?_ ?_ ?_ ?_ fun q e => ?_
  · rw [engine]
  · rw [engine]
  · rw [engine]
  · rw [engine]
  · rw [State.switch, switches]; exact e

/-- R88: shedding and admission leave every port OFF in INIT. -/
theorem offInInit_stable : PassStable OffInInit := by
  have keep {p : Port} {s t : State} (h : OffInInit s) (granted : (s.alloc p).granted = true) (mode : t.mode = s.mode) :
      OffInInit t := fun init => by
    rw [h (mode ▸ init) p] at granted
    cases granted
  refine ⟨⟨fun {why p s} granted h => keep h granted (dropToShed_frame why p s).mode, fun _ h => h,
    fun {why p s} on h => keep (p := p) h (by rw [on]; rfl) rfl,
    fun {p s} shedding h => keep (p := p) h (by rw [shedding]; rfl) rfl, fun h => h, fun h => h⟩, fun {p s} enters h init => ?_⟩
  rw [(admitPort_frame p s).mode] at init
  simp [State.skips, modeForbids, init] at enters

theorem OffInInit.finish {s : State} (h : OffInInit s) (s0 : State) : OffInInit (finish s0 s) := by
  obtain ⟨ports, -⟩ := finish_ports s0 s
  have kept := offInInit_stable.runOpportunity h
  intro init p
  rw [(finish_frame s0 s).mode, ← (runOpportunity_frame s).mode] at init
  exact (congrArg (fun v => (tget v p).alloc) ports).trans (kept init p)

/-- R64, R74: the end of a handling closes the table. -/
theorem finish_consistent (s0 : State) {s : State} (h : Table s) (init : OffInInit s) :
    AllocationConsistent (finish s0 s) := by
  refine ⟨(tableConsistent_iff _).2 ⟨h.finish s0, init.finish s0⟩, ?_⟩
  rw [finish_engine]
  exact runOpportunity_closes s

end Sys2Proof.Machine
end

section
/-! Ports reached down the chains of children (R77, R100), the cancellation (R99, R100), and what a recomputation of the
envelope keeps of the allocation table (R65 to R67). -/

namespace Sys2Proof.Machine

/-! ## Ports reached down the chains of children -/

/-- One round: the ports found, and those of `l` that satisfy `f` and have a parent among them. -/
def closureRound (s : State) (f : Port → Bool) (l found : List Port) : List Port :=
  l.filter (fun q => found.contains q || (f q && s.parentIn found q))

theorem parentIn_iff {s : State} {l : List Port} {p : Port} :
    s.parentIn l p = true ↔ ∃ q, s.parentOf p = some q ∧ q ∈ l := by
  unfold State.parentIn State.parentOf
  split <;> simp [*]

theorem mem_closureRound {s : State} {f : Port → Bool} {l found : List Port} {q : Port} :
    q ∈ closureRound s f l found ↔
      q ∈ l ∧ (q ∈ found ∨ (f q = true ∧ ∃ r, s.parentOf q = some r ∧ r ∈ found)) := by
  simp [closureRound, parentIn_iff]

theorem closure_eq_iterate (s : State) (f : Port → Bool) (l : List Port) (n : Nat) :
    ∀ found, closure s f l n found = (closureRound s f l)^[n] found := by
  induction n with
  | zero => exact fun _ => rfl
  | succ n ih => exact fun found => ih _

section Closure

variable {s : State} {f : Port → Bool} {l found : List Port}

theorem closure_succ (n : Nat) :
    closure s f l (n + 1) found = closureRound s f l (closure s f l n found) := by
  simp only [closure_eq_iterate, Function.iterate_succ_apply']

theorem closure_subset (within : found ⊆ l) (n : Nat) : closure s f l n found ⊆ l := by
  cases n with
  | zero => exact within
  | succ n =>
    rw [closure_succ]
    exact fun q mem => (mem_closureRound.1 mem).1

theorem closure_mono (within : found ⊆ l) {n m : Nat} (le : n ≤ m) :
    closure s f l n found ⊆ closure s f l m found := by
  induction le with
  | refl => exact fun _ => id
  | step _ ih =>
    intro q mem
    rw [closure_succ]
    exact mem_closureRound.2 ⟨closure_subset within n mem, .inl (ih mem)⟩

/-- Every port reached was there at the start, or has a parent that is reached. -/
theorem closure_cases (within : found ⊆ l) (n : Nat) {q : Port} (mem : q ∈ closure s f l n found) :
    q ∈ found ∨ (q ∈ l ∧ f q = true ∧ ∃ r ∈ closure s f l n found, s.parentOf q = some r) := by
  induction n with
  | zero => exact .inl mem
  | succ n ih =>
    have earlier : ∀ {r}, r ∈ closure s f l n found → r ∈ closure s f l (n + 1) found :=
      fun mem => closure_mono within (Nat.le_succ n) mem
    rw [closure_succ] at mem
    obtain ⟨listed, before | ⟨ok, r, up, before⟩⟩ := mem_closureRound.1 mem
    · exact (ih before).imp_right fun ⟨listed, ok, r, mem, up⟩ => ⟨listed, ok, r, earlier mem, up⟩
    · exact .inr ⟨listed, ok, r, earlier before, up⟩

/-- A port is reached by the round of its rank. -/
theorem mem_closure_of_rank {rank : Port → Nat} (ranks : Ranks s.parentOf rank) (within : found ⊆ l) (n : Nat) (m : Nat) :
    ∀ {q}, rank q ≤ m → q ∈ closure s f l n found → q ∈ closure s f l m found := by
  induction m with
  | zero =>
    intro q low mem
    rcases closure_cases within n mem with start | ⟨-, -, r, -, up⟩
    · exact start
    · have := ranks up
      omega
  | succ m ih =>
    intro q low mem
    rcases closure_cases within n mem with start | ⟨listed, ok, r, mem, up⟩
    · exact closure_mono within (Nat.zero_le _) start
    · rw [closure_succ]
      exact mem_closureRound.2 ⟨listed, .inr ⟨ok, r, up, ih (by have := ranks up; omega) mem⟩⟩

/-- Eight rounds reach all there is to reach, where no chain of parents closes. -/
theorem mem_closure_iff (acyclic : Acyclic s.parentOf) (within : found ⊆ l) {q : Port} :
    q ∈ closure s f l 8 found ↔
      q ∈ found ∨ (q ∈ l ∧ f q = true ∧ ∃ r ∈ closure s f l 8 found, s.parentOf q = some r) := by
  obtain ⟨rank, ranks, bound⟩ := acyclic.exists_rank
  refine ⟨closure_cases within 8, fun h => ?_⟩
  rcases h with start | ⟨listed, ok, r, mem, up⟩
  · exact closure_mono within (Nat.zero_le _) start
  · rw [closure_succ]
    exact mem_closureRound.2
      ⟨listed, .inr ⟨ok, r, up, mem_closure_of_rank ranks within 8 7 (by have := bound r; omega) mem⟩⟩

theorem closure_nodup (nodup : l.Nodup) (n : Nat) : (closure s f l (n + 1) found).Nodup := by
  rw [closure_succ]
  exact nodup.filter _

end Closure

/-! ## The group of a port (R100) -/

theorem cancellable_iff {s : State} {p : Port} :
    s.cancellable p = true ↔
      s.alloc p = .shedding ∧ ((s.port p).reason = some .envelope ∨ (s.port p).reason = some .dependency) := by
  simp [State.cancellable]

theorem mem_group_iff {s : State} (acyclic : Acyclic s.parentOf) {p q : Port} (granted : p ∈ s.engine.granted) :
    q ∈ s.group p ↔
      q = p ∨ (q ∈ s.engine.granted ∧ s.cancellable q = true ∧ ∃ r ∈ s.group p, s.parentOf q = some r) := by
  rw [State.group, mem_closure_iff acyclic (by simpa using granted), List.mem_singleton]

/-! ## The cancellation of a group -/

/-- R100: the record of a port that is cancelled to ON. -/
def PortRec.cancelled (r : PortRec) : PortRec := { r with alloc := .on, grace := none, reason := none, overdraw := 0 }

theorem cancelPort_port (p q : Port) (s : State) :
    (cancelPort p s).port q = if q = p then (s.port p).cancelled else s.port q := by
  rw [cancelPort, opportunity_port, State.mapPort_port]
  rfl

theorem cancelAll_port (l : List Port) (q : Port) :
    ∀ s : State, (forEach l cancelPort s).port q = if q ∈ l then (s.port q).cancelled else s.port q := by
  induction l with
  | nil => intro s; simp
  | cons p l ih =>
    intro s
    rw [forEach_cons, ih, cancelPort_port]
    by_cases own : q = p
    · subst own
      simp [PortRec.cancelled]
    · simp [own]

/-- R100: a cancellation changes no list, no slot and no switch. -/
theorem cancelAll_rest (l : List Port) (s : State) :
    (forEach l cancelPort s).switches = s.switches ∧
      ∃ b, (forEach l cancelPort s).engine = { s.engine with opportunity := b } := by
  refine forEach_keeps (I := fun u => u.switches = s.switches ∧ ∃ b, u.engine = { s.engine with opportunity := b })
    (fun p u hu => ?_) l ⟨rfl, s.engine.opportunity, rfl⟩
  obtain ⟨switches, b, engine⟩ := hu
  refine ⟨switches, true, ?_⟩
  rw [cancelPort, opportunity, State.mapEngine_engine, State.mapPort_engine, engine]

/-- R99, R100: ports in SHEDDING go back to ON together with the parents they have in SHEDDING. -/
theorem Table.cancelAll {s : State} (h : Table s) {l : List Port} (shedding : ∀ q ∈ l, s.alloc q = .shedding)
    (parents : ∀ q ∈ l, ∀ r, s.parentOf q = some r → s.alloc r = .on ∨ r ∈ l) : Table (forEach l cancelPort s) := by
  obtain ⟨switches, b, engine⟩ := cancelAll_rest l s
  have port := fun q => cancelAll_port l q s
  have alloc : ∀ q, (forEach l cancelPort s).alloc q = if q ∈ l then .on else s.alloc q := fun q => by
    rw [State.alloc, port]
    split <;> rfl
  have cfg : ∀ q, (forEach l cancelPort s).cfg q = s.cfg q := fun q => by
    rw [State.cfg, port]
    split <;> rfl
  have flag (f : AllocState → Bool) (e : f .on = f .shedding) (q : Port) :
      f ((forEach l cancelPort s).alloc q) = f (s.alloc q) := by
    rw [alloc]
    split
    · next mem => rw [shedding q mem, e]
    · rfl
  have same : SameLists s (forEach l cancelPort s) := by
    refine ⟨by rw [engine], by rw [engine], by rw [engine], by rw [engine], flag _ rfl, flag _ rfl, flag _ rfl,
      fun q e => ?_, fun q queued asked => ?_, fun q out power => ?_⟩
    · rw [alloc, if_neg fun mem => by rw [shedding q mem] at e; cases e]
      exact e
    · rw [port]
      split <;> exact asked
    · have notIn : q ∉ l := fun mem => by rw [shedding q mem] at out; cases out
      rw [port, if_neg notIn, State.switch, switches]
      exact power
  refine ⟨h.toTableBut.sameLists same cfg, fun p q granted up => ?_⟩
  rw [same.isGranted] at granted
  rw [parentOf_of_cfg cfg] at up
  unfold EdgeUp
  rw [alloc, alloc]
  by_cases above : q ∈ l
  · rw [if_pos above]; exact .inl rfl
  · rw [if_neg above]
    refine (h.up granted up).elim .inl fun both => ?_
    by_cases own : p ∈ l
    · exact .inl ((parents p own q up).resolve_right above)
    · rw [if_neg own]; exact .inr both

theorem parentOn_iff {s : State} {p : Port} : s.parentOn p = true ↔ ∀ q, s.parentOf p = some q → s.alloc q = .on := by
  unfold State.parentOn State.parentOf
  split <;> simp [*]

/-- R100: a port of a group is in SHEDDING. -/
theorem shedding_of_mem_group {s : State} (acyclic : Acyclic s.parentOf) {p q : Port} (granted : p ∈ s.engine.granted)
    (shedding : s.alloc p = .shedding) (mem : q ∈ s.group p) : s.alloc q = .shedding := by
  rcases (mem_group_iff acyclic granted).1 mem with rfl | ⟨-, ok, -⟩
  · exact shedding
  · exact (cancellable_iff.1 ok).1

/-- R99, R100: the cancellation of a group whose head has its parent ON. -/
theorem Table.cancelGroup {s : State} (h : Table s) {p : Port} (shedding : s.alloc p = .shedding)
    (parentOn : s.parentOn p = true) : Table (forEach (s.group p) cancelPort s) := by
  have granted : p ∈ s.engine.granted := (h.granted p).2 (by rw [shedding]; rfl)
  refine h.cancelAll (fun q => shedding_of_mem_group h.acyclic granted shedding) fun q mem r up => ?_
  rcases (mem_group_iff h.acyclic granted).1 mem with rfl | ⟨-, -, x, inGroup, parent⟩
  · exact .inl (parentOn_iff.1 parentOn r up)
  · rw [parent] at up
    cases up
    exact .inr inGroup

/-- R99: the walk of the cancellation. -/
theorem Table.cancelWalk (l : List Port) : ∀ {s : State}, Table s → Table (cancelWalk l s) := by
  induction l with
  | nil => exact id
  | cons p l ih =>
    intro s h
    unfold Machine.cancelWalk
    split
    · next returns =>
      split
      · exact ih (h.cancelGroup returns.1 returns.2)
      · exact h
    · exact ih h

/-! ## The recomputation (R65 to R67) -/

theorem Table.afterRecompute {s : State} (h : Table s) (old : Nat) : Table (afterRecompute old s) := by
  unfold Machine.afterRecompute
  dsimp only
  split
  · exact ((h.shedCheck 8).cancelWalk _).opportunity
  · exact h.shedCheck 8

theorem Table.recompute {s : State} (h : Table s) : Table (recompute s) :=
  (h.mapEngine rfl rfl rfl rfl : Table (storeEnvelope s)).afterRecompute _

theorem Table.recomputeUnlessHeld {s : State} (h : Table s) : Table (recomputeUnlessHeld s) := by
  unfold Machine.recomputeUnlessHeld
  split
  · exact h
  · exact h.recompute

end Sys2Proof.Machine
end

section
/-! The operations of the engine's handlings keep the allocation table: requests and releases, reports, overdraw, the
events of the selector, and accessory records (R70 to R72, R78 to R83, R103). -/

namespace Sys2Proof.Machine

/-! ## Ports outside the granted list -/

theorem ListsBut.slots_of_outside {wait : Port → Prop} {p : Port} {s : State} (h : ListsBut wait s)
    (outside : (s.alloc p).granted = false) :
    p ∉ s.engine.granted ∧ s.engine.slot0 ≠ some p ∧ s.engine.slot1 ≠ some p := by
  have slotless : ¬(s.engine.slot0 = some p ∨ s.engine.slot1 = some p) := fun held => by
    have slotted := (h.slots.1 p).1 held
    rw [AllocState.not_slotted outside] at slotted
    cases slotted
  exact ⟨fun mem => (by rw [h.granted, outside] at mem; cases mem), fun e => slotless (.inl e), fun e => slotless (.inr e)⟩

/-- A port outside the granted list that leaves the queue. -/
theorem ListsBut.leavesQueue {wait : Port → Prop} {p : Port} {r : PortRec} {s t : State} (h : ListsBut wait s)
    (outside : (s.alloc p).granted = false) (c : PortBecomes p r s t) (out : r.alloc.granted = false)
    (grant : r.grant = (s.port p).grant) (switches : t.switches = s.switches)
    (queue : t.engine.queue = without p s.engine.queue) (granted : t.engine.granted = s.engine.granted)
    (slot0 : t.engine.slot0 = s.engine.slot0) (slot1 : t.engine.slot1 = s.engine.slot1) : Leaves p r s t := by
  obtain ⟨notGranted, no0, no1⟩ := h.slots_of_outside outside
  obtain ⟨opened, empty⟩ := (h.power p).resolve_left (by simp [outside])
  have switch : ∀ q, t.switch q = s.switch q := fun q => by rw [State.switch, switches, State.switch]
  exact
    { c with
      out := out
      empty := grant.trans empty
      opened := by rw [switch]; exact opened
      others := fun {q} _ opened => by rw [switch]; exact opened
      queue := queue
      granted := by rw [granted, without_of_not_mem notGranted]
      slot0 := by rw [slot0, if_neg no0]
      slot1 := by rw [slot1, if_neg no1] }

/-! ## Requests (R70, R102) -/

/-- R102: the record of a port whose request is cut to 0 mW. -/
def PortRec.emptied (r : PortRec) : PortRec :=
  { r with alloc := .off, request := 0, origin := none, reason := none, clamped := true }

theorem emptyRequest_leaves {wait : Port → Prop} {p : Port} {s : State} (h : ListsBut wait s)
    (outside : (s.alloc p).granted = false) : Leaves p (s.port p).emptied s (emptyRequest p s) :=
  h.leavesQueue outside ⟨⟨fun q => emptyRequest_port p q s⟩, rfl⟩ rfl rfl rfl rfl rfl rfl rfl

namespace Table

theorem emptyRequest {p : Port} {s : State} (h : Table s) (outside : (s.alloc p).granted = false) :
    Table (emptyRequest p s) :=
  h.leave (emptyRequest_leaves h.toListsBut outside) outside rfl

/-- A change of a port's record that keeps its state, with a request above 0 mW for a port of the queue. -/
theorem mapPort {p : Port} {s : State} (h : Table s) {f : PortRec → PortRec} (config : (f (s.port p)).config = s.cfg p)
    (alloc : (f (s.port p)).alloc = s.alloc p) (request : (s.alloc p).queued = true → 0 < (f (s.port p)).request)
    (grant : (s.alloc p).granted = false → (f (s.port p)).grant = (s.port p).grant) : Table (s.mapPort p f) :=
  h.keepsState (mapPort_becomes p f s config) rfl (fun _ => id) alloc (fun queued _ => request queued)
    fun outside empty => (grant outside).trans empty

/-- A change of what the rules of the table do not speak of. -/
theorem mapPort_aside {p : Port} {s : State} (h : Table s) {f : PortRec → PortRec}
    (config : (f (s.port p)).config = s.cfg p) (alloc : (f (s.port p)).alloc = s.alloc p)
    (request : (f (s.port p)).request = (s.port p).request) (grant : (f (s.port p)).grant = (s.port p).grant) :
    Table (s.mapPort p f) :=
  h.mapPort config alloc (fun queued => request ▸ h.requests queued) fun _ => grant

theorem requestOff {p : Port} {s : State} (h : Table s) (off : s.alloc p = .off) (req : Nat) (cut : Bool) (o : Origin) :
    Table (requestOff p req cut o s) := by
  unfold Machine.requestOff
  split
  · exact h.emptyRequest (by rw [off]; rfl)
  · next asked =>
    have stored : Table (s.mapPort p (fun r => { r with request := req, clamped := cut, origin := some o })) :=
      h.mapPort rfl rfl (fun queued => by rw [off] at queued; cases queued) fun _ => rfl
    refine (stored.enterWaiting ?_ ?_).opportunity
    · rw [State.alloc, State.mapPort_port_self]; exact off
    · rw [State.mapPort_port_self]; exact Nat.pos_of_ne_zero asked

theorem requestQueued {p : Port} {s : State} (h : Table s) (queued : (s.alloc p).queued = true) (req : Nat) (cut : Bool)
    (o : Origin) : Table (requestQueued p req cut o s) := by
  unfold Machine.requestQueued
  split
  · exact h.emptyRequest (by simpa using AllocState.not_granted_of_queued queued)
  · next asked => exact (h.mapPort rfl rfl (fun _ => Nat.pos_of_ne_zero asked) fun _ => rfl).opportunity

theorem requestGranted {p : Port} {s : State} (h : Table s) (granted : (s.alloc p).granted = true) (req : Nat) (cut : Bool)
    (o : Origin) : Table (requestGranted p req cut o s) := by
  have taken : Table (s.mapPort p fun r => { r.withGrant req with request := req, clamped := cut, origin := some o }) :=
    h.mapPort rfl rfl (fun queued => absurd granted (AllocState.not_granted_of_queued queued))
      fun outside => by rw [granted] at outside; cases outside
  unfold Machine.requestGranted
  dsimp only
  split
  · exact taken.opportunity
  · split
    · exact taken
    · exact h.mapPort_aside rfl rfl rfl rfl

/-- R70: an accepted request. -/
theorem acceptRequest {s : State} (h : Table s) (p : Port) (asked : Nat) (o : Origin) :
    Table (acceptRequest p asked o s) := by
  unfold Machine.acceptRequest
  dsimp only
  split
  · next e => exact h.requestOff e _ _ _
  · next e => exact h.requestQueued (by rw [e]; rfl) _ _ _
  · next e => exact h.requestQueued (by rw [e]; rfl) _ _ _
  · next e => exact h.requestGranted (by rw [e]; rfl) _ _ _
  · next e => exact h.requestGranted (by rw [e]; rfl) _ _ _
  · next e => exact h.requestGranted (by rw [e]; rfl) _ _ _
  · exact h
  · exact h

/-! ## Releases and faults (R72, R78, R79) -/

end Table

theorem switchOff_keeps_opened (p : Port) {q : Port} {s : State} (opened : (s.switch q).state = .opened) :
    ((switchOff p s).switch q).state = .opened := by
  by_cases own : q = p
  · rw [own]; exact switchOff_opens p s
  · rw [switchOff_other s own]; exact opened

theorem goOff_leaves (p : Port) (s : State) : Leaves p (s.port p).released s (goOff p s) where
  port q := goOff_port p q s
  config := rfl
  out := rfl
  empty := rfl
  opened := switchOff_opens p _
  others _ opened := switchOff_keeps_opened p opened
  queue := by rw [goOff_engine]; rfl
  granted := by rw [goOff_engine]; rfl
  slot0 := by rw [goOff_engine]; rfl
  slot1 := by rw [goOff_engine]; rfl

/-- R78, R79: the record of a port that goes to FAULTED. -/
def PortRec.faulted (r : PortRec) : PortRec :=
  { r with alloc := .faulted, grant := 0, request := 0, reason := none, grace := none, overdraw := 0 }

theorem goFaulted_port (p q : Port) (s : State) :
    (goFaulted p s).port q = if q = p then (s.port p).faulted else s.port q := by
  rw [goFaulted, (switchOff_frame p _).port, State.mapEngine_port, State.mapPort_port]
  rfl

theorem goFaulted_engine (p : Port) (s : State) : (goFaulted p s).engine = s.engine.leaveGranted p :=
  (switchOff_frame p _).engine

theorem goFaulted_leaves {p : Port} {s : State} (queued : p ∉ s.engine.queue) :
    Leaves p (s.port p).faulted s (goFaulted p s) where
  port q := goFaulted_port p q s
  config := rfl
  out := rfl
  empty := rfl
  opened := switchOff_opens p _
  others _ opened := switchOff_keeps_opened p opened
  queue := by rw [goFaulted_engine, without_of_not_mem queued]; rfl
  granted := by rw [goFaulted_engine]; rfl
  slot0 := by rw [goFaulted_engine]; rfl
  slot1 := by rw [goFaulted_engine]; rfl

namespace Table

/-- R72: a release. -/
theorem release {s : State} (h : Table s) (p : Port) : Table (release p s) := by
  unfold Machine.release
  split
  · exact h.leaveWithDependants (goOff_leaves p s) rfl
  · next outside => exact h.leave (goOff_leaves p s) (by simpa using outside) rfl

theorem releaseIfHeld {s : State} (h : Table s) (p : Port) : Table (releaseIfHeld p s) := by
  unfold Machine.releaseIfHeld
  split
  · exact h
  · exact h
  all_goals exact h.release p

/-- R78, R79: a fault. -/
theorem faultPort {p : Port} {s : State} (h : Table s) (granted : (s.alloc p).granted = true) : Table (faultPort p s) :=
  h.leaveWithDependants (goFaulted_leaves (h.notQueued granted)) rfl

/-- R73: a clear. -/
theorem clearFaulted {s : State} (h : Table s) (p : Port) : Table (clearFaulted p s) := by
  unfold Machine.clearFaulted
  split
  · next faulted =>
    have outside : (s.alloc p).granted = false := by rw [faulted]; rfl
    have notQueued : p ∉ s.engine.queue := fun mem => by
      have queued := h.queued_of_mem mem
      rw [faulted] at queued
      cases queued
    have empty := ((h.power p).resolve_left (by simp [outside])).2
    refine h.leave (h.leavesQueue outside (mapPort_becomes p _ s rfl) rfl ?_ rfl ?_ rfl rfl rfl) outside rfl
    · exact empty.symm
    · exact (without_of_not_mem notQueued).symm
  · exact h

/-! ## Reports (R78, R79) -/

theorem takeStartComplete {s : State} (h : Table s) (p : Port) : Table (takeStartComplete p s) := by
  unfold Machine.takeStartComplete
  split
  · next taken => exact h.startCompletes taken.2
  · exact h

theorem takeStartFail {s : State} (h : Table s) (p : Port) : Table (takeStartFail p s) := by
  unfold Machine.takeStartFail
  split
  · next taken => exact h.faultPort (AllocState.granted_of_slotted taken.2)
  · exact h

theorem takeOpened {s : State} (h : Table s) (p : Port) : Table (takeOpened p s) := by
  unfold Machine.takeOpened
  split
  · next taken => exact h.faultPort taken.2
  · exact h

theorem takeTrip {s : State} (h : Table s) (p : Port) (o : TripOutcome) : Table (takeTrip p o s) := by
  cases o
  case opened => exact h.takeOpened p
  all_goals exact h

/-! ## Overdraw (R82, R83) -/

theorem regrant {p : Port} {s : State} (h : Table s) (granted : (s.alloc p).granted = true) (g : Nat) :
    Table (regrant p g s) :=
  h.mapPort rfl rfl (fun queued => absurd granted (AllocState.not_granted_of_queued queued))
    fun outside => by rw [granted] at outside; cases outside

theorem resolveOverdraw {p : Port} {s : State} (h : Table s) (granted : (s.alloc p).granted = true) (power : Nat) :
    Table (resolveOverdraw p power s) := by
  unfold Machine.resolveOverdraw
  dsimp only
  split
  · exact h.regrant granted _
  · split
    · exact (h.regrant granted _).shedCheck 8
    · exact (h.shed .overdraw p).startHold

theorem overdrawSample {s : State} (h : Table s) (p : Port) (power : Nat) : Table (overdrawSample p power s) := by
  unfold Machine.overdrawSample
  split
  · next on =>
    split
    · split
      · exact (h.resolveOverdraw (by rw [on]; rfl) power).mapPort_aside rfl rfl rfl rfl
      · exact h.mapPort_aside rfl rfl rfl rfl
    · exact h.mapPort_aside rfl rfl rfl rfl
  · exact h

/-! ## The events of the selector (R80, R81, R103) -/

/-- A port with a slot that goes to the other state with a slot. -/
theorem slotted {p : Port} {r : PortRec} {s t : State} (h : Table s) (c : PortBecomes p r s t)
    (engine : t.engine = s.engine) (switches : ∀ q, (s.switch q).state = .opened → (t.switch q).state = .opened)
    (before : (s.alloc p).slotted = true) (after : r.alloc.slotted = true) : Table t := by
  have states {a : AllocState} (h : a.slotted = true) : a.granted = true ∧ a.queued = false ∧ a ≠ .shed ∧ a ≠ .on ∧ a ≠ .shedding := by
    rcases AllocState.slotted_iff.1 h with e | e <;> rw [e] <;> exact ⟨rfl, rfl, nofun, nofun, nofun⟩
  obtain ⟨granted, unqueued, notShed, notOn, notShedding⟩ := states before
  obtain ⟨granted', unqueued', -, -, notShedding'⟩ := states after
  refine ⟨h.toTableBut.sameLists (c.sameLists ?_ ?_ ?_ ?_ switches ?_ ?_ ?_ (fun e => absurd e notShed)
    (fun queued => ?_) (fun outside => ?_)) c.cfg, h.up.becomes c (fun _ => .inl granted) (fun e => absurd e notOn)
    ⟨fun e => absurd e notShedding, fun e => absurd e notShedding'⟩⟩
  · rw [engine]
  · rw [engine]
  · rw [engine]
  · rw [engine]
  · rw [granted, granted']
  · rw [before, after]
  · rw [unqueued, unqueued']
  · rw [unqueued] at queued; cases queued
  · rw [granted] at outside; cases outside

end Table

theorem pauseSwitch_keeps_opened (p : Port) {q : Port} {s : State} (opened : (s.switch q).state = .opened) :
    ((pauseSwitch p s).switch q).state = .opened := by
  unfold pauseSwitch
  split
  · next ramping =>
    have ne : q ≠ p := fun e => by rw [← e, opened] at ramping; cases ramping
    rw [State.setSwitch_switch_ne _ _ ne]
    exact opened
  all_goals exact opened

theorem resumeSwitch_keeps_opened (p : Port) {q : Port} {s : State} (opened : (s.switch q).state = .opened) :
    ((resumeSwitch p s).switch q).state = .opened := by
  unfold resumeSwitch
  split
  · next paused =>
    have ne : q ≠ p := fun e => by rw [← e, opened] at paused; cases paused
    split
    · rw [takePowerGood]
      exact (congrArg SwitchRec.state (State.setSwitch_switch_ne _ _ ne)).trans opened
    · rw [State.setSwitch_switch_ne _ _ ne]
      exact opened
  all_goals exact opened

/-- Within a step that drops the granted list port by port, the ports still in it are those of `l`. -/
structure StillGranted (order l : List Port) (s : State) : Prop where
  step : TableStep order s
  nodup : l.Nodup
  states : ∀ q, (s.alloc q).granted = true ↔ q ∈ l

theorem StillGranted.drop {order l : List Port} {p : Port} {s : State} (h : StillGranted order (p :: l) s) (why : ShedReason) :
    StillGranted order l (dropToShed why p s) := by
  obtain ⟨notIn, nodup⟩ := List.nodup_cons.1 h.nodup
  have c := dropToShed_becomes why p s
  refine ⟨(tableStep_stable p why _).drop h.step trivial ((h.states p).2 List.mem_cons_self) (.inl ⟨rfl, rfl⟩), nodup,
    fun q => ?_⟩
  by_cases own : q = p
  · subst own
    rw [c.alloc_self, drop_out]
    simp [notIn]
  · rw [c.alloc_other own, h.states, List.mem_cons]
    simp [own]

namespace Table

theorem holdPort {s : State} (h : Table s) (p : Port) : Table (holdPort p s) := by
  unfold Machine.holdPort
  split
  · next starting =>
    have frame := pauseSwitch_frame p (s.mapPort p (fun r => { r with alloc := .held }))
    have c := (mapPort_becomes p (fun r => { r with alloc := .held }) s rfl).of_ports frame.port
    exact h.slotted c frame.engine (fun q opened => pauseSwitch_keeps_opened p opened) (by rw [starting]; rfl) rfl
  · exact h

theorem resumePort {s : State} (h : Table s) (p : Port) : Table (resumePort p s) := by
  unfold Machine.resumePort
  split
  · next held =>
    have frame := resumeSwitch_frame p (s.mapPort p (fun r => { r with alloc := .starting }))
    have c := (mapPort_becomes p (fun r => { r with alloc := .starting }) s rfl).of_ports frame.port
    exact h.slotted c frame.engine (fun q opened => resumeSwitch_keeps_opened p opened) (by rw [held]; rfl) rfl
  · exact h

theorem beginHold {s : State} (h : Table s) : Table (beginHold s) := by
  unfold Machine.beginHold
  split
  · exact h
  · exact forEach_keeps (I := Table) (fun p _ hu => hu.holdPort p) _ (h.mapEngine rfl rfl rfl rfl)

theorem endHold {s : State} (h : Table s) : Table (endHold s) :=
  (forEach_keeps (I := Table) (fun p _ hu => hu.resumePort p) _ (h.mapEngine rfl rfl rfl rfl)).recompute.opportunity

/-- R103: the whole granted list enters SHED, as one step. -/
theorem dropAll {s : State} (h : Table s) (why : ShedReason) :
    Table (inOneStep (fun s => forEach s.engine.granted.reverse (dropToShed why) s) s) := by
  have start : StillGranted s.engine.granted s.engine.granted.reverse s :=
    ⟨h.stepUp.step, List.nodup_reverse.2 h.grantedNodup, fun q => by rw [List.mem_reverse, h.granted]⟩
  obtain ⟨step, -, none⟩ := forEach_consumes (fun _ _ _ hu => hu.drop why) start
  exact StepUp.requeue ⟨step, fun p q granted _ => absurd ((none p).1 granted) List.not_mem_nil⟩

theorem noSource {s : State} (h : Table s) : Table (noSource s) :=
  ((h.mapEngine rfl rfl rfl rfl : Table (s.mapEngine (fun e => { e with held := false, envelope := 0 }))).dropAll
    .noSource).startHold.opportunity

/-! ## Accessory records (R71) -/

theorem recordRequest {s : State} (h : Table s) (p : Port) (power : Nat) : Table (recordRequest p power s) := by
  unfold Machine.recordRequest
  split
  · exact h
  · split
    · exact h.releaseIfHeld p
    · exact h.acceptRequest p _ _

theorem actOnRecord {s : State} (h : Table s) (p : Port) (r : AccRecord) : Table (actOnRecord p r s) := by
  cases r with
  | announce t w i => exact (h.mapPort_aside rfl rfl rfl rfl).recordRequest p _
  | request w => exact h.recordRequest p _

end Table

end Sys2Proof.Machine
end

section
/-! A switch that is OPEN stays OPEN but for a switch on order (R35, R39 to R53), and PORT_CONFIGURE keeps the allocation
table (R84, R85, R107). -/

namespace Sys2Proof.Machine

/-! ## Switches that stay OPEN -/

/-- No switch leaves OPEN. -/
def KeepsOpened (s t : State) : Prop := ∀ ⦃q⦄, (s.switch q).state = .opened → (t.switch q).state = .opened

namespace KeepsOpened

theorem refl (s : State) : KeepsOpened s s := fun _ => id

theorem trans {s t u : State} (h : KeepsOpened s t) (k : KeepsOpened t u) : KeepsOpened s u := fun _ opened => k (h opened)

theorem of_eq {s t : State} (switches : t.switches = s.switches) : KeepsOpened s t := fun q opened => by
  rw [State.switch, switches]
  exact opened

end KeepsOpened

theorem setSwitch_keepsOpened (p : Port) (w : SwitchRec) (s : State)
    (own : (s.switch p).state = .opened → w.state = .opened) : KeepsOpened s (s.setSwitch p w) := fun q opened => by
  rw [State.setSwitch_switch]
  split
  · next e => exact own (e ▸ opened)
  · exact opened

/-- The switch of the port is not OPEN. -/
abbrev Driven (p : Port) (s : State) : Prop := (s.switch p).state ≠ .opened

section Driven

variable {p : Port} {s : State}

theorem setSwitch_keepsOpened_of_driven (driven : Driven p s) (w : SwitchRec) : KeepsOpened s (s.setSwitch p w) :=
  setSwitch_keepsOpened p w s fun opened => absurd opened driven

theorem faultReport_keepsOpened (driven : Driven p s) (w : SwitchRec) (r : Report) :
    KeepsOpened s (faultReport p w r s) :=
  (setSwitch_keepsOpened_of_driven driven w).trans (.of_eq rfl)

theorem takePowerGood_keepsOpened (driven : Driven p s) : KeepsOpened s (takePowerGood p s) :=
  (setSwitch_keepsOpened_of_driven driven _).trans (.of_eq rfl)

theorem retryTrip_keepsOpened (driven : Driven p s) (k : FaultKind) (len : CoolLength) (counted : Bool) :
    KeepsOpened s (retryTrip p k len counted s) := by
  rw [retryTrip_eq]
  generalize SwitchRec.countRetry _ _ = w
  dsimp only
  split <;> exact faultReport_keepsOpened driven _ _

theorem filteredTripClosed_keepsOpened (driven : Driven p s) : KeepsOpened s (filteredTripClosed p s) := by
  unfold filteredTripClosed
  split
  · exact faultReport_keepsOpened driven _ _
  · exact faultReport_keepsOpened driven _ _
  · exact retryTrip_keepsOpened driven _ _ _
  · exact retryTrip_keepsOpened driven _ _ _

theorem hardTripClosed_keepsOpened (driven : Driven p s) : KeepsOpened s (hardTripClosed p s) := by
  unfold hardTripClosed
  split
  · exact faultReport_keepsOpened driven _ _
  · exact faultReport_keepsOpened driven _ _
  · exact retryTrip_keepsOpened driven _ _ _
  · exact retryTrip_keepsOpened driven _ _ _

theorem widthReached_driven {c : PortConfig} (reached : (s.switch p).widthReached c = true) : Driven p s := fun opened => by
  simp [SwitchRec.widthReached, opened] at reached

end Driven

theorem reconfigureSwitch_keepsOpened (p : Port) (old : PortConfig) (s : State) :
    KeepsOpened s (reconfigureSwitch p old s) := by
  have stored : KeepsOpened s (s.setSwitch p ((s.switch p).reconfigure old (s.cfg p))) :=
    setSwitch_keepsOpened p _ s fun opened => (reconfigure_state _ _ _).trans opened
  unfold reconfigureSwitch
  dsimp only
  split
  · next fires => exact stored.trans (filteredTripClosed_keepsOpened (widthReached_driven fires.2))
  · exact stored

theorem dueReclose_keepsOpened (s : State) : KeepsOpened s (dueReclose s) := fun q opened => by
  have switch : (dueReclose s).switch q = (s.switch q).flagClears := tget_map _ _ _
  simp [switch, SwitchRec.flagClears, opened]

theorem storeSwitch_keepsOpened (p : Port) (c : PortConfig) (s : State) : KeepsOpened s (storeSwitch p c s) :=
  (.of_eq rfl : KeepsOpened s (s.mapPort p (fun r => { r with config := c }))).trans (reconfigureSwitch_keepsOpened p _ _)

theorem storeConfig_keepsOpened (p : Port) (c : PortConfig) (s : State) : KeepsOpened s (storeConfig p c s) :=
  (storeSwitch_keepsOpened p c s).trans (.of_eq (storeConfig_switches p c s))

/-! ## A configuration stored (R84) -/

/-- The record of a port with the configuration `c`, as it is stored. -/
def PortRec.configuredAs (c : PortConfig) (r : PortRec) : PortRec :=
  { r with config := c, identity := if c.lineEnable = false then none else r.identity }

/-- The table after a new configuration of `p` has been stored over `old`, before R85 has taken effect: `p` may stand at
another place in the queue than its key asks for, and under a parent that is not up. -/
structure Reconfigured (p : Port) (old : PortConfig) (s : State) : Prop where
  lists : ListsBut (fun _ => False) s
  acyclic : Acyclic s.parentOf
  others : InKeyOrder s.key (without p s.engine.queue)
  sorted : keyOf old = s.key p → InKeyOrder s.key s.engine.queue
  upBut : EdgesUpBut p s
  up : old.parent = (s.cfg p).parent → EdgesUp s

/-- Keys that agree on the ports of a list give it the same order. -/
theorem InKeyOrder.of_key {key other : Port → Nat} {l : List Port} (h : InKeyOrder key l)
    (same : ∀ q ∈ l, other q = key q) : InKeyOrder other l :=
  h.imp_of_mem fun ha hb le => by rw [same _ ha, same _ hb]; exact le

theorem Table.reconfigured {p : Port} {c : PortConfig} {s : State} (h : Table s)
    (opens : s.parentCloses p c.parent = false) : Reconfigured p (s.cfg p) (storeConfig p c s) := by
  obtain ⟨-, -, engine⟩ := storeConfig_rest p c s
  have one : OnePort p ((s.port p).configuredAs c) s (storeConfig p c s) := ⟨fun q => storeConfig_port p q c s⟩
  have alloc : ∀ q, (storeConfig p c s).alloc q = s.alloc q := fun q => storeConfig_alloc p q c s
  have otherCfg : ∀ q, q ≠ p → (storeConfig p c s).cfg q = s.cfg q := fun q ne => storeConfig_cfg_ne c s ne
  have otherKey : ∀ q, q ≠ p → (storeConfig p c s).key q = s.key q := fun q ne => by
    rw [State.key, otherCfg q ne, State.key]
  have otherParent : ∀ q, q ≠ p → (storeConfig p c s).parentOf q = s.parentOf q := fun q ne => by
    rw [State.parentOf, otherCfg q ne, State.parentOf]
  have ownParent : (storeConfig p c s).parentOf p = c.parent := by rw [State.parentOf, storeConfig_cfg_self]
  have edge {a b : Port} (up : EdgeUp s a b) : EdgeUp (storeConfig p c s) a b := by
    unfold EdgeUp
    rw [alloc, alloc]
    exact up
  refine ⟨h.toListsBut.sameLists (one.sameLists_of_alloc engine (fun q => @storeConfig_keepsOpened p c s q) rfl
    (fun _ => id) fun _ => id), h.acyclic.newParent (p := p) otherParent fun q up => ?_, ?_, fun same => ?_,
    fun a b granted up => ?_, fun same a b granted up => ?_⟩
  · rw [ownParent] at up
    simpa [State.parentCloses, up] using opens
  · rw [engine]
    exact InKeyOrder.of_key (without_sorted p h.sorted) fun q mem => otherKey q (mem_without.1 mem).2
  · rw [engine]
    refine InKeyOrder.of_key h.sorted fun q mem => ?_
    by_cases own : q = p
    · rw [own, ← same, State.key]
    · exact otherKey q own
  · by_cases own : a = p
    · exact .inr own
    · rw [alloc] at granted
      rw [otherParent a own] at up
      exact .inl (edge (h.up granted up))
  · rw [alloc] at granted
    by_cases own : a = p
    · rw [own, ownParent, ← storeConfig_cfg_self p c s, ← same] at up
      rw [own] at granted ⊢
      exact edge (h.up granted up)
    · rw [otherParent a own] at up
      exact edge (h.up granted up)

/-! ## What is applied (R85, R102, R107) -/

theorem EdgesUpBut.becomes {p : Port} {r : PortRec} {s t : State} (h : EdgesUpBut p s) (c : PortBecomes p r s t)
    (on : s.alloc p = .on → r.alloc = .on) (shedding : s.alloc p = .shedding → r.alloc = .shedding) :
    EdgesUpBut p t := by
  intro a b granted up
  by_cases own : a = p
  · exact .inr own
  · rw [c.alloc_other own] at granted
    rw [c.parentOf] at up
    refine (h granted up).imp_left fun edge => ?_
    unfold EdgeUp
    rw [c.alloc_other own]
    by_cases parent : b = p
    · rw [parent] at edge ⊢
      rw [c.alloc_self]
      exact edge.imp on fun both => ⟨shedding both.1, both.2⟩
    · rw [c.alloc_other parent]
      exact edge

namespace Reconfigured

variable {p : Port} {old : PortConfig} {s : State}

theorem keepsState {r : PortRec} {t : State} (h : Reconfigured p old s) (c : PortBecomes p r s t)
    (engine : t.engine = s.engine) (switches : ∀ q, (s.switch q).state = .opened → (t.switch q).state = .opened)
    (alloc : r.alloc = s.alloc p) (request : (s.alloc p).queued = true → 0 < (s.port p).request → 0 < r.request)
    (grant : (s.alloc p).granted = false → (s.port p).grant = 0 → r.grant = 0) : Reconfigured p old t where
  lists := h.lists.sameLists (c.sameLists_of_alloc engine switches alloc request grant)
  acyclic := by rw [c.parentOf]; exact h.acyclic
  others := by rw [c.key, engine]; exact h.others
  sorted := by rw [c.key, engine]; exact h.sorted
  upBut := h.upBut.becomes c (fun e => alloc.trans e) fun e => alloc.trans e
  up := by
    rw [c.cfg]
    exact fun same => (h.up same).becomes c (fun granted => .inl (alloc ▸ granted)) (fun e => alloc.trans e) (by rw [alloc])

theorem opportunity (h : Reconfigured p old s) : Reconfigured p old (opportunity s) where
  lists := h.lists.sameLists (mapEngine_sameLists rfl rfl rfl rfl)
  acyclic := h.acyclic
  others := h.others
  sorted := h.sorted
  upBut := h.upBut
  up := h.up

/-- A port outside the granted list that leaves the queue. -/
theorem leaves {r : PortRec} {t : State} (h : Reconfigured p old s) (outside : (s.alloc p).granted = false)
    (l : Leaves p r s t) (unlisted : r.alloc.queued = false) : Reconfigured p old t where
  lists := h.lists.leaves l fun queued => absurd queued (by simp [unlisted])
  acyclic := by rw [l.parentOf]; exact h.acyclic
  others := by rw [l.key, l.queue]; exact without_sorted p h.others
  sorted _ := by rw [l.key, l.queue]; exact h.others
  upBut := h.upBut.becomes l.toPortBecomes (fun e => by rw [e] at outside; cases outside)
    fun e => by rw [e] at outside; cases outside
  up := by
    rw [l.cfg]
    exact fun same => (h.up same).becomes l.toPortBecomes (fun granted => by rw [l.out] at granted; cases granted)
      (fun e => by rw [e] at outside; cases outside)
      ⟨fun e => (by rw [e] at outside; cases outside), fun e => by have := l.out; rw [e] at this; cases this⟩

/-- R85 step 1. -/
theorem applyCap (h : Reconfigured p old s) : Reconfigured p old (applyCap p s) := by
  unfold Machine.applyCap
  split
  · split
    · next empty =>
      have outside : (s.alloc p).granted = false := by simpa using AllocState.not_granted_of_queued empty.2
      exact h.leaves outside (emptyRequest_leaves h.lists outside) rfl
    · next asks =>
      have cut (g : PortRec → Nat) (own : (s.alloc p).granted = false → g (s.port p) = (s.port p).grant) :
          Reconfigured p old
            (s.mapPort p fun r => { r.withGrant (g r) with request := (s.cfg p).cap, clamped := true }) :=
        h.keepsState (mapPort_becomes p _ s rfl) rfl (fun _ => id) rfl
          (fun queued _ => Nat.pos_of_ne_zero fun zero => asks ⟨zero, queued⟩) fun outside empty => (own outside).trans empty
      dsimp only
      split
      · next lowered =>
        exact (cut (fun _ => (s.cfg p).cap) fun outside => by simp [outside] at lowered).opportunity
      · exact cut PortRec.grant fun _ => rfl
  · exact h

/-- R85 step 2: the queue is in key order again. -/
theorem applyKey (h : Reconfigured p old s) : TableBut (fun _ => False) (applyKey p old s) := by
  unfold Machine.applyKey
  split
  · next moves =>
    have queued := moves.2
    have mem : p ∈ s.engine.queue := (h.lists.mem_of_queued queued).resolve_right And.right
    have perm := insertAfter_perm s.key p (without p s.engine.queue)
    have members : ∀ q, q ∈ insertAfter s.key p (without p s.engine.queue) ↔ q ∈ s.engine.queue := fun q => by
      rw [mem_insertAfter, mem_without]
      constructor
      · rintro (rfl | ⟨mem, -⟩) <;> assumption
      · intro mem
        by_cases own : q = p
        · exact .inl own
        · exact .inr ⟨mem, own⟩
    refine ⟨⟨perm.nodup_iff.2 (List.nodup_cons.2 ⟨fun out => (mem_without.1 out).2 rfl, without_nodup p h.lists.queueNodup⟩),
      h.lists.grantedNodup, fun {q} mem => h.lists.queued_of_mem ((members q).1 mem), fun {q} queued => ?_, h.lists.granted,
      h.lists.slots, h.lists.requests, h.lists.power⟩, insertAfter_inKeyOrder p h.others, h.acyclic⟩
    exact (h.lists.mem_of_queued queued).imp_left (members q).2
  · next stays =>
    refine ⟨h.lists, ?_, h.acyclic⟩
    by_cases same : keyOf old = s.key p
    · exact h.sorted same
    · have out : p ∉ s.engine.queue := fun mem => stays ⟨same, h.lists.queued_of_mem mem⟩
      rw [← without_of_not_mem out]
      exact h.others

end Reconfigured

/-- R107: the effect of the new parent. -/
theorem TableBut.applyParent {p : Port} {old : PortConfig} {s : State} (h : TableBut (fun _ => False) s)
    (upBut : EdgesUpBut p s) (up : old.parent = (s.cfg p).parent → EdgesUp s) : Table (applyParent p old s) := by
  have step : TableStep s.engine.granted s :=
    ⟨{ h with mem_of_queued := fun queued => (h.mem_of_queued queued).imp_right fun none => none.2.elim }, fun _ => id⟩
  /- Where the parent of `p` is up, so are all. -/
  have settled (own : ∀ q, (s.alloc p).granted = true → s.parentOf p = some q → EdgeUp s p q) : Table s :=
    ⟨h, fun a b granted parent => (upBut granted parent).elim id fun e => by
      subst e
      exact own b granted parent⟩
  unfold Machine.applyParent
  split
  · next moved =>
    split
    · next root =>
      exact settled fun q _ parent => by rw [State.parentOf, root] at parent; cases parent
    · next q parent =>
      have above {why : ShedReason} (shedding : s.alloc q = .shedding) : Table (Machine.shed why p s) :=
        (step.shedOrder upBut (fun x up => by
          rw [State.parentOf, parent] at up
          cases up
          exact .inr shedding) why).requeue
      have dropped : Table (inOneStep (Machine.dropTree .dependency p) s) := (step.dropTree upBut moved.2 _).requeue
      split
      · next on =>
        exact settled fun x _ up => by
          rw [State.parentOf, parent] at up
          cases up
          exact .inl on
      · next shedding => exact above shedding
      all_goals exact dropped
  · next stays =>
    by_cases granted : (s.alloc p).granted = true
    · exact ⟨h, up (by_contra fun moved => stays ⟨moved, granted⟩)⟩
    · exact settled fun _ isGranted => absurd isGranted granted

theorem EdgesUp.of_ports {s t : State} (h : EdgesUp s) (ports : t.ports = s.ports) : EdgesUp t := by
  simp only [EdgesUp, EdgeUp, State.alloc, State.parentOf, State.cfg, State.port, ports] at h ⊢
  exact h

theorem EdgesUpBut.of_ports {p : Port} {s t : State} (h : EdgesUpBut p s) (ports : t.ports = s.ports) : EdgesUpBut p t := by
  simp only [EdgesUpBut, EdgeUp, State.alloc, State.parentOf, State.cfg, State.port, ports] at h ⊢
  exact h

/-- R84, R85: an accepted PORT_CONFIGURE. -/
theorem Table.configure {p : Port} {c : PortConfig} {s : State} (h : Table s)
    (opens : s.parentCloses p c.parent = false) : Table (applyConfig p (s.cfg p) (storeConfig p c s)) := by
  have cut := (h.reconfigured opens).applyCap
  have ports := applyKey_ports p (s.cfg p) (applyCap p (storeConfig p c s))
  have cfg : (applyKey p (s.cfg p) (applyCap p (storeConfig p c s))).cfg p = (applyCap p (storeConfig p c s)).cfg p := by
    rw [State.cfg, State.port, ports, State.cfg, State.port]
  refine ((cut.applyKey.applyParent (cut.upBut.of_ports ports) fun same => ?_).shedCheck 8).opportunity
  exact (cut.up (by rw [← cfg]; exact same)).of_ports ports

end Sys2Proof.Machine
end

section
/-! The changes of mode, the end of INIT and the resets keep the allocation table (R88, R89, R108, R113, R118, R183). -/

namespace Sys2Proof.Machine

/-! ## Operations outside the table -/

/-- Ports, lists and mode are as they were, and no switch leaves OPEN. -/
structure Untouched (s t : State) : Prop where
  ports : t.ports = s.ports
  engine : t.engine = s.engine
  mode : t.mode = s.mode
  opened : KeepsOpened s t

namespace Untouched

theorem refl (s : State) : Untouched s s := ⟨rfl, rfl, rfl, .refl s⟩

theorem trans {s t u : State} (h : Untouched s t) (k : Untouched t u) : Untouched s u :=
  ⟨k.ports.trans h.ports, k.engine.trans h.engine, k.mode.trans h.mode, h.opened.trans k.opened⟩

theorem of_eq {s t : State} (ports : t.ports = s.ports) (engine : t.engine = s.engine) (mode : t.mode = s.mode)
    (switches : t.switches = s.switches) : Untouched s t := ⟨ports, engine, mode, .of_eq switches⟩

theorem table {s t : State} (h : Untouched s t) (table : Table s) : Table t :=
  table.of_eq h.ports (by rw [h.engine]) (by rw [h.engine]) (by rw [h.engine]) (by rw [h.engine]) fun _ opened =>
    h.opened opened

theorem alloc {s t : State} (h : Untouched s t) (p : Port) : t.alloc p = s.alloc p := by
  rw [State.alloc, State.port, h.ports, State.alloc, State.port]

theorem offInInit {s t : State} (h : Untouched s t) (off : OffInInit s) : OffInInit t := fun init p => by
  rw [h.alloc]
  exact off (h.mode ▸ init) p

end Untouched

theorem NoticeFrame.untouched {s t : State} (h : NoticeFrame s t) : Untouched s t :=
  .of_eq h.ports h.engine h.mode h.switches

theorem LineFrame.untouched {s t : State} (h : LineFrame s t) : Untouched s t :=
  .of_eq h.ports h.engine h.mode h.switches

theorem SelectorFrame.untouched {s t : State} (h : SelectorFrame s t) : Untouched s t :=
  .of_eq h.ports h.engine h.mode h.switches

theorem SwitchFrame.untouched {s t : State} (h : SwitchFrame s t) (opened : KeepsOpened s t) : Untouched s t :=
  ⟨h.ports, h.engine, h.mode, opened⟩

theorem forEach_untouched {α : Type} {f : α → State → State} (h : ∀ x s, Untouched s (f x s)) (l : List α) (s : State) :
    Untouched s (forEach l f s) := forEach_rel .refl .trans h l s

/-! ## Changes of mode (R118, R119) -/

theorem turnRailsOn_untouched (s : State) : Untouched s (turnRailsOn s) := by
  refine (.of_eq rfl rfl rfl rfl : Untouched s { s with rails := true, linesOn := true }).trans
    (forEach_untouched (fun p u => ?_) _ _)
  split
  · exact (turnOnLine_frame p u).untouched
  · exact .refl u

theorem Table.enterMode {s : State} (h : Table s) (dst : Mode) : Table (enterMode dst s) :=
  (postNotice_frame _ _).untouched.table (h.of_eq rfl rfl rfl rfl rfl fun _ => id : Table { s with mode := dst })

theorem Table.powerUpMode {s : State} (h : Table s) (dst : Mode) : Table (powerUpMode dst s) := by
  unfold Machine.powerUpMode
  split
  · exact h
  · split
    · exact h.opportunity
    · exact ((turnRailsOn_untouched s).table h).opportunity

theorem enterMode_mode (dst : Mode) (s : State) : (enterMode dst s).mode = dst := (postNotice_frame _ _).mode

/-- R118: an accepted change of mode. -/
theorem changeMode_consistent {dst : Mode} {s : State} (h : Table s) (target : dst ≠ .init) :
    AllocationConsistent (changeMode dst s) := by
  have mode : (powerUpMode dst (inOneStep (fun s' => forEach (s.modeAffected dst).reverse (shedOrder 8 .mode) s')
      (enterMode dst s))).mode = dst := by
    rw [(powerUpMode_frame dst _).mode, (modeShed_frame _ _).mode, enterMode_mode]
  have table := ((h.enterMode dst).shedAll .mode (s.modeAffected dst).reverse).powerUpMode dst
  unfold changeMode
  dsimp only
  refine finish_consistent s table fun init => ?_
  rw [mode] at init
  exact absurd init target

theorem targetMode_ne_init {x : Nat} {m : Mode} (h : targetModeOfCode x = some m) : m ≠ .init := by
  rintro rfl
  unfold targetModeOfCode at h
  split at h <;> cases h

/-! ## Every port OFF (R88) -/

/-- Every port is OFF, with no list, no slot and no power. -/
structure AllOff (s : State) : Prop where
  off : ∀ p, s.alloc p = .off
  grant : ∀ p, (s.port p).grant = 0
  opened : ∀ p, (s.switch p).state = .opened
  queue : s.engine.queue = []
  granted : s.engine.granted = []
  slot0 : s.engine.slot0 = none
  slot1 : s.engine.slot1 = none

theorem AllOff.table {s : State} (h : AllOff s) (acyclic : Acyclic s.parentOf) : Table s := by
  refine ⟨⟨⟨by rw [h.queue]; exact .nil, by rw [h.granted]; exact .nil, fun mem => ?_, fun queued => ?_, fun p => ?_,
    ⟨fun p => ?_, .inl h.slot0⟩, fun queued => ?_, fun p => .inr ⟨h.opened p, h.grant p⟩⟩, by rw [h.queue]; exact .nil,
    acyclic⟩, fun p q granted => ?_⟩
  · rw [h.queue] at mem; cases mem
  · rw [h.off] at queued; cases queued
  · rw [h.granted, h.off]; exact iff_of_false List.not_mem_nil nofun
  · rw [h.slot0, h.slot1, h.off]; exact iff_of_false (fun held => held.elim nofun nofun) nofun
  · rw [h.off] at queued; cases queued
  · rw [h.off] at granted; cases granted

theorem Table.allOff {s : State} (h : Table s) (off : ∀ p, s.alloc p = .off) : AllOff s where
  off := off
  grant p := ((h.power p).resolve_left (by rw [off]; nofun)).2
  opened p := ((h.power p).resolve_left (by rw [off]; nofun)).1
  queue := List.eq_nil_iff_forall_not_mem.2 fun p mem => by
    have queued := h.queued_of_mem mem
    rw [off] at queued
    cases queued
  granted := List.eq_nil_iff_forall_not_mem.2 fun p mem => by
    rw [h.granted, off] at mem
    cases mem
  slot0 := Option.eq_none_iff_forall_ne_some.2 fun p held => by
    have slotted := (h.slots.1 p).1 (.inl held)
    rw [off] at slotted
    cases slotted
  slot1 := Option.eq_none_iff_forall_ne_some.2 fun p held => by
    have slotted := (h.slots.1 p).1 (.inr held)
    rw [off] at slotted
    cases slotted

/-- States, grants and lists as they were, with no switch driven. -/
theorem AllOff.of_eq {s t : State} (h : AllOff s) (alloc : ∀ q, t.alloc q = s.alloc q)
    (grant : ∀ q, (t.port q).grant = (s.port q).grant) (queue : t.engine.queue = s.engine.queue)
    (granted : t.engine.granted = s.engine.granted) (slot0 : t.engine.slot0 = s.engine.slot0)
    (slot1 : t.engine.slot1 = s.engine.slot1) (opened : KeepsOpened s t) : AllOff t where
  off p := (alloc p).trans (h.off p)
  grant p := (grant p).trans (h.grant p)
  opened p := opened (h.opened p)
  queue := queue.trans h.queue
  granted := granted.trans h.granted
  slot0 := slot0.trans h.slot0
  slot1 := slot1.trans h.slot1

theorem Untouched.allOff {s t : State} (k : Untouched s t) (h : AllOff s) : AllOff t :=
  h.of_eq k.alloc (fun q => by rw [State.port, k.ports, State.port]) (by rw [k.engine]) (by rw [k.engine]) (by rw [k.engine])
    (by rw [k.engine]) k.opened

/-! ## The profiles loaded (R17, R18, R57, R108) -/

theorem firstOver_untouched (x : Source) (s : State) : Untouched s (firstOver x s) := by
  unfold firstOver
  split
  · exact (changeSource_frame x _ s).untouched
  · exact .refl s

theorem loadSelector_untouched (x : SystemProfile) (s : State) : Untouched s (loadSelector x s) := by
  unfold loadSelector
  split
  · have stored : Untouched s { s with sel := { s.sel with settings := x.settings } } := .of_eq rfl rfl rfl rfl
    exact ((stored.trans (forEach_untouched (fun i u => (setSource_frame i _ u).untouched) _ _)).trans
      (forEach_untouched (fun i u => (applyEnable_frame i _ u).untouched) _ _)).trans (evaluate_frame _).untouched
  · have stored : Untouched s { s with sel := { s.sel with settings := x.settings, loaded := true } } :=
      .of_eq rfl rfl rfl rfl
    exact ((stored.trans (forEach_untouched (fun i u => (setSource_frame i _ u).untouched) _ _)).trans
      (forEach_untouched firstOver_untouched _ _)).trans (evaluate_frame _).untouched

theorem chooseGain_untouched (p : Port) (s : State) : Untouched s (chooseGain p s) := by
  rw [chooseGain_only]
  exact .of_eq rfl rfl rfl rfl

theorem AllOff.loadPort {s : State} (h : AllOff s) (p : Port) : AllOff (loadPort p s) := by
  have port := fun q => storeSwitch_port p q (loadedPort p (tget s.store.slots (portSlot p))) s
  have stored : AllOff (storeSwitch p (loadedPort p (tget s.store.slots (portSlot p))) s) := by
    have engine := storeSwitch_engine p (loadedPort p (tget s.store.slots (portSlot p))) s
    refine h.of_eq (fun q => ?_) (fun q => ?_) (by rw [engine]) (by rw [engine]) (by rw [engine]) (by rw [engine])
      (storeSwitch_keepsOpened p _ s)
    · rw [State.alloc, port]; split
      · next own => rw [own]; rfl
      · rfl
    · rw [port]; split
      · next own => rw [own]
      · rfl
  exact (setLineRate_frame p _ _).untouched.allOff ((chooseGain_untouched p _).allOff stored)

theorem AllOff.loadSettings {s : State} (h : AllOff s) (x : SystemProfile) : AllOff (loadSettings x s) :=
  h.of_eq (fun _ => rfl) (fun _ => rfl) rfl rfl rfl rfl (.of_eq rfl)

theorem AllOff.breakCycle {s : State} (h : AllOff s) (p : Port) : AllOff (breakCycle p s) := by
  unfold Machine.breakCycle
  split
  · refine h.of_eq (fun q => ?_) (fun q => ?_) rfl rfl rfl rfl (.of_eq rfl)
    · rw [State.alloc, State.mapPort_port]; split
      · next own => rw [own]; rfl
      · rfl
    · rw [State.mapPort_port]; split
      · next own => rw [own]
      · rfl
  · exact h

/-! ## The cold start (R89) -/

/-- Shedding leaves every port OFF. -/
theorem off_stable : ShedStable (fun s => ∀ p, s.alloc p = .off) where
  drop granted h := by rw [h] at granted; cases granted
  enqueue _ h := h
  grace on h := by rw [h] at on; cases on
  modeReason shedding h := by rw [h] at shedding; cases shedding
  hold h := h
  mark h := h

theorem cancelWalk_off (l : List Port) {s : State} (off : ∀ p, s.alloc p = .off) : cancelWalk l s = s := by
  induction l with
  | nil => rfl
  | cons p l ih =>
    unfold cancelWalk
    rw [if_neg fun h => by rw [off] at h; cases h.1]
    exact ih

theorem recompute_off {s : State} (off : ∀ p, s.alloc p = .off) (p : Port) : (recompute s).alloc p = .off := by
  have checked : ∀ p, (shedCheck 8 (storeEnvelope s)).alloc p = .off :=
    off_stable.shedCheck 8 (s := storeEnvelope s) off
  unfold recompute afterRecompute
  dsimp only
  split
  · rw [cancelWalk_off _ checked]
    exact checked p
  · exact checked p

theorem Table.coldStartPort {p : Port} {s : State} (h : Table s) (off : s.alloc p = .off) : Table (coldStartPort p s) := by
  unfold Machine.coldStartPort
  dsimp only
  split
  · exact h
  · next asked =>
    have stored : Table (s.mapPort p fun r =>
        { r with
          request := cutTo (s.cfg p).cap (tget s.store.coldStart p), origin := some .profile,
          clamped := overCap r.config.cap (tget s.store.coldStart p) }) :=
      h.mapPort rfl rfl (fun queued => by rw [off] at queued; cases queued) fun _ => rfl
    refine stored.enterWaiting ?_ ?_
    · rw [State.alloc, State.mapPort_port_self]; exact off
    · rw [State.mapPort_port_self]; exact Nat.pos_of_ne_zero asked

theorem coldStartPort_alloc_ne {p q : Port} (ne : q ≠ p) (s : State) : (coldStartPort p s).alloc q = s.alloc q := by
  unfold coldStartPort
  dsimp only
  split
  · rfl
  · rw [enterWaiting, State.mapEngine_alloc]
    simp only [State.alloc, State.mapPort_port_ne _ _ ne]

/-- The ports still to be started are OFF. -/
structure StillOff (l : List Port) (s : State) : Prop where
  table : Table s
  nodup : l.Nodup
  off : ∀ q ∈ l, s.alloc q = .off

theorem StillOff.coldStart {l : List Port} {p : Port} {s : State} (h : StillOff (p :: l) s) :
    StillOff l (coldStartPort p s) := by
  obtain ⟨notIn, nodup⟩ := List.nodup_cons.1 h.nodup
  refine ⟨h.table.coldStartPort (h.off p List.mem_cons_self), nodup, fun q mem => ?_⟩
  rw [coldStartPort_alloc_ne fun e : q = p => notIn (e ▸ mem)]
  exact h.off q (List.mem_cons_of_mem p mem)

theorem Table.prepareEngine {s : State} (h : Table s) (off : ∀ p, s.alloc p = .off) : Table (prepareEngine s) := by
  have first : Table (firstEnvelope s) ∧ ∀ p, (firstEnvelope s).alloc p = .off := by
    unfold firstEnvelope
    split
    · exact ⟨h.mapEngine rfl rfl rfl rfl, off⟩
    · exact ⟨h.recompute, recompute_off off⟩
  have started := forEach_consumes (I := StillOff) (fun _ _ _ hu => hu.coldStart)
    (⟨first.1, by decide, fun q _ => first.2 q⟩ : StillOff allPorts (firstEnvelope s))
  refine (forEach_untouched (fun p u => ?_) _ _).table started.table
  split
  · exact (postNotice_frame _ u).untouched
  · exact .refl u

/-- R113: the profiles taken at the end of INIT. -/
theorem Table.applyProfiles {s : State} (h : Table s) (off : ∀ p, s.alloc p = .off) : Table (applyProfiles s) := by
  generalize sys : loadedSystem (tget s.store.slots 8) = x
  have loaded : AllOff (forEach allPorts loadPort (loadSelector x s)) :=
    forEach_keeps (I := AllOff) (fun p _ hu => hu.loadPort p) allPorts ((loadSelector_untouched x s).allOff (h.allOff off))
  have stored : AllOff (loadSettings x (forEach allPorts loadPort (loadSelector x s))) :=
    loaded.loadSettings x
  have broken : AllOff (forEach allPorts breakCycle (loadSettings x (forEach allPorts loadPort (loadSelector x s)))) :=
    forEach_keeps (I := AllOff) (fun p _ hu => hu.breakCycle p) allPorts stored
  unfold Machine.applyProfiles
  dsimp only
  rw [sys]
  exact (broken.table (breakCycles_acyclic _)).prepareEngine broken.off

/-- R113 steps 2 and 3: the mode leaves INIT, and the rails come up in RUN. -/
def raised (s : State) : State :=
  let s1 := { s with mode := s.targetMode, initByLink := false }
  if s.targetMode = .run then opportunity (turnRailsOn s1) else s1

theorem leaveInit_eq (s : State) : leaveInit s = postNotice (.mode (raised s).mode (raised s).rails .resetEnd) (raised s) :=
  rfl

theorem raised_mode (s : State) : (raised s).mode = s.targetMode := by
  unfold raised
  dsimp only
  split
  · rw [(opportunity_frame _).mode, (turnRailsOn_frame _).mode]
  · rfl

theorem Table.raised {s : State} (h : Table s) : Table (raised s) := by
  have left : Table { s with mode := s.targetMode, initByLink := false } := h.of_eq rfl rfl rfl rfl rfl fun _ => id
  unfold Machine.raised
  dsimp only
  split
  · exact ((turnRailsOn_untouched _).table left).opportunity
  · exact left

theorem Table.leaveInit {s : State} (h : Table s) : Table (leaveInit s) := by
  rw [leaveInit_eq]
  exact (postNotice_frame _ _).untouched.table h.raised

theorem leaveInit_mode (s : State) : (leaveInit s).mode = s.targetMode := by
  rw [leaveInit_eq, (postNotice_frame _ _).mode, raised_mode]

theorem State.targetMode_ne_init (s : State) : s.targetMode ≠ .init := by
  unfold State.targetMode
  split
  · nofun
  · split <;> nofun

/-- R113: the end of INIT. -/
theorem endInit_consistent {s : State} (h : Table s) (off : ∀ p, s.alloc p = .off) : AllocationConsistent (endInit s) := by
  have mode := leaveInit_mode (applyProfiles s)
  have table := (h.applyProfiles off).leaveInit
  unfold endInit
  refine finish_consistent s table fun init => ?_
  rw [mode] at init
  exact absurd init (State.targetMode_ne_init _)

/-! ## The resets (R88, R112, R183) -/

theorem AllOff.consistent {s : State} (h : AllOff s) (acyclic : Acyclic s.parentOf) (idle : s.engine.opportunity = false) :
    AllocationConsistent s :=
  ⟨(tableConsistent_iff s).2 ⟨h.table acyclic, fun _ => h.off⟩, idle⟩

theorem hardReset_consistent (lock : Bool) (s : State) : AllocationConsistent (hardReset lock s) := by
  have table := ((tableConsistent_iff _).1 reset_allocationConsistent.1).1
  have off := table.allOff reset_alloc
  refine AllOff.consistent ⟨off.off, off.grant, fun p => ?_, rfl, rfl, rfl, rfl⟩ table.acyclic rfl
  rw [hardReset_switch]
  rfl

theorem linkReset_port (p : Port) (s : State) : (linkReset s).port p = resetPort (s.cfg p) := tget_map _ _ _

theorem linkReset_consistent {s : State} (acyclic : Acyclic s.parentOf) : AllocationConsistent (linkReset s) := by
  refine AllOff.consistent ⟨fun p => ?_, fun p => ?_, fun p => ?_, rfl, rfl, rfl, rfl⟩ ?_ rfl
  · rw [State.alloc, linkReset_port]; rfl
  · rw [linkReset_port]; rfl
  · have switch : (linkReset s).switch p = (s.switch p).atReset := tget_map _ _ _
    rw [switch]
    rfl
  · have cfg : ∀ p, (linkReset s).cfg p = s.cfg p := fun p => by rw [State.cfg, linkReset_port]; rfl
    rw [parentOf_of_cfg cfg]
    exact acyclic

end Sys2Proof.Machine
end

section
/-! Every step keeps the allocation table (O53): the commands one by one, and a microsecond. -/

namespace Sys2Proof.Machine

/-- An operation keeps the table between handlings. -/
def AllocKept (s t : State) : Prop := AllocationConsistent s → AllocationConsistent t

namespace AllocKept

theorem refl (s : State) : AllocKept s s := id

theorem trans {s t u : State} (h : AllocKept s t) (k : AllocKept t u) : AllocKept s u := k ∘ h

end AllocKept

theorem Untouched.allocKept {s t : State} (h : Untouched s t) : AllocKept s t := fun ⟨table, idle⟩ => by
  obtain ⟨table, off⟩ := (tableConsistent_iff s).1 table
  exact ⟨(tableConsistent_iff t).2 ⟨h.table table, h.offInInit off⟩, by rw [h.engine]; exact idle⟩

/-- A row that does nothing that the table speaks of. -/
theorem allocKept_of_eq {s t : State} (ports : t.ports = s.ports) (engine : t.engine = s.engine) (mode : t.mode = s.mode)
    (switches : t.switches = s.switches) : AllocKept s t := (Untouched.of_eq ports engine mode switches).allocKept

/-! ## Handlings of the engine -/

theorem Table.mode_ne_init {s : State} (off : OffInInit s) {p : Port} (granted : (s.alloc p).granted = true) :
    s.mode ≠ .init := fun init => by
  rw [off init p] at granted
  cases granted

/-- A handling out of INIT, of an operation that keeps the mode and the table. -/
theorem handled {f : State → State} (s0 : State) {s : State} (frame : EngineFrame s (f s)) (out : s.mode ≠ .init)
    (kept : Table s → Table (f s)) : AllocKept s (finish s0 (f s)) := fun h => by
  obtain ⟨table, -⟩ := (tableConsistent_iff s).1 h.1
  refine finish_consistent s0 (kept table) fun init => absurd ?_ out
  rw [← frame.mode]
  exact init

/-- A handling that changes nothing of the ports. -/
theorem handled_idle (s0 : State) {s t : State} (ports : t.ports = s.ports) (mode : t.mode = s.mode)
    (kept : Table s → Table t) : AllocKept s (finish s0 t) := fun h => by
  obtain ⟨table, off⟩ := (tableConsistent_iff s).1 h.1
  refine finish_consistent s0 (kept table) fun init p => ?_
  rw [State.alloc, State.port, ports]
  exact off (mode ▸ init) p

theorem takeEvent_allocKept (e : SelEvent) {f : State → State} (frame : ∀ s, EngineFrame s (f s))
    (kept : ∀ {s}, Table s → Table (f s)) (s : State) : AllocKept s (takeEvent e f s) := by
  unfold takeEvent
  split
  · exact .refl s
  · split
    · next rest _ taken =>
      exact (allocKept_of_eq rfl rfl rfl rfl : AllocKept s { s with selEvents := rest }).trans
        (handled _ (frame _) taken.2.1 kept)
    · exact .refl s

/-- R78, R79: a report taken. In INIT no port is in the granted list, and it changes nothing. -/
theorem takeReport_allocKept (p : Port) (rest : List Report) {f : State → State} (frame : ∀ s, EngineFrame s (f s))
    (kept : ∀ {s}, Table s → Table (f s)) (idle : ∀ {s}, (s.alloc p).granted = false → f s = s) (s : State) :
    AllocKept s (takeReport p rest f s) := by
  have handling (u : State) : AllocKept u (finish u (f u)) := by
    intro h
    cases granted : (u.alloc p).granted with
    | false =>
      rw [idle granted]
      exact handled_idle u rfl rfl id h
    | true =>
      obtain ⟨-, off⟩ := (tableConsistent_iff u).1 h.1
      exact handled u (frame u) (Table.mode_ne_init off granted) kept h
  exact (allocKept_of_eq rfl rfl rfl rfl : AllocKept s (s.setReports p rest)).trans (handling _)

theorem takeStartComplete_idle {p : Port} {s : State} (outside : (s.alloc p).granted = false) :
    takeStartComplete p s = s := if_neg fun taken => by
  rw [AllocState.not_slotted outside] at taken
  cases taken.2

theorem takeStartFail_idle {p : Port} {s : State} (outside : (s.alloc p).granted = false) : takeStartFail p s = s :=
  if_neg fun taken => by
    rw [AllocState.not_slotted outside] at taken
    cases taken.2

theorem takeOpened_idle {p : Port} {s : State} (outside : (s.alloc p).granted = false) : takeOpened p s = s :=
  if_neg fun taken => by
    rw [outside] at taken
    cases taken.2

theorem takeTrip_idle {p : Port} (o : TripOutcome) {s : State} (outside : (s.alloc p).granted = false) :
    takeTrip p o s = s := by
  cases o
  case opened => exact takeOpened_idle outside
  all_goals rfl

theorem takeRecord_allocKept (p : Port) (r : AccRecord) (s : State) : AllocKept s (takeRecord p r s) := by
  unfold takeRecord
  split
  · split
    · next arrives =>
      refine handled s (actOnRecord_frame p r s) (fun init => ?_) fun h => h.actOnRecord p r
      simp [State.recordsArrive, init] at arrives
    · exact .refl s
  · split
    · next rest _ taken =>
      exact (allocKept_of_eq rfl rfl rfl rfl : AllocKept s (s.setRecords p rest)).trans
        (handled _ (actOnRecord_frame p r _) taken.2 fun h => h.actOnRecord p r)
    · split
      · exact allocKept_of_eq rfl rfl rfl rfl
      · exact .refl s

theorem engineSample_allocKept (ch : SenseChannel) (s : State) : AllocKept s (engineSample ch s) := by
  unfold engineSample
  split
  · split
    · next taken => exact handled s (overdrawSample_frame _ _ s) taken.2.2 fun h => h.overdrawSample _ _
    · exact .refl s
  · split
    · next taken =>
      refine handled s (recompute_frame s).toEngineFrame (fun init => ?_) Table.recompute
      simp [State.recomputes, init] at taken
    · exact .refl s

theorem selectorPart_allocKept (ch : SenseChannel) (s : State) : AllocKept s (selectorPart ch s) :=
  (selectorPart_frame ch s).untouched.allocKept

theorem takeSample_allocKept (ch : SenseChannel) (selectorFirst : Bool) (s : State) :
    AllocKept s (takeSample ch selectorFirst s) := by
  unfold takeSample
  split
  · exact (selectorPart_allocKept ch s).trans (engineSample_allocKept ch _)
  · exact (engineSample_allocKept ch s).trans (selectorPart_allocKept ch _)

theorem execGraceExpiry_allocKept {p : Port} {s t : State} (h : execGraceExpiry p s = .next t) : AllocKept s t := by
  cases h
  split
  · next expired =>
    have granted : (s.alloc p).granted = true := by rw [expired.1]; rfl
    intro h
    obtain ⟨-, off⟩ := (tableConsistent_iff s).1 h.1
    exact handled s (inOneStep_frame (dropTree_frame _ p) s).toEngineFrame (Table.mode_ne_init off granted)
      (fun h => h.dropTree granted _) h
  · exact .refl s

theorem execRestoreHoldExpiry_allocKept {s t : State} (h : execRestoreHoldExpiry s = .next t) : AllocKept s t := by
  cases h
  split
  · exact handled_idle s rfl rfl fun h => (h.mapEngine rfl rfl rfl rfl).opportunity
  · exact .refl s

/-! ## The events of a switch (R39 to R49) -/

theorem execPowerGood_keepsOpened {p : Port} {s t : State} (h : execPowerGood p s = .next t) : KeepsOpened s t := by
  cases h
  split
  · next e => exact takePowerGood_keepsOpened (by rw [Driven, e]; nofun)
  · next e => exact setSwitch_keepsOpened_of_driven (by rw [Driven, e]; nofun) _
  · next e => exact setSwitch_keepsOpened_of_driven (by rw [Driven, e]; nofun) _
  all_goals exact .refl s

theorem execStartTimeout_keepsOpened {p : Port} {s t : State} (h : execStartTimeout p s = .next t) :
    KeepsOpened s t := by
  cases h
  split
  · next e =>
    split
    · exact faultReport_keepsOpened (by rw [Driven, e]; nofun) _ _
    · exact .refl s
  all_goals exact .refl s

theorem execHardTrip_keepsOpened {p : Port} {s t : State} (h : execHardTrip p s = .next t) : KeepsOpened s t := by
  cases h
  split
  · next e => exact faultReport_keepsOpened (by rw [Driven, e]; nofun) _ _
  · next e => exact faultReport_keepsOpened (by rw [Driven, e]; nofun) _ _
  · next e => exact hardTripClosed_keepsOpened (by rw [Driven, e]; nofun)
  · next e => exact retryTrip_keepsOpened (by rw [Driven, e]; nofun) _ _ _
  all_goals exact .refl s

theorem execTripComparatorReleases_keepsOpened {p : Port} {s t : State}
    (h : execTripComparatorReleases p s = .next t) : KeepsOpened s t := by
  cases h
  split <;> exact setSwitch_keepsOpened p _ s id

theorem execFilteredTrip_keepsOpened {p : Port} {s t : State} (h : execFilteredTrip p s = .next t) :
    KeepsOpened s t := by
  cases h
  split
  · next fires =>
    rw [Bool.and_eq_true] at fires
    exact filteredTripClosed_keepsOpened (widthReached_driven fires.2)
  · exact .refl s

theorem execCoolingExpiry_keepsOpened {p : Port} {s t : State} (h : execCoolingExpiry p s = .next t) :
    KeepsOpened s t := by
  cases h
  split
  · next e => exact setSwitch_keepsOpened_of_driven (by rw [Driven, e]; nofun) _
  all_goals exact .refl s

theorem execRecloseTimeout_keepsOpened {p : Port} {s t : State} (h : execRecloseTimeout p s = .next t) :
    KeepsOpened s t := by
  cases h
  split
  · next e => exact retryTrip_keepsOpened (by rw [Driven, e]; nofun) _ _ _
  all_goals exact .refl s

theorem execCleanRun_keepsOpened {p : Port} {s t : State} (h : execCleanRun p s = .next t) : KeepsOpened s t := by
  cases h
  split
  · split
    · exact setSwitch_keepsOpened p _ s id
    · exact .refl s
  all_goals exact .refl s

/-! ## Completions, characters and the end of a changeover -/

theorem completeSample_untouched (ch : SenseChannel) (code : BitVec 12) (g : Option Gain) (s : State) :
    Untouched s (completeSample ch code g s) := by
  have recorded : Untouched s (recordSample ch code g s) := .of_eq rfl rfl rfl rfl
  rw [completeSample_eq]
  refine recorded.trans ?_
  unfold rechooseGain
  split
  · exact .refl _
  · split
    · exact chooseGain_untouched _ _
    · exact .refl _

theorem receiveChar_untouched (p : Port) (x : LineSamples) (s : State) : Untouched s (receiveChar p x s) := by
  have effect : ∀ (e : LineEffect) (u : State), Untouched u (applyLineEffect p e u) := by
    intro e u
    cases e with
    | none => exact .refl u
    | handOver r => exact .of_eq rfl rfl rfl rfl
    | deposit body noise =>
      simp only [applyLineEffect, poolArrive]
      repeat' split
      all_goals exact .of_eq rfl rfl rfl rfl
  exact ((setLine_frame p _ s).trans (idleAfterChar_frame p x _)).untouched.trans (effect _ _)

theorem dueReclose_untouched (s : State) : Untouched s (dueReclose s) :=
  (dueReclose_frame s).untouched (dueReclose_keepsOpened s)

theorem targetClosed_untouched (t : Source) (s : State) : Untouched s (targetClosed t s) := by
  have driven : Untouched s (((driveSel t true s).setActive (some t)).setChangeover none) :=
    (((driveSel_frame t true s).trans (setActive_frame _ _)).trans (setChangeover_frame _ _)).untouched
  exact ((driven.trans (dueReclose_untouched _)).trans (sendEvent_frame _ _).untouched).trans
    ((postSourceState_frame t _).trans (postActive_frame _ _)).untouched

theorem failChangeover_untouched (s : State) : Untouched s (failChangeover s) := by
  have left : Untouched s ((s.setActive none).setChangeover none) :=
    ((setActive_frame none s).trans (setChangeover_frame none _)).untouched
  exact (left.trans (dueReclose_untouched _)).trans ((sendEvent_frame _ _).trans (postActive_frame _ _)).untouched

/-- R13: the end of a changeover moves the switches in DUE and the selector. -/
theorem finishChangeover_untouched (t : Source) (s : State) : Untouched s (finishChangeover t s) := by
  unfold finishChangeover
  split
  · rw [closeChangeover_eq]
    exact (targetClosed_untouched t s).trans (evaluate_frame _).untouched
  · split
    · exact (setChangeover_frame _ s).untouched
    · exact failChangeover_untouched s

theorem execChangeoverEnd_untouched {s t : State} (h : execChangeoverEnd s = .next t) : Untouched s t := by
  cases h
  split
  · exact .refl s
  · split
    · exact finishChangeover_untouched _ s
    · exact .refl s

/-- R3: a comparator level taken, and the move it brings about. -/
theorem setComparator_untouched (x : Source) (b : Bool) (moves : Prop) [Decidable moves] (st : SourceState)
    (s : State) :
    Untouched s
      (if moves then changeSource x st (s.setSource x { s.source x with comparator := b })
        else s.setSource x { s.source x with comparator := b }) := by
  have level := setSource_frame x { s.source x with comparator := b } s
  split
  · exact (level.trans (changeSource_frame x st _)).untouched
  · exact level.untouched

/-! ## The commands of the host -/

theorem reply_untouched (c : Command) (tag : Byte) (r : Result) (fields : List Byte) (s : State) :
    Untouched s (reply c tag r fields s) := .of_eq rfl rfl rfl rfl

/-- A command that ends in a reply. -/
theorem AllocKept.replied {s t : State} (h : AllocKept s t) (c : Command) (tag : Byte) (r : Result)
    (fields : List Byte) : AllocKept s (reply c tag r fields t) := h.trans (reply_untouched c tag r fields t).allocKept

theorem clearFaults_untouched (p : Port) (s : State) : Untouched s (clearFaults p s) :=
  (clearFaults_frame p s).untouched fun q opened => by
    rw [clearFaults_switch]
    split
    · next own => rw [← own]; exact opened
    · exact opened

section Commands

variable {s : State} (out : s.mode ≠ .init)

include out

theorem configureFor_allocKept (p : Port) (tag : Byte) (b : List Byte) : AllocKept s (configureFor p tag b s) := by
  unfold configureFor
  dsimp only
  repeat' split
  case isFalse.isFalse.isFalse opens =>
    refine AllocKept.replied (fun h => ?_) _ _ _ _
    obtain ⟨table, -⟩ := (tableConsistent_iff s).1 h.1
    refine finish_consistent s (table.configure (by simpa using opens)) fun init => absurd ?_ out
    obtain ⟨-, mode, -⟩ := storeConfig_rest p (readPortFields (factoryPort p) b) s
    rw [← mode, ← (applyConfig_frame p _ _).mode]
    exact init
  all_goals exact (AllocKept.refl s).replied _ _ _ _

theorem requestFor_allocKept (p : Port) (tag : Byte) (asked : Nat) : AllocKept s (requestFor p tag asked s) := by
  unfold requestFor replyRequest
  dsimp only
  repeat' split
  case isFalse.isFalse.isFalse =>
    exact (handled s (acceptRequest_frame p asked .link s) out fun h => h.acceptRequest p asked .link).replied _ _ _ _
  all_goals exact (AllocKept.refl s).replied _ _ _ _

theorem releaseFor_allocKept (p : Port) (tag : Byte) : AllocKept s (releaseFor p tag s) := by
  unfold releaseFor
  repeat' split
  case isFalse.isFalse =>
    exact (handled s (releaseIfHeld_frame p s) out fun h => h.releaseIfHeld p).replied _ _ _ _
  all_goals exact (AllocKept.refl s).replied _ _ _ _

theorem clearFor_allocKept (p : Port) (tag : Byte) : AllocKept s (clearFor p tag s) := by
  unfold clearFor
  split
  · exact (AllocKept.refl s).replied _ _ _ _
  · exact (handled (f := fun s => clearFaulted p (clearFaults p s)) s
      ((clearFaults_frame p s).toEngineFrame.trans (clearFaulted_frame p _)) out
      fun h => ((clearFaults_untouched p s).table h).clearFaulted p).replied _ _ _ _

theorem setEnvelope_allocKept (tag : Byte) (pl : List Byte) : AllocKept s (doSetEnvelope tag pl s) := by
  unfold doSetEnvelope
  split
  · exact (AllocKept.refl s).replied _ _ _ _
  · exact (handled (f := fun s => recomputeUnlessHeld (storeAllocSettings pl s)) s
      ((mapEngine_frame _ s).trans (recomputeUnlessHeld_frame _).toEngineFrame) out
      fun h => (h.mapEngine rfl rfl rfl rfl : Table (storeAllocSettings pl s)).recomputeUnlessHeld).replied _ _ _ _

end Commands

theorem setMode_allocKept (tag : Byte) (pl : List Byte) (s : State) : AllocKept s (doSetMode tag pl s) := by
  unfold doSetMode replyMode
  split
  · exact (AllocKept.refl s).replied _ _ _ _
  · next dst target =>
    repeat' split
    case isFalse.isFalse =>
      refine AllocKept.replied (fun h => ?_) _ _ _ _
      exact changeMode_consistent ((tableConsistent_iff s).1 h.1).1 (targetMode_ne_init target)
    all_goals exact (AllocKept.refl s).replied _ _ _ _

theorem configureSource_untouched (x : Source) (pl : List Byte) (s : State) : Untouched s (configureSource x pl s) := by
  have stored : Untouched s (storeSourceSettings x (readSourceFields (s.source x).config (pl.drop 1))
      (readSettings (pl.drop 8)) s) :=
    .of_eq rfl rfl rfl rfl
  exact (stored.trans (applyEnable_frame x _ _).untouched).trans (evaluate_frame _).untouched

theorem relayCancel_untouched (tag : Byte) (pl : List Byte) (s : State) : Untouched s (doRelayCancel tag pl s) := by
  have replied {t : State} (h : Untouched s t) (r : Result) (fields : List Byte) :
      Untouched s (reply .relayCancel tag r fields t) := h.trans (reply_untouched _ _ _ _ _)
  unfold doRelayCancel cancelSend
  repeat' split
  · exact replied (.refl s) _ _
  · exact replied (.refl s) _ _
  · exact replied ((leaveLine_frame _ _ s).trans (cancelRest_frame _ _ _)).untouched _ _
  · exact replied (setChannel_frame _ _ s).untouched _ _

theorem relaySend_untouched (tag : Byte) (pl : List Byte) (s : State) : Untouched s (doRelaySend tag pl s) := by
  unfold doRelaySend
  split
  · exact reply_untouched _ _ _ _ s
  · exact reply_untouched _ _ _ _ s
  · exact (.of_eq rfl rfl rfl rfl : Untouched s (reservePlace s)).trans (reachNext_frame _ _ _ _).untouched

/-- R174: what the commands do to the table. Those of the link, the relay pool and the profile store have no part in it. -/
theorem carryOut_allocKept (c : Command) (tag : Byte) (pl : List Byte) {s : State} (out : s.mode ≠ .init) :
    AllocKept s (carryOut c tag pl s) := by
  have refused : ∀ (c : Command) (r : Result) (fields : List Byte), AllocKept s (reply c tag r fields s) :=
    fun c r fields => (reply_untouched c tag r fields s).allocKept
  cases c <;> simp only [carryOut]
  case portConfigure =>
    unfold doPortConfigure
    split
    · exact refused _ _ _
    · exact configureFor_allocKept out _ tag _
  case portRequest =>
    unfold doPortRequest
    split
    · exact refused _ _ _
    · exact requestFor_allocKept out _ tag _
  case portRelease =>
    unfold doPortRelease
    split
    · exact refused _ _ _
    · exact releaseFor_allocKept out _ tag
  case portClear =>
    unfold doPortClear
    split
    · exact refused _ _ _
    · exact clearFor_allocKept out _ tag
  case setEnvelope => exact setEnvelope_allocKept out tag pl
  case setMode => exact setMode_allocKept tag pl s
  case sourceConfigure =>
    unfold doSourceConfigure
    repeat' split
    case h_2.isFalse.isFalse => exact (configureSource_untouched _ pl s).allocKept.replied _ _ _ _
    all_goals exact refused _ _ _
  case relaySend => exact (relaySend_untouched tag pl s).allocKept
  case relayCancel => exact (relayCancel_untouched tag pl s).allocKept
  case relayFetch | lineReset | linkSet | noticeConfig | noticeFetch | reset | measure | portQuery | profileRead
      | profileWrite | profileProtect =>
    simp only [doRelayFetch, fetchAny, fetchPort, fetchRecord, doLineReset, doLinkSet, doNoticeConfig, doNoticeFetch,
      doReset, doMeasure, doPortQuery, doProfileRead, doProfileWrite, writePayload, writeLive, doProfileProtect,
      protectSession, protectMap]
    repeat' split
    all_goals exact allocKept_of_eq rfl rfl rfl rfl
  all_goals exact allocKept_of_eq rfl rfl rfl rfl

theorem setLink_allocKept (l : Link) (s : State) : AllocKept s (s.setLink l) := allocKept_of_eq rfl rfl rfl rfl

/-- R174: in INIT the decoder answers BUSY. -/
theorem decodeFrame_allocKept (f : Frame) (s : State) : AllocKept s (decodeFrame f s) := by
  unfold decodeFrame decodeListed
  split
  · exact allocKept_of_eq rfl rfl rfl rfl
  · next out =>
    repeat' split
    case h_2.isFalse.isFalse => exact (carryOut_allocKept _ _ _ out).trans (setLink_allocKept _ _)
    all_goals exact allocKept_of_eq rfl rfl rfl rfl

theorem handGoodFrame_allocKept (f : Frame) (s : State) : AllocKept s (handGoodFrame f s) := by
  unfold handGoodFrame
  repeat' split
  all_goals exact allocKept_of_eq rfl rfl rfl rfl

theorem takeHead_allocKept (s : State) : AllocKept s (takeHead s) := by
  unfold takeHead
  split
  · exact .refl s
  · split
    · next f rest _ _ =>
      exact ((setLink_allocKept _ s).trans (decodeFrame_allocKept f _)).trans (setLink_allocKept _ _)
    · exact .refl s

theorem offerFrame_allocKept (f : Frame) (s : State) : AllocKept s (offerFrame f s) := by
  unfold offerFrame
  repeat' split
  · exact .refl s
  · exact (handGoodFrame_allocKept f s).trans (takeHead_allocKept _)
  · exact takeHead_allocKept s
  · exact handGoodFrame_allocKept f s

/-- R171 to R173: a received character may hand over a frame. -/
theorem receiveLinkChar_allocKept (x : LinkSamples) (s : State) : AllocKept s (receiveLinkChar x s) := by
  have framed : ∀ b u, AllocKept u (frameByte b u) := by
    intro b u
    unfold frameByte completeFrame
    dsimp only
    repeat' split
    case isFalse.isTrue.isTrue => exact (setLink_allocKept u.link.hunt u).trans (handGoodFrame_allocKept _ _)
    all_goals exact setLink_allocKept _ u
  have taken : ∀ d u, AllocKept u (linkByte d u) := by
    intro d u
    unfold linkByte
    split
    · split <;> exact allocKept_of_eq rfl rfl rfl rfl
    · exact framed _ u
  unfold receiveLinkChar
  dsimp only
  split
  · exact (setLink_allocKept { s.link with charInProgress := false } s).trans (taken _ _)
  · exact allocKept_of_eq rfl rfl rfl rfl

/-! ## The commands one by one -/

theorem execFrameEnd_allocKept {s t : State} (h : execFrameEnd s = .next t) : AllocKept s t := by
  cases h
  split
  · exact .refl s
  · split
    · exact fun h => linkReset_consistent ((tableConsistent_iff s).1 h.1).1.acyclic
    · exact setLink_allocKept _ s

theorem setLink_allocKept_of_cond (b : Prop) [Decidable b] (l : Link) (s : State) :
    AllocKept s (if b then s.setLink l else s) := by
  split
  · exact setLink_allocKept l s
  · exact .refl s

theorem setLink_allocKept_unless (b : Prop) [Decidable b] (l : Link) (s : State) :
    AllocKept s (if b then s else s.setLink l) := by
  split
  · exact .refl s
  · exact setLink_allocKept l s

/-- R60 to R107: every command keeps the allocation table. -/
theorem exec_allocKept {i : Instr} {s t : State} (h : exec i s = .next t) : AllocKept s t := by
  cases i with
  | por => cases h; exact fun _ => hardReset_consistent _ s
  | pinReset => cases h; exact fun _ => hardReset_consistent _ s
  | loadingComplete =>
    cases h
    split
    · next loads =>
      intro h
      obtain ⟨table, off⟩ := (tableConsistent_iff s).1 h.1
      exact endInit_consistent table (off loads.1)
    · exact .refl s
  | lockChange low => cases h; exact allocKept_of_eq rfl rfl rfl rfl
  | resetRelease => cases h; exact allocKept_of_eq rfl rfl rfl rfl
  | sampleCompletion ch code selectorFirst =>
    cases h
    split
    · exact .refl s
    · exact (completeSample_untouched ch code _ s).allocKept.trans (takeSample_allocKept ch selectorFirst _)
  | conversionStart ch =>
    cases h
    split
    · exact allocKept_of_eq rfl rfl rfl rfl
    · exact .refl s
  | qualifyExpiry x =>
    cases h
    split
    · exact (changeSource_frame x _ s).untouched.allocKept
    · exact .refl s
  | comparatorAsserts x => cases h; exact (setComparator_untouched x true _ .over s).allocKept
  | comparatorReleases x => cases h; exact (setComparator_untouched x false _ .qualifying s).allocKept
  | changeoverEnd => exact (execChangeoverEnd_untouched h).allocKept
  | changeoverBeginEvent => cases h; exact takeEvent_allocKept _ beginHold_frame Table.beginHold s
  | changeoverEndEvent => cases h; exact takeEvent_allocKept _ endHold_frame Table.endHold s
  | noSourceEvent => cases h; exact takeEvent_allocKept _ noSource_frame Table.noSource s
  | graceExpiry p => exact execGraceExpiry_allocKept h
  | restoreHoldExpiry => exact execRestoreHoldExpiry_allocKept h
  | powerGood p => exact ((execPowerGood_frame h).untouched (execPowerGood_keepsOpened h)).allocKept
  | startTimeout p => exact ((execStartTimeout_frame h).untouched (execStartTimeout_keepsOpened h)).allocKept
  | hardTrip p => exact ((execHardTrip_frame h).untouched (execHardTrip_keepsOpened h)).allocKept
  | tripComparatorAsserts p =>
    cases h
    refine ((setSwitch_frame p _ s).untouched (setSwitch_keepsOpened p _ s ?_)).allocKept
    exact id
  | tripComparatorReleases p =>
    exact ((execTripComparatorReleases_frame h).untouched (execTripComparatorReleases_keepsOpened h)).allocKept
  | filteredTrip p => exact ((execFilteredTrip_frame h).untouched (execFilteredTrip_keepsOpened h)).allocKept
  | coolingExpiry p => exact ((execCoolingExpiry_frame h).untouched (execCoolingExpiry_keepsOpened h)).allocKept
  | recloseTimeout p => exact ((execRecloseTimeout_frame h).untouched (execRecloseTimeout_keepsOpened h)).allocKept
  | cleanRun p => exact ((execCleanRun_frame h).untouched (execCleanRun_keepsOpened h)).allocKept
  | startComplete p =>
    cases h
    split
    · exact takeReport_allocKept p _ (takeStartComplete_frame p) (fun h => h.takeStartComplete p) takeStartComplete_idle s
    all_goals exact .refl s
  | startFail p =>
    cases h
    split
    · exact takeReport_allocKept p _ (takeStartFail_frame p) (fun h => h.takeStartFail p) takeStartFail_idle s
    all_goals exact .refl s
  | trip p =>
    cases h
    split
    · exact takeReport_allocKept p _ (takeTrip_frame p _) (fun h => h.takeTrip p _) (takeTrip_idle _) s
    all_goals exact .refl s
  | retryLimit p =>
    cases h
    split
    · exact takeReport_allocKept p _ (takeOpened_frame p) (fun h => h.takeOpened p) takeOpened_idle s
    all_goals exact .refl s
  | announce p typeCode power identity => cases h; exact takeRecord_allocKept p _ s
  | request p power => cases h; exact takeRecord_allocKept p _ s
  | characterReceived p x =>
    cases h
    split
    · exact (receiveChar_untouched p x s).allocKept
    · exact .refl s
  | lineValidStart p => exact (execLineValidStart_frame h).untouched.allocKept
  | lineGapExpiry p => exact (execLineGapExpiry_frame h).untouched.allocKept
  | lineBreak p => exact (execLineBreak_frame h).untouched.allocKept
  | pendingRateInForce p => exact (execPendingRateInForce_frame h).untouched.allocKept
  | breakEnd p => exact (execBreakEnd_frame h).untouched.allocKept
  | recordStart p => exact (execRecordStart_frame h).untouched.allocKept
  | recordSent p => exact (execRecordSent_frame h).untouched.allocKept
  | collision p => exact (execCollision_frame h).untouched.allocKept
  | backoffStart p => exact (execBackoffStart_frame h).untouched.allocKept
  | backoffExpiry p => exact (execBackoffExpiry_frame h).untouched.allocKept
  | channelWaitExpiry c => exact (execChannelWaitExpiry_frame h).untouched.allocKept
  | writeComplete =>
    cases h
    repeat' split
    all_goals exact allocKept_of_eq rfl rfl rfl rfl
  | protectionWriteComplete =>
    cases h
    repeat' split
    all_goals exact allocKept_of_eq rfl rfl rfl rfl
  | linkCharacterReceived x =>
    cases h
    split
    · exact receiveLinkChar_allocKept x s
    · exact .refl s
  | linkValidStart => cases h; exact setLink_allocKept_unless _ _ s
  | linkGapExpiry => cases h; exact setLink_allocKept_of_cond _ _ s
  | linkBreak => cases h; exact setLink_allocKept_of_cond _ _ s
  | frameBegin => cases h; exact setLink_allocKept_unless _ _ s
  | receiverRateChange => cases h; exact setLink_allocKept_unless _ _ s
  | frameEnd => exact execFrameEnd_allocKept h
  | _ => cases h; exact offerFrame_allocKept _ s

/-! ## A microsecond -/

theorem tick_parts {s : State} (running : s.resetHeld = false) :
    (∀ q, (tick s).port q = tickPort (s.port q)) ∧ (∀ q, (tick s).switch q = tickSwitch (s.switch q)) ∧
      (tick s).engine = tickEngine s.engine ∧ (tick s).mode = s.mode := by
  rw [tick, if_neg (by simp [running])]
  exact ⟨fun q => tget_map _ _ q, fun q => tget_map _ _ q, rfl, rfl⟩

/-- R93, R101: a microsecond moves the timers of the engine and no port. -/
theorem tick_allocKept (s : State) : AllocKept s (tick s) := by
  cases running : s.resetHeld with
  | true =>
    rw [tick, if_pos running]
    exact .refl s
  | false =>
    rintro ⟨table, idle⟩
    obtain ⟨table, off⟩ := (tableConsistent_iff s).1 table
    obtain ⟨port, switch, engine, mode⟩ := tick_parts running
    have alloc : ∀ q, (tick s).alloc q = s.alloc q := fun q => by rw [State.alloc, port]; rfl
    have same : SameLists s (tick s) := by
      refine ⟨by rw [engine]; rfl, by rw [engine]; rfl, by rw [engine]; rfl, by rw [engine]; rfl, fun q => by rw [alloc],
        fun q => by rw [alloc], fun q => by rw [alloc], fun q e => (alloc q).trans e, fun q _ asked => ?_,
        fun q _ power => ⟨?_, ?_⟩⟩
      · rw [port]; exact asked
      · rw [switch, tickSwitch, power.1]; rfl
      · rw [port]; exact power.2
    have cfg : ∀ q, (tick s).cfg q = s.cfg q := fun q => by rw [State.cfg, port]; rfl
    refine ⟨(tableConsistent_iff _).2 ⟨table.sameLists same cfg (fun q e => (alloc q).trans e) fun q => by rw [alloc],
      fun init q => ?_⟩, by rw [engine]; exact idle⟩
    rw [alloc]
    exact off (mode ▸ init) q

end Sys2Proof.Machine

open Sys2Proof Sys2Proof.Machine

/-- Settles O53: a step is a microsecond or a command. -/
theorem stepKeepsAllocationConsistent : Obligations.StepKeepsAllocationConsistent := by
  intro s t consistent stepped
  unfold step at stepped
  split at stepped
  · cases stepped
    exact tick_allocKept s consistent
  · next i rest _ =>
    have taken : AllocKept s { s with pending := rest } := allocKept_of_eq rfl rfl rfl rfl
    exact exec_allocKept stepped (taken consistent)

end

section
/-! Reports taken from the inbox of their switch, and the statement on start completes and stale reports (O22). -/

namespace Sys2Proof.Machine

section Reports

variable {p : Port} {rest : List Report} {s : State}

theorem exec_startComplete (head : s.reportsOf p = .startComplete :: rest) :
    exec (.startComplete p) s = .next (takeReport p rest (takeStartComplete p) s) := by
  simp only [exec, execStartComplete, head]

theorem exec_startFail {c : StartFailCause} (head : s.reportsOf p = .startFail c :: rest) :
    exec (.startFail p) s = .next (takeReport p rest (takeStartFail p) s) := by
  simp only [exec, execStartFail, head]

theorem exec_trip {k : FaultKind} {o : TripOutcome} (head : s.reportsOf p = .trip k o :: rest) :
    exec (.trip p) s = .next (takeReport p rest (takeTrip p o) s) := by
  simp only [exec, execTrip, head]

theorem exec_retryLimit (head : s.reportsOf p = .retryLimit :: rest) :
    exec (.retryLimit p) s = .next (takeReport p rest (takeOpened p) s) := by
  simp only [exec, execRetryLimit, head]

/-- R52: a report that changes nothing in the engine is taken all the same. -/
theorem takeReport_stale {f : State → State} (stale : f (s.setReports p rest) = s.setReports p rest) :
    takeReport p rest f s = finish (s.setReports p rest) (s.setReports p rest) := by
  rw [takeReport, stale]

end Reports

theorem SwitchState.started_iff (x : SwitchState) : x.started = true ↔ x.code = 3 ∨ x.code = 4 := by
  cases x <;> simp [SwitchState.started, SwitchState.code]

theorem SwitchState.code_lt_iff (x : SwitchState) : x.code < 3 ↔ x.started = false := by
  cases x <;> simp [SwitchState.started, SwitchState.code]

theorem SwitchState.isOpen_iff (x : SwitchState) : x.isOpen = true ↔ x = .opened := by
  cases x <;> simp [SwitchState.isOpen]

/-! ## Reports that are stale (R78, R79) -/

section Stale

variable {p : Port} {s : State}

theorem takeStartComplete_stale (stale : (s.switch p).state.code < 3 ∨ (s.alloc p).slotted = false) :
    takeStartComplete p s = s := by
  refine if_neg fun ⟨started, slotted⟩ => ?_
  rcases stale with h | h
  · rw [(SwitchState.code_lt_iff _).1 h] at started; cases started
  · rw [h] at slotted; cases slotted

theorem takeStartFail_stale (stale : (s.switch p).state ≠ .opened ∨ (s.alloc p).slotted = false) :
    takeStartFail p s = s := by
  refine if_neg fun ⟨opened, slotted⟩ => ?_
  rcases stale with h | h
  · exact h ((SwitchState.isOpen_iff _).1 opened)
  · rw [h] at slotted; cases slotted

theorem takeOpened_stale (stale : (s.switch p).state ≠ .opened ∨ (s.alloc p).granted = false) : takeOpened p s = s := by
  refine if_neg fun ⟨opened, granted⟩ => ?_
  rcases stale with h | h
  · exact h ((SwitchState.isOpen_iff _).1 opened)
  · rw [h] at granted; cases granted

/-- R79: a trip that the switch holds or that it cools from is none of the engine's. -/
theorem takeTrip_of_kept {o : TripOutcome} (kept : o ≠ .opened) : takeTrip p o s = s := by
  cases o
  case opened => exact absurd rfl kept
  all_goals rfl

end Stale

end Sys2Proof.Machine

open Sys2Proof Sys2Proof.Machine

/-- Settles O22, report by report. -/
theorem startCompleteTurnsThePortOn : Obligations.StartCompleteTurnsThePortOn := by
  intro p rest s
  refine ⟨fun head started slot => ?_, fun i stale => ?_⟩
  · have takes : (s.switch p).state.started = true ∧ (s.alloc p).slotted = true :=
      ⟨(SwitchState.started_iff _).2 started, AllocState.slotted_iff.2 slot⟩
    rw [exec_startComplete head, takeReport]
    dsimp only
    rw [show takeStartComplete p (s.setReports p rest) = startCompletes p (s.setReports p rest) from if_pos takes]
    rfl
  · rcases stale with ⟨head, rfl, h⟩ | ⟨⟨c, head⟩, rfl, h⟩ | ⟨⟨k, head⟩, rfl, h⟩ | ⟨⟨k, o, head, kept⟩, rfl⟩ | ⟨head, rfl, h⟩
    · rw [exec_startComplete head, takeReport_stale (takeStartComplete_stale h)]
      rfl
    · rw [exec_startFail head, takeReport_stale (takeStartFail_stale h)]
      rfl
    · rw [exec_trip head, takeReport_stale (f := takeTrip p .opened) (takeOpened_stale h)]
      rfl
    · rw [exec_trip head, takeReport_stale (takeTrip_of_kept kept)]
      rfl
    · rw [exec_retryLimit head, takeReport_stale (takeOpened_stale h)]
      rfl

end

section
/-! PORT_REQUEST: Table 4-8 state by state, and the statement on its refusals and effects (O28). -/

namespace Sys2Proof.Machine

/-! ## An accepted request, by the state of its port (R70, R102) -/

section Accepted

variable {p : Port} {asked : Nat} {o : Origin} {s : State}

/-- R69, R70: the record of a port that takes the whole of a request. -/
def PortRec.asks (req : Nat) (cut : Bool) (o : Origin) (r : PortRec) : PortRec :=
  { r with request := req, clamped := cut, origin := some o }

theorem acceptRequest_off (off : s.alloc p = .off) (some : cutTo (s.cfg p).cap asked ≠ 0) :
    acceptRequest p asked o s =
      { s with
        ports :=
          tput s.ports p
            { (s.port p).asks (cutTo (s.cfg p).cap asked) (overCap (s.cfg p).cap asked) o with alloc := .waiting }
        engine := { s.engine with queue := insertAfter s.key p s.engine.queue, opportunity := true } } := by
  have key : (s.mapPort p
      (fun r => r.asks (cutTo (s.cfg p).cap asked) (overCap (s.cfg p).cap asked) o)).key = s.key :=
    key_of_cfg (mapPort_becomes p _ s rfl).cfg
  have enters : acceptRequest p asked o s = opportunity (enterWaiting p (s.mapPort p
      (fun r => r.asks (cutTo (s.cfg p).cap asked) (overCap (s.cfg p).cap asked) o))) := by
    simp only [acceptRequest, off, requestOff, if_neg some]
    rfl
  rw [enters, enterWaiting, key]
  simp only [State.mapPort, State.setPort, State.port, tget_tput_self, tput_tput]
  rfl

theorem acceptRequest_queued (queued : s.alloc p = .waiting ∨ s.alloc p = .shed) (some : cutTo (s.cfg p).cap asked ≠ 0) :
    acceptRequest p asked o s =
      { s with
        ports := tput s.ports p ((s.port p).asks (cutTo (s.cfg p).cap asked) (overCap (s.cfg p).cap asked) o)
        engine := { s.engine with opportunity := true } } := by
  rcases queued with e | e <;> simp only [acceptRequest, e, requestQueued, if_neg some] <;> rfl

/-- R102: a request cut to 0 mW empties the port's place. -/
theorem acceptRequest_empty (out : s.alloc p = .off ∨ s.alloc p = .waiting ∨ s.alloc p = .shed)
    (none : cutTo (s.cfg p).cap asked = 0) :
    acceptRequest p asked o s =
      { s with
        ports := tput s.ports p (s.port p).emptied
        engine := { s.engine with queue := without p s.engine.queue, opportunity := true } } := by
  rcases out with e | e | e <;> simp only [acceptRequest, e, requestOff, requestQueued, if_pos none] <;> rfl

theorem acceptRequest_granted (granted : s.alloc p = .starting ∨ s.alloc p = .held ∨ s.alloc p = .on) :
    acceptRequest p asked o s =
      requestGranted p (cutTo (s.cfg p).cap asked) (overCap (s.cfg p).cap asked) o s := by
  rcases granted with e | e | e <;> simp only [acceptRequest, e]

/-- R70: a lower grant gives an opportunity. -/
theorem requestGranted_less {req : Nat} {cut : Bool} (less : req < (s.port p).grant) :
    requestGranted p req cut o s =
      { s with
        ports := tput s.ports p { (s.port p).asks req cut o with grant := req, overdraw := 0 }
        engine := { s.engine with opportunity := true } } := by
  rw [requestGranted]
  dsimp only
  rw [if_pos less]
  simp only [State.mapPort, PortRec.withGrant, if_neg less.ne]
  rfl

theorem requestGranted_same {req : Nat} {cut : Bool} (same : req = (s.port p).grant) :
    requestGranted p req cut o s = { s with ports := tput s.ports p ((s.port p).asks req cut o) } := by
  rw [requestGranted]
  dsimp only
  rw [if_neg (by omega), if_pos (.inl same)]
  simp only [State.mapPort, PortRec.withGrant, same]
  rfl

theorem roomFor_iff {req : Nat} :
    s.roomFor p req = true ↔ s.committed + (req - (s.port p).grant) ≤ s.engine.envelope := by
  simp [State.roomFor]

theorem requestGranted_more {req : Nat} {cut : Bool} (more : (s.port p).grant < req)
    (room : s.committed + (req - (s.port p).grant) ≤ s.engine.envelope) :
    requestGranted p req cut o s =
      { s with ports := tput s.ports p { (s.port p).asks req cut o with grant := req, overdraw := 0 } } := by
  rw [requestGranted]
  dsimp only
  rw [if_neg (by omega), if_pos (.inr (roomFor_iff.2 room))]
  simp only [State.mapPort, PortRec.withGrant, if_neg more.ne']
  rfl

theorem requestGranted_noRoom {req : Nat} {cut : Bool} (more : (s.port p).grant < req)
    (full : s.engine.envelope < s.committed + (req - (s.port p).grant)) :
    requestGranted p req cut o s = { s with ports := tput s.ports p { s.port p with origin := some o } } := by
  have noRoom : ¬s.roomFor p req = true := fun room => by
    have := roomFor_iff.1 room
    omega
  rw [requestGranted]
  dsimp only
  rw [if_neg (by omega), if_neg fun h => h.elim more.ne' noRoom]
  rfl

end Accepted

/-! ## The result code (Table 4-8) -/

section Results

variable {p : Port} {asked : Nat} {before after : State}

theorem requestResult_empty (outside : (before.alloc p).granted = false) (none : cutTo (before.cfg p).cap asked = 0) :
    requestResult p asked before after = .okClamped := by simp [requestResult, outside, none]

theorem requestResult_off (off : before.alloc p = .off) (some : cutTo (before.cfg p).cap asked ≠ 0) :
    requestResult p asked before after =
      if (after.alloc p).granted = true then okOr (overCap (before.cfg p).cap asked) else .queued := by
  have outside : (before.alloc p).granted = false := by rw [off]; rfl
  rw [requestResult, if_neg (by simp [outside]), if_neg some]
  simp only [off, true_and]

theorem requestResult_queued (queued : before.alloc p = .waiting ∨ before.alloc p = .shed)
    (some : cutTo (before.cfg p).cap asked ≠ 0) : requestResult p asked before after = .queued := by
  rcases queued with e | e <;> simp [requestResult, e, some, AllocState.granted]

theorem requestResult_granted (granted : (before.alloc p).granted = true)
    (fits : cutTo (before.cfg p).cap asked ≤ (before.port p).grant ∨
      before.roomFor p (cutTo (before.cfg p).cap asked) = true) :
    requestResult p asked before after = okOr (overCap (before.cfg p).cap asked) := by
  rw [requestResult, if_pos granted, if_pos fits]

theorem requestResult_noRoom (granted : (before.alloc p).granted = true)
    (more : (before.port p).grant < cutTo (before.cfg p).cap asked)
    (full : ¬before.roomFor p (cutTo (before.cfg p).cap asked) = true) :
    requestResult p asked before after = .noHeadroom := by
  rw [requestResult, if_pos granted, if_neg fun h => h.elim more.not_ge full]

end Results

/-! ## The command -/

theorem doPortRequest_eq {p : Port} {pl : List Byte} (tag : Byte) (s : State) (port : byteAt pl 0 = p.val) :
    doPortRequest tag pl s = requestFor p tag (fieldAt pl 1 4) s := by
  rw [doPortRequest, port, portOfCode_val]

theorem portRequest_answered {p : Port} {tag : Byte} {pl : List Byte} {r : Result} {s t : State} (free : DecoderFree s)
    (length : pl.length = 5) (port : byteAt pl 0 = p.val)
    (carried : requestFor p tag (fieldAt pl 1 4) s = replyRequest p tag r t) :
    exec (.portRequest tag pl) s = .next (answered .portRequest tag r (requestFields p t) t) :=
  congrArg Host.Outcome.next
    (offerCommand_answered free (by simp [lengthMatches, length]) rfl rfl ((doPortRequest_eq tag s port).trans carried))

section Checks

variable {p : Port} {tag : Byte} {asked : Nat} {s : State}

theorem requestFor_conflict (some : asked ≠ 0) (refused : (s.cfg p).policy = .accessory ∨ s.alloc p = .faulted) :
    requestFor p tag asked s = replyRequest p tag .conflict s := by
  rw [requestFor, if_neg some, if_pos refused]

theorem requestFor_busy (some : asked ≠ 0) (policy : (s.cfg p).policy = .link) (busy : s.alloc p = .shedding) :
    requestFor p tag asked s = replyRequest p tag .busy s := by
  rw [requestFor, if_neg some, if_neg (by simp [policy, busy]), if_pos busy]

theorem requestFor_accepted (some : asked ≠ 0) (policy : (s.cfg p).policy = .link) (faulted : s.alloc p ≠ .faulted)
    (shedding : s.alloc p ≠ .shedding) :
    requestFor p tag asked s =
      replyRequest p tag (requestResult p asked s (finish s (acceptRequest p asked .link s)))
        (finish s (acceptRequest p asked .link s)) := by
  rw [requestFor, if_neg some, if_neg (by simp [policy, faulted]), if_neg shedding]

end Checks

end Sys2Proof.Machine

open Sys2Proof Sys2Proof.Machine

/-- Settles O28, state by state. -/
theorem portRequestFollowsItsTable : Obligations.PortRequestFollowsItsTable := by
  intro tag pl p s free length port asked req cut done ends taken
  have answer {r : Result} {t : State} (carried : requestFor p tag asked s = replyRequest p tag r t) : ends r t :=
    portRequest_answered free length port carried
  refine ⟨fun none => answer (if_pos none), fun some refused => answer (requestFor_conflict some refused),
    fun some policy => ?_⟩
  /- The answer to a request that is accepted and ends in the state `u`. -/
  have accepted {u : State} {r : Result} (faulted : s.alloc p ≠ .faulted) (shedding : s.alloc p ≠ .shedding)
      (effect : acceptRequest p asked .link s = u) (result : requestResult p asked s (finish s u) = r) :
      ends r (finish s u) :=
    answer (by rw [requestFor_accepted some policy faulted shedding, effect, result])
  refine ⟨fun busy => answer (requestFor_busy some policy busy), fun off left => ?_, fun queued left => ?_,
    fun out none => ?_, fun granted => ?_⟩
  · exact accepted (by rw [off]; nofun) (by rw [off]; nofun) (acceptRequest_off off left) (requestResult_off off left)
  · exact accepted (fun e => by simp [e] at queued) (fun e => by simp [e] at queued)
      (acceptRequest_queued queued left) (requestResult_queued queued left)
  · have outside : (s.alloc p).granted = false := by rcases out with e | e | e <;> rw [e] <;> rfl
    exact accepted (fun e => by simp [e] at out) (fun e => by simp [e] at out) (acceptRequest_empty out none)
      (requestResult_empty outside none)
  · have isGranted : (s.alloc p).granted = true := by rcases granted with e | e | e <;> rw [e] <;> rfl
    have effect {u : State} {r : Result} (effect : requestGranted p req cut .link s = u)
        (result : requestResult p asked s (finish s u) = r) : ends r (finish s u) :=
      accepted (fun e => by simp [e] at granted) (fun e => by simp [e] at granted)
        ((acceptRequest_granted granted).trans effect) result
    exact ⟨fun less => effect (requestGranted_less less) (requestResult_granted isGranted (.inl less.le)),
      fun same => effect (requestGranted_same same) (requestResult_granted isGranted (.inl same.le)),
      fun more room => effect (requestGranted_more more room)
        (requestResult_granted isGranted (.inr (roomFor_iff.2 room))),
      fun more full => effect (requestGranted_noRoom more full)
        (requestResult_noRoom isGranted more fun room => Nat.not_le.2 full (roomFor_iff.1 room))⟩

end

section
/-! Accessory records as the engine takes them, and the statement on ANNOUNCE and REQUEST (O24). -/

namespace Sys2Proof.Machine

/-! ## Identities that stay -/

/-- No port's identity changes. -/
def KeepsIdentity (s t : State) : Prop := ∀ q, (t.port q).identity = (s.port q).identity

namespace KeepsIdentity

theorem refl (s : State) : KeepsIdentity s s := fun _ => rfl

theorem trans {s t u : State} (h : KeepsIdentity s t) (k : KeepsIdentity t u) : KeepsIdentity s u :=
  fun q => (k q).trans (h q)

theorem mapPort (p : Port) {f : PortRec → PortRec} (s : State) (same : ∀ r, (f r).identity = r.identity := by intro r; rfl) :
    KeepsIdentity s (s.mapPort p f) := fun q => by
  rw [State.mapPort_port]
  split
  · next own => rw [own]; exact same _
  · rfl

theorem opportunity {s t : State} (h : KeepsIdentity s t) : KeepsIdentity s (opportunity t) := h

end KeepsIdentity

theorem emptyRequest_identity (p : Port) (s : State) : KeepsIdentity s (emptyRequest p s) := fun q => by
  rw [emptyRequest_port]
  split
  · next own => rw [own]
  · rfl

theorem enterWaiting_identity (p : Port) (s : State) : KeepsIdentity s (enterWaiting p s) :=
  (KeepsIdentity.mapPort p s : KeepsIdentity s (s.mapPort p (fun r => { r with alloc := .waiting })))

theorem acceptRequest_identity (p : Port) (asked : Nat) (o : Origin) (s : State) :
    KeepsIdentity s (acceptRequest p asked o s) := by
  have off (req : Nat) (cut : Bool) : KeepsIdentity s (requestOff p req cut o s) := by
    unfold requestOff
    split
    · exact emptyRequest_identity p s
    · exact ((KeepsIdentity.mapPort p s).trans (enterWaiting_identity p _)).opportunity
  have queued (req : Nat) (cut : Bool) : KeepsIdentity s (requestQueued p req cut o s) := by
    unfold requestQueued
    split
    · exact emptyRequest_identity p s
    · exact (KeepsIdentity.mapPort p s).opportunity
  have granted (req : Nat) (cut : Bool) : KeepsIdentity s (requestGranted p req cut o s) := by
    unfold requestGranted
    dsimp only
    repeat' split
    · exact (KeepsIdentity.mapPort p s).opportunity
    · exact KeepsIdentity.mapPort p s
    · exact KeepsIdentity.mapPort p s
  unfold acceptRequest
  dsimp only
  split
  · exact off _ _
  · exact queued _ _
  · exact queued _ _
  · exact granted _ _
  · exact granted _ _
  · exact granted _ _
  · exact .refl s
  · exact .refl s

theorem release_identity (p : Port) (s : State) : KeepsIdentity s (release p s) := by
  have left : KeepsIdentity s (goOff p s) := fun q => by
    rw [goOff_port]
    split
    · next own => rw [own]; rfl
    · rfl
  cases granted : (s.alloc p).granted with
  | true =>
    rw [release_of_granted granted]
    exact (left.trans (dropChildren_frame 8 p _).identity).trans (requeue_frame _ _).identity
  | false =>
    rw [release_of_outside granted]
    exact left

theorem recordRequest_identity (p : Port) (power : Nat) (s : State) : KeepsIdentity s (recordRequest p power s) := by
  have released : KeepsIdentity s (releaseIfHeld p s) := by
    unfold releaseIfHeld
    split
    · exact .refl s
    · exact .refl s
    all_goals exact release_identity p s
  unfold recordRequest
  split
  · exact .refl s
  · split
    · exact released
    · exact acceptRequest_identity p _ _ s

/-! ## The power of a record, by the port's policy (R71) -/

section Policy

variable {p : Port} {s : State}

theorem recordRequest_link (policy : (s.cfg p).policy = .link) (power : Nat) : recordRequest p power s = s := by
  simp only [recordRequest, policy]

theorem recordRequest_some (policy : (s.cfg p).policy = .accessory) {power : Nat} (some : power ≠ 0) :
    recordRequest p power s = acceptRequest p power .accessory s := by
  simp only [recordRequest, policy, if_neg some]

theorem recordRequest_zero (policy : (s.cfg p).policy = .accessory) : recordRequest p 0 s = releaseIfHeld p s := by
  simp only [recordRequest, policy, if_true]

theorem releaseIfHeld_idle (idle : s.alloc p = .off ∨ s.alloc p = .faulted) : releaseIfHeld p s = s := by
  rcases idle with e | e <;> simp only [releaseIfHeld, e]

end Policy

/-! ## The record taken (R64, R71) -/

/-- R71: the identity of an ANNOUNCE is taken. -/
def named (p : Port) (code : Byte) (ident : Vector Byte 8) (s : State) : State :=
  s.mapPort p (fun r => { r with identity := some ⟨code, ident⟩ })

/-- R64, R129: the ways in which the engine comes to take a record of the line: handed over to an empty inbox, or from the
head of the inbox. -/
def Takes (p : Port) (r : AccRecord) (s u : State) : Prop :=
  (s.recordsOf p = [] ∧ (s.line p).tx ≠ .off ∧ u = s) ∨
    ∃ rest, s.recordsOf p = r :: rest ∧ u = { s with records := tput s.records p rest }

theorem recordsArrive_iff {p : Port} {s : State} (out : s.mode ≠ .init) :
    s.recordsArrive p = true ↔ (s.line p).tx ≠ .off := by
  simp [State.recordsArrive, LineRec.isOn, out]

theorem takeRecord_of_takes {p : Port} {r : AccRecord} {s u : State} (out : s.mode ≠ .init) (takes : Takes p r s u) :
    takeRecord p r s = finish u (actOnRecord p r u) := by
  unfold takeRecord
  rcases takes with ⟨empty, on, rfl⟩ | ⟨rest, head, rfl⟩
  · simp only [empty, if_pos ((recordsArrive_iff out).2 on)]
  · split
    · next empty => rw [head] at empty; cases empty
    · next found =>
      rw [head] at found
      cases found
      rw [if_pos ⟨rfl, out⟩]
      rfl

/-- R71, log entries 10 and 17: a record that is not the head of the inbox joins it, if its line is on. -/
theorem takeRecord_of_other {p : Port} {r h : AccRecord} {rest : List AccRecord} {s : State} (out : s.mode ≠ .init)
    (head : s.recordsOf p = h :: rest) (other : h ≠ r) :
    takeRecord p r s = if (s.line p).tx = .off then s else handRecord p r s := by
  have arrives := recordsArrive_iff (p := p) out
  unfold takeRecord
  simp only [head, if_neg (show ¬(h = r ∧ s.mode ≠ .init) from fun both => other both.1)]
  by_cases off : (s.line p).tx = .off
  · rw [if_pos off, if_neg fun on => arrives.1 on off]
  · rw [if_neg off, if_pos (arrives.2 off)]

theorem takeRecord_of_silent {p : Port} {r : AccRecord} {s : State} (out : s.mode ≠ .init) (empty : s.recordsOf p = [])
    (off : (s.line p).tx = .off) : takeRecord p r s = s := by
  unfold takeRecord
  simp only [empty, if_neg fun on => (recordsArrive_iff out).1 on off]

/-! ## What the handling leaves -/

/-- R71: the inbox stays as it is, and the identity as the operation of the engine leaves it. -/
theorem finish_record {p : Port} {power : Nat} (s0 s : State) :
    (finish s0 (recordRequest p power s)).recordsOf p = s.recordsOf p ∧
      ((finish s0 (recordRequest p power s)).port p).identity = (s.port p).identity :=
  ⟨congrArg (tget · p) ((finish_frame s0 _).records.trans (recordRequest_frame p power s).records),
    ((finish_frame s0 _).identity p).trans (recordRequest_identity p power s p)⟩

/-- R72: the end of a handling that has released the port. -/
theorem finish_released {p : Port} {s : State} (s0 : State) (policy : (s.cfg p).policy = .accessory)
    (off : s.alloc p ≠ .off) (faulted : s.alloc p ≠ .faulted) :
    Released p (s.port p).released (finish s0 (recordRequest p 0 s)) := by
  rw [recordRequest_zero policy, releaseIfHeld_of_held faulted off]
  exact (release_released p s).finish s0

end Sys2Proof.Machine

open Sys2Proof Sys2Proof.Machine

/-- Settles O24, policy by policy. -/
theorem accessoryRecordsReachTheEngine : Obligations.AccessoryRecordsReachTheEngine := by
  intro p code power ident s out nm ann req takes joins released
  have zero : power = 0 → power.toNat = 0 := fun e => by rw [e]; rfl
  have some : power ≠ 0 → power.toNat ≠ 0 := fun ne e => ne (BitVec.eq_of_toNat_eq e)
  have port {r : AccRecord} {u : State} (h : takes r u) : u.port p = s.port p := by
    rcases h with ⟨-, -, rfl⟩ | ⟨_, -, rfl⟩ <;> rfl
  have takesAnn {u : State} (h : takes ann u) : exec (.announce p code power ident) s =
      .next (finish u (recordRequest p power.toNat (named p code ident u))) :=
    congrArg Host.Outcome.next (takeRecord_of_takes out h)
  have takesReq {u : State} (h : takes req u) : exec (.request p power) s =
      .next (finish u (recordRequest p power.toNat u)) :=
    congrArg Host.Outcome.next (takeRecord_of_takes out h)
  refine ⟨fun u h => ?_, fun u h => ?_, fun x rest head => ⟨fun other => ?_, fun other => ?_⟩, fun empty off => ⟨?_, ?_⟩⟩
  · have record : (named p code ident u).port p = { s.port p with identity := Option.some ⟨code, ident⟩ } := by
      rw [named, State.mapPort_port_self, port h]
    have cfg : (named p code ident u).cfg p = s.cfg p := by rw [State.cfg, record, State.cfg]
    have alloc : (named p code ident u).alloc p = s.alloc p := by rw [State.alloc, record, State.alloc]
    obtain ⟨inbox, identity⟩ := finish_record (p := p) (power := power.toNat) u (named p code ident u)
    rw [takesAnn h]
    refine ⟨fun policy => ?_, fun policy asked => ?_, fun policy none idle => ?_, _, rfl, inbox, ?_,
      fun policy none off faulted => ?_⟩
    · rw [recordRequest_link (cfg ▸ policy)]; rfl
    · rw [recordRequest_some (cfg ▸ policy) (some asked)]; rfl
    · rw [zero none, recordRequest_zero (cfg ▸ policy), releaseIfHeld_idle (alloc ▸ idle)]; rfl
    · rw [identity, record]
    · rw [zero none] at identity ⊢
      have gone := finish_released u (cfg ▸ policy) (alloc ▸ off) (alloc ▸ faulted)
      refine ⟨?_, gone.opened, gone.notGranted, gone.notQueued⟩
      rw [identity, gone.port, record]
      rfl
  · have cfg : u.cfg p = s.cfg p := by rw [State.cfg, port h, State.cfg]
    have alloc : u.alloc p = s.alloc p := by rw [State.alloc, port h, State.alloc]
    obtain ⟨inbox, identity⟩ := finish_record (p := p) (power := power.toNat) u u
    rw [takesReq h]
    refine ⟨fun policy => ?_, fun policy asked => ?_, fun policy none idle => ?_, _, rfl, inbox, ?_,
      fun policy none off faulted => ?_⟩
    · rw [recordRequest_link (cfg ▸ policy)]
    · rw [recordRequest_some (cfg ▸ policy) (some asked)]
    · rw [zero none, recordRequest_zero (cfg ▸ policy), releaseIfHeld_idle (alloc ▸ idle)]
    · rw [identity, port h]
    · rw [zero none] at identity ⊢
      have gone := finish_released u (cfg ▸ policy) (alloc ▸ off) (alloc ▸ faulted)
      refine ⟨?_, gone.opened, gone.notGranted, gone.notQueued⟩
      rw [identity, gone.port, port h]
      rfl
  · exact congrArg Host.Outcome.next (takeRecord_of_other out head other)
  · exact congrArg Host.Outcome.next (takeRecord_of_other out head other)
  · exact congrArg Host.Outcome.next (takeRecord_of_silent out empty off)
  · exact congrArg Host.Outcome.next (takeRecord_of_silent out empty off)

end

section
/-! Faults of a switch, and the statement on start fails, opening trips and retry limits (O23). -/

namespace Sys2Proof.Machine

/-! ## A port outside both lists stays as it is -/

/-- Nothing in a shed order reaches a port outside the granted list. -/
theorem port_stable (p : Port) {r : PortRec} (out : r.alloc.granted = false) : ShedStable (fun s => s.port p = r) := by
  have ne {x : Port} {s : State} (h : s.port p = r) (granted : (s.alloc x).granted = true) : p ≠ x := fun e => by
    rw [← e, State.alloc, h, out] at granted
    cases granted
  refine ⟨fun {why x s} granted h => ?_, fun _ h => h, fun {why x s} on h => ?_, fun {x s} shedding h => ?_, fun h => h,
    fun h => h⟩
  · rw [dropToShed_port, if_neg (ne h granted)]
    exact h
  · rw [startGrace_port, if_neg (ne h (by rw [on]; rfl))]
    exact h
  · rw [State.mapPort_port_ne _ _ (ne h (by rw [shedding]; rfl))]
    exact h

/-- A port outside both lists stays as it is through the end of a handling. -/
theorem finish_port_of_outside {p : Port} {r : PortRec} {s : State} (s0 : State) (h : s.port p = r)
    (out : r.alloc.granted = false) (queued : p ∉ s.engine.queue) : (finish s0 s).port p = r := by
  obtain ⟨ports, -⟩ := finish_ports s0 s
  refine (congrArg (tget · p) ports).trans ?_
  refine (port_stable p out).runOpportunity_of_queue (fun x mem _ hu => ?_) h
  rw [admitPort_port, if_neg fun e : p = x => queued (e ▸ mem)]
  exact hu

/-- Shedding and admission send no report. -/
theorem reports_stable (l : Vector (List Report) 8) : PassStable (fun s => s.reports = l) where
  drop _ h := (switchOff_reports _ _).trans h
  enqueue _ h := h
  grace _ h := h
  modeReason _ h := h
  hold h := h
  mark h := h
  admitPort _ h := (switchOn_reports _ _).trans h

theorem finish_reports (s0 s : State) : (finish s0 s).reports = s.reports := by
  obtain ⟨-, -, reports, -⟩ := finish_ports s0 s
  exact reports.trans ((reports_stable s.reports).runOpportunity rfl)

/-! ## A fault (R78, R79, R106) -/

theorem faultPort_eq (p : Port) (s : State) :
    faultPort p s = requeue s.engine.granted (opportunity (dropChildren 8 p (goFaulted p s))) := rfl

theorem goFaulted_reports (p : Port) (s : State) : (goFaulted p s).reports = s.reports := switchOff_reports _ _

/-- R78, R79: the port is in FAULTED. -/
theorem faultPort_port (p : Port) (s : State) : (faultPort p s).port p = (s.port p).faulted := by
  have stable := port_stable p (r := (s.port p).faulted) rfl
  rw [faultPort_eq]
  exact stable.requeue _ (stable.mark (stable.dropChildren 8 p (by rw [goFaulted_port, if_pos rfl])))

theorem faultPort_reports (p : Port) (s : State) : (faultPort p s).reports = s.reports := by
  have stable := (reports_stable s.reports).toShedStable
  rw [faultPort_eq]
  exact stable.requeue _ (stable.mark (stable.dropChildren 8 p (goFaulted_reports p s)))

/-- R106: a child of the port in the granted list is shed. -/
theorem faultPort_child {p q : Port} {s : State} (ne : q ≠ p) (mem : q ∈ s.engine.granted)
    (granted : (s.alloc q).granted = true) (parent : (s.cfg q).parent = some p) :
    ShedAway q p (s.port q).request (faultPort p s) := by
  have stable := shedAway_stable q p (s.port q).request
  have kept : (goFaulted p s).port q = s.port q := by rw [goFaulted_port, if_neg ne]
  have orphan : Orphan q p (goFaulted p s) := by
    refine ⟨by rw [State.cfg, kept]; exact parent, ?_⟩
    rw [State.alloc, goFaulted_port, if_pos rfl]
    nofun
  have listed : q ∈ (goFaulted p s).engine.granted := by
    rw [goFaulted_engine]
    exact mem_without.2 ⟨mem, ne⟩
  have dropped : ShedAway q p (s.port q).request (dropChildren 8 p (goFaulted p s)) := by
    rw [← kept]
    exact dropChildren_sheds orphan listed (by rwa [State.alloc, kept])
  rw [faultPort_eq]
  exact stable.requeue _ (stable.mark dropped)

/-- R52, R78, R79: a report that sends its port to FAULTED, by its kind. -/
theorem exec_fault {i : Instr} {p : Port} {rest : List Report} {s : State} (opened : (s.switch p).state = .opened)
    (report : ((∃ c, s.reportsOf p = .startFail c :: rest) ∧ i = .startFail p ∧ (s.alloc p).slotted = true) ∨
      ((∃ k, s.reportsOf p = .trip k .opened :: rest) ∧ i = .trip p ∧ (s.alloc p).granted = true) ∨
      (s.reportsOf p = .retryLimit :: rest ∧ i = .retryLimit p ∧ (s.alloc p).granted = true)) :
    (s.alloc p).granted = true ∧
      exec i s = .next (finish (s.setReports p rest) (faultPort p (s.setReports p rest))) := by
  have isOpen := (SwitchState.isOpen_iff _).2 opened
  rcases report with ⟨⟨c, head⟩, rfl, slotted⟩ | ⟨⟨k, head⟩, rfl, granted⟩ | ⟨head, rfl, granted⟩
  · have takes : takeStartFail p (s.setReports p rest) = faultPort p (s.setReports p rest) := if_pos ⟨isOpen, slotted⟩
    exact ⟨AllocState.granted_of_slotted slotted, by rw [exec_startFail head, takeReport, takes]⟩
  · have takes : takeTrip p .opened (s.setReports p rest) = faultPort p (s.setReports p rest) := if_pos ⟨isOpen, granted⟩
    exact ⟨granted, by rw [exec_trip head, takeReport, takes]⟩
  · have takes : takeOpened p (s.setReports p rest) = faultPort p (s.setReports p rest) := if_pos ⟨isOpen, granted⟩
    exact ⟨granted, by rw [exec_retryLimit head, takeReport, takes]⟩

end Sys2Proof.Machine

open Sys2Proof Sys2Proof.Machine

/-- Settles O23: the three reports bring about the same fault; the lists, grants and switches follow from the table. -/
theorem switchFaultSendsThePortToFaulted : Obligations.SwitchFaultSendsThePortToFaulted := by
  intro i p rest s consistent opened report
  obtain ⟨granted, effect⟩ := exec_fault opened report
  obtain ⟨ends, -⟩ := (tableConsistent_iff _).1 (exec_allocKept effect consistent).1
  obtain ⟨table, -⟩ := (tableConsistent_iff s).1 consistent.1
  have stored : Table (s.setReports p rest) := table.of_eq rfl rfl rfl rfl rfl fun _ => id
  generalize hu : s.setReports p rest = u at *
  have port : ∀ q, u.port q = s.port q := fun q => by rw [← hu]; rfl
  have fault : (finish u (faultPort p u)).port p = (u.port p).faulted := by
    refine finish_port_of_outside u (faultPort_port p u) rfl fun mem => ?_
    have faulted := (stored.faultPort (p := p) (by rw [State.alloc, port]; exact granted)).queued_of_mem mem
    rw [State.alloc, faultPort_port] at faulted
    cases faulted
  have alloc : (finish u (faultPort p u)).alloc p = .faulted := by rw [State.alloc, fault]; rfl
  have frame := (EngineFrame.toHandlingFrame (faultPort_frame p u)).trans (finish_frame u _).toHandlingFrame
  refine ⟨_, effect, ?_, ?_, ?_, fun mem => ?_, fun mem => ?_, fun q ne mem parent => ?_, ?_⟩
  · rw [State.reportsOf, finish_reports, faultPort_reports, ← hu]
    exact tget_tput_self _ _ _
  · rw [fault, port]; rfl
  · exact ((ends.power p).resolve_left (by rw [alloc]; nofun)).1
  · rw [ends.granted, alloc] at mem; cases mem
  · have queued := ends.queued_of_mem mem
    rw [alloc] at queued
    cases queued
  · have listed : q ∈ u.engine.granted := by rw [← hu]; exact mem
    obtain ⟨w, ⟨r, e, gone⟩, ports, -⟩ := (shedAway_stable q p (u.port q).request).finish u
      (faultPort_child ne listed ((stored.granted q).1 listed) (by rw [State.cfg, port]; exact parent))
    have state : (finish u (faultPort p u)).alloc q = if (s.port q).request = 0 then .off else .shed := by
      rw [← port q, ← e, ← gone.port]
      exact congrArg (fun v => (tget v q).alloc) ports
    have outside : ((finish u (faultPort p u)).alloc q).granted ≠ true := by
      rw [state]
      split <;> nofun
    obtain ⟨switch, grant⟩ := (ends.power q).resolve_left outside
    exact ⟨state, grant, switch⟩
  · rw [frame.sel, frame.sense, frame.pool, frame.store, frame.mode, ← hu]
    exact ⟨rfl, rfl, rfl, rfl, rfl⟩

end

section
/-! The course of a shed check, of the taking of victims, of an admission pass and of a cancellation, and what each leaves
of the engine record (R75 to R77, R96, R99). -/

namespace Sys2Proof.Machine

/-! ## The lowest-keyed port (R96) -/

/-- `v` is the lowest-keyed port of the list, the latest among equal keys. -/
def LowestOf (key : Port → Nat) (l : List Port) (v : Port) : Prop :=
  v ∈ l ∧ ∀ q ∈ l, key q < key v ∨ (key q = key v ∧ l.idxOf q ≤ l.idxOf v)

theorem lowestKeyed_concat (key : Port → Nat) (l : List Port) (a : Port) :
    lowestKeyed key (l ++ [a]) =
      match lowestKeyed key l with
      | none => some a
      | some b => if key b ≤ key a then some a else some b := by
  rw [lowestKeyed, List.foldl_append]
  rfl

theorem lowestKeyed_eq_none {key : Port → Nat} {l : List Port} : lowestKeyed key l = none ↔ l = [] := by
  refine ⟨fun h => ?_, fun h => by rw [h]; rfl⟩
  cases l using List.reverseRecOn with
  | nil => rfl
  | append_singleton l a =>
    rw [lowestKeyed_concat] at h
    split at h
    · cases h
    · split at h <;> cases h

theorem lowestKeyed_mem {key : Port → Nat} (l : List Port) : ∀ {v : Port}, lowestKeyed key l = some v → v ∈ l := by
  induction l using List.reverseRecOn with
  | nil => intro v h; cases h
  | append_singleton l a ih =>
    intro v h
    rw [lowestKeyed_concat] at h
    split at h
    · cases h; simp
    · next b found =>
      split at h <;> cases h
      · simp
      · exact List.mem_append_left _ (ih found)

theorem lowestKeyed_lowest {key : Port → Nat} (l : List Port) :
    ∀ {v : Port}, l.Nodup → lowestKeyed key l = some v → LowestOf key l v := by
  induction l using List.reverseRecOn with
  | nil => intro v _ h; cases h
  | append_singleton l a ih =>
    intro v nodup h
    obtain ⟨nodupL, -, apart⟩ := List.nodup_append.1 nodup
    have out : a ∉ l := fun mem => apart a mem a (List.mem_singleton.2 rfl) rfl
    have place : ∀ {q}, q ∈ l → (l ++ [a]).idxOf q = l.idxOf q := fun mem => List.idxOf_append_of_mem mem
    have last : (l ++ [a]).idxOf a = l.length := by rw [List.idxOf_append_of_notMem out]; simp
    have inside : ∀ {q}, q ∈ l → (l ++ [a]).idxOf q ≤ l.length := fun mem => by
      rw [place mem]
      exact List.idxOf_le_length
    rw [lowestKeyed_concat] at h
    split at h
    · next none =>
      cases h
      have empty := lowestKeyed_eq_none.1 none
      subst empty
      simp [LowestOf]
    · next b found =>
      obtain ⟨mem, lowest⟩ := ih nodupL found
      split at h
      · next le =>
        cases h
        refine ⟨by simp, fun q queued => ?_⟩
        rcases List.mem_append.1 queued with before | own
        · rw [last]
          have bound := inside before
          rcases lowest q before with lt | ⟨e, -⟩ <;> omega
        · rw [List.mem_singleton.1 own]
          exact .inr ⟨rfl, le_rfl⟩
      · next gt =>
        cases h
        refine ⟨List.mem_append_left _ mem, fun q queued => ?_⟩
        rcases List.mem_append.1 queued with before | own
        · rw [place before, place mem]
          exact lowest q before
        · rw [List.mem_singleton.1 own]
          exact .inl (by omega)

theorem LowestOf.unique {key : Port → Nat} {l : List Port} {v w : Port} (h : LowestOf key l v) (k : LowestOf key l w) :
    v = w := by
  have places : l.idxOf v = l.idxOf w := by
    rcases h.2 w k.1 with lt | ⟨e, le⟩
    · rcases k.2 v h.1 with lt' | ⟨e', -⟩ <;> omega
    · rcases k.2 v h.1 with lt' | ⟨-, le'⟩ <;> omega
  exact (List.idxOf_inj h.1).1 places

/-- R96: the choice among the ports of a list is its lowest-keyed port. -/
theorem lowestKeyed_eq_some {key : Port → Nat} {l : List Port} (nodup : l.Nodup) {v : Port} :
    lowestKeyed key l = some v ↔ LowestOf key l v := by
  refine ⟨lowestKeyed_lowest l nodup, fun lowest => ?_⟩
  cases found : lowestKeyed key l with
  | none =>
    have mem := lowest.1
    rw [lowestKeyed_eq_none.1 found] at mem
    cases mem
  | some w => rw [(lowestKeyed_lowest l nodup found).unique lowest]

/-! ## The shed check (R96, R97) -/

theorem mem_victims {s : State} {v : Port} :
    v ∈ s.victims ↔ v ∈ s.engine.granted ∧ s.alloc v ≠ .shedding ∧ s.essential v = false := by
  simp [State.victims]

/-- R96: within the envelope, or with none to choose, the check sheds nothing. -/
theorem shedCheck_idle {s : State} (idle : s.retained ≤ s.engine.envelope ∨ s.victims = []) (n : Nat) :
    shedCheck n s = s := by
  cases n with
  | zero => rfl
  | succ n =>
    unfold shedCheck
    split
    · rfl
    · next beyond =>
      rw [idle.resolve_left beyond]
      rfl

theorem shedCheck_succ {s : State} {v : Port} (beyond : s.engine.envelope < s.retained)
    (chosen : lowestKeyed s.key s.victims = some v) (n : Nat) :
    shedCheck (n + 1) s = shedCheck n (startHold (shed .envelope v s)) := by
  unfold shedCheck
  rw [if_neg (by omega), chosen]
  cases n <;> rfl

/-- What each turn of a shed check keeps, the check keeps. -/
theorem shedCheck_keeps {I : State → Prop} (turn : ∀ v u, v ∈ u.victims → I u → I (startHold (shed .envelope v u)))
    (n : Nat) : ∀ {s : State}, I s → I (shedCheck n s) := by
  induction n with
  | zero => exact id
  | succ n ih =>
    intro s hs
    unfold shedCheck
    split
    · exact hs
    · split
      · exact hs
      · next v chosen => exact ih (turn v s (lowestKeyed_mem _ chosen) hs)

/-! ## The engine record through shedding and admission -/

/-- Shedding and admission leave held as it is. -/
theorem held_stable (b : Bool) : PassStable (fun s => s.engine.held = b) where
  drop {why p s} _ h := by rw [dropToShed_engine]; exact h
  enqueue _ h := h
  grace _ h := h
  modeReason _ h := h
  hold h := h
  mark h := h
  admitPort {p s} _ h := by rw [admitPort_engine]; exact h

/-- Shedding and admission leave the restore hold running, or restart it at its full time. -/
theorem holdRuns_stable : PassStable (fun s => s.engine.restoreHold.isSome = true) where
  drop {why p s} _ h := by rw [dropToShed_engine]; exact h
  enqueue _ h := h
  grace _ h := h
  modeReason _ h := h
  hold _ := rfl
  mark h := h
  admitPort {p s} _ h := by rw [admitPort_engine]; exact h

/-- R101: a shed check that sheds starts the restore hold. -/
theorem shedCheck_holds (n : Nat) (s : State) :
    shedCheck n s = s ∨ (shedCheck n s).engine.restoreHold.isSome = true := by
  cases n with
  | zero => exact .inl rfl
  | succ n =>
    unfold shedCheck
    split
    · exact .inl rfl
    · split
      · exact .inl rfl
      · exact .inr (holdRuns_stable.shedCheck n rfl)

theorem finish_held (s0 s : State) : (finish s0 s).engine.held = s.engine.held := by
  rw [finish_engine]
  exact (held_stable s.engine.held).runOpportunity (s := s) rfl

/-! ## The admission pass (R75) -/

/-- The walk of a pass: what admissions keep of a state, and what bumping makes of it. -/
theorem passWalk_reaches {I J : State → Prop} {l : List Port} (done : ∀ {u}, I u → J u)
    (admits : ∀ x ∈ l, ∀ u, u.skips x = false → I u → I (admitPort x u)) (bumps : ∀ x ∈ l, ∀ u, I u → J (bump x u)) :
    ∀ {s : State}, I s → J (passWalk l s) := by
  induction l with
  | nil => exact done
  | cons x l ih =>
    have rest := fun {u : State} => ih (s := u) (fun y mem => admits y (List.mem_cons_of_mem x mem))
      fun y mem => bumps y (List.mem_cons_of_mem x mem)
    intro s hs
    unfold passWalk
    split
    · exact rest hs
    · next enters =>
      split
      · split
        · exact rest (admits x List.mem_cons_self s (by simpa using enters) hs)
        · exact bumps x List.mem_cons_self s hs
      · exact done hs

theorem runOpportunity_reaches {I J : State → Prop} {s : State} (done : ∀ {u}, I u → J u)
    (mark : ∀ {u b}, J u → J (u.mapEngine (fun e => { e with opportunity := b })))
    (admits : ∀ x ∈ s.engine.queue, ∀ u, u.skips x = false → I u → I (admitPort x u))
    (bumps : ∀ x ∈ s.engine.queue, ∀ u, I u → J (bump x u)) (hs : I s) : J (runOpportunity s) := by
  unfold runOpportunity
  split
  · refine mark ?_
    split
    · exact done hs
    · exact passWalk_reaches done admits bumps hs
  · exact done hs

/-! ## The cancellation (R99, R100) -/

theorem closure_sound {s : State} {f : Port → Bool} {l : List Port} (n : Nat) :
    ∀ {found : List Port} {q : Port}, q ∈ closure s f l n found → q ∈ found ∨ f q = true := by
  induction n with
  | zero => exact .inl
  | succ n ih =>
    intro found q mem
    rcases ih mem with round | ok
    · exact (mem_closureRound.1 round).2.imp_right And.left
    · exact .inr ok

/-- R99, R100: a cancellation leaves switches, reports and lists as they are. -/
structure CancelFrame (s t : State) : Prop where
  switches : t.switches = s.switches
  reports : t.reports = s.reports
  engine : ∃ b, t.engine = { s.engine with opportunity := b }

theorem CancelFrame.refl (s : State) : CancelFrame s s := ⟨rfl, rfl, s.engine.opportunity, rfl⟩

theorem CancelFrame.trans {s t u : State} (h : CancelFrame s t) (k : CancelFrame t u) : CancelFrame s u := by
  obtain ⟨b, engine⟩ := h.engine
  obtain ⟨c, engine'⟩ := k.engine
  exact ⟨k.switches.trans h.switches, k.reports.trans h.reports, c, by rw [engine', engine]⟩

theorem cancelAll_cancelFrame (l : List Port) (s : State) : CancelFrame s (forEach l cancelPort s) :=
  forEach_rel .refl .trans (fun _ _ => ⟨rfl, rfl, true, rfl⟩) l s

theorem cancelWalk_cancelFrame (l : List Port) : ∀ s : State, CancelFrame s (cancelWalk l s) := by
  induction l with
  | nil => exact .refl
  | cons p l ih =>
    intro s
    unfold cancelWalk
    split
    · split
      · exact (cancelAll_cancelFrame _ s).trans (ih _)
      · exact .refl s
    · exact ih s

/-- R100: the ports of a group but its head may be cancelled. -/
theorem group_shedding {s : State} {p q : Port} (head : s.alloc p = .shedding) (mem : q ∈ s.group p) :
    s.alloc q = .shedding := by
  rcases closure_sound 8 mem with own | ok
  · rw [List.mem_singleton.1 own]; exact head
  · exact (cancellable_iff.1 ok).1

/-- R99: a cancellation touches no port but those in SHEDDING, which it takes to ON. -/
theorem cancelWalk_port (l : List Port) :
    ∀ {s : State} {q : Port}, (cancelWalk l s).port q = s.port q ∨
      (s.alloc q = .shedding ∧ (cancelWalk l s).port q = (s.port q).cancelled) := by
  induction l with
  | nil => exact .inl rfl
  | cons p l ih =>
    intro s q
    unfold cancelWalk
    split
    · next tested =>
      split
      · have port := cancelAll_port (s.group p) q s
        by_cases mem : q ∈ s.group p
        · rw [if_pos mem] at port
          have on : (forEach (s.group p) cancelPort s).alloc q = .on := by rw [State.alloc, port]; rfl
          rcases ih (s := forEach (s.group p) cancelPort s) (q := q) with e | ⟨shedding, -⟩
          · exact .inr ⟨group_shedding tested.1 mem, e.trans port⟩
          · rw [on] at shedding; cases shedding
        · rw [if_neg mem] at port
          have alloc : (forEach (s.group p) cancelPort s).alloc q = s.alloc q := by rw [State.alloc, port, State.alloc]
          rcases ih (s := forEach (s.group p) cancelPort s) (q := q) with e | ⟨shedding, e⟩
          · exact .inl (e.trans port)
          · exact .inr ⟨alloc ▸ shedding, by rw [e, port]⟩
      · exact .inl rfl
    · exact ih

end Sys2Proof.Machine
end

section
/-! The changeover's begin and end in the engine (R80, R81), and the statement on held (O19). -/

namespace Sys2Proof.Machine

/-! ## A walk over the ports that each turn to themselves -/

/-- Where each turn of a walk leaves what it sees of the other ports, a port ends as its own turn leaves it. -/
theorem forEach_own {α : Type} {V : State → α} {f : Port → State → State} {p : Port}
    (other : ∀ y s, y ≠ p → V (f y s) = V s) (own : ∀ s u, V u = V s → V (f p u) = V (f p s)) {l : List Port}
    (nodup : l.Nodup) (mem : p ∈ l) (s : State) : V (forEach l f s) = V (f p s) := by
  induction l generalizing s with
  | nil => cases mem
  | cons y l ih =>
    obtain ⟨out, nodup⟩ := List.nodup_cons.1 nodup
    rw [forEach_cons]
    by_cases e : y = p
    · subst e
      exact forEach_keeps_of_mem (I := fun u => V u = V (f y s))
        (fun x mem u hu => (other x u fun e : x = y => out (e ▸ mem)).trans hu) rfl
    · rw [ih nodup ((List.mem_cons.1 mem).resolve_left fun e' => e e'.symm), own _ _ (other y s e)]

/-! ## Held set (R80) -/

/-- R80: the record of a port at the begin of a changeover. -/
def PortRec.holding (r : PortRec) : PortRec := if r.alloc = .starting then { r with alloc := .held } else r

/-- R36, R80: the switch of a port at the begin of a changeover. -/
def SwitchRec.holding (a : AllocState) (w : SwitchRec) : SwitchRec :=
  match a, w.state with
  | .starting, .ramping r e => { w with state := .paused r e }
  | _, _ => w

theorem pauseSwitch_switch (p q : Port) (s : State) :
    (pauseSwitch p s).switch q = if q = p then (s.switch p).holding .starting else s.switch q := by
  unfold pauseSwitch
  split <;> rename_i state <;> simp only [SwitchRec.holding, state]
  · rw [State.setSwitch_switch]
  all_goals
    split
    · next own => rw [own]
    · rfl

theorem holding_of_not_starting {a : AllocState} (other : a ≠ .starting) (w : SwitchRec) : w.holding a = w := by
  cases a <;> first | rfl | exact absurd rfl other

theorem holdPort_port (p q : Port) (s : State) :
    (holdPort p s).port q = if q = p then (s.port p).holding else s.port q := by
  unfold holdPort
  split
  · next starting =>
    rw [(pauseSwitch_frame p _).port, State.mapPort_port]
    simp only [PortRec.holding, if_pos (show (s.port p).alloc = .starting from starting)]
  · next other =>
    simp only [PortRec.holding, if_neg (show ¬(s.port p).alloc = .starting from other)]
    split
    · next own => rw [own]
    · rfl

theorem holdPort_switch (p q : Port) (s : State) :
    (holdPort p s).switch q = if q = p then (s.switch p).holding (s.alloc p) else s.switch q := by
  unfold holdPort
  split
  · next starting =>
    rw [pauseSwitch_switch, starting]
    rfl
  · next other =>
    rw [holding_of_not_starting other]
    split
    · next own => rw [own]
    · rfl

theorem holdPort_engine (p : Port) (s : State) : (holdPort p s).engine = s.engine := by
  unfold holdPort
  split
  · exact (pauseSwitch_frame p _).engine
  · rfl

/-- R80: every port and its switch after the begin of a changeover. -/
theorem beginHold_parts {s : State} (free : s.engine.held = false) :
    (∀ p, (beginHold s).port p = (s.port p).holding ∧ (beginHold s).switch p = (s.switch p).holding (s.alloc p)) ∧
      (beginHold s).engine = { s.engine with held := true } := by
  rw [beginHold, if_neg (by simp [free])]
  refine ⟨fun p => ?_, ?_⟩
  · have own := forEach_own (V := fun u => (u.port p, u.switch p)) (f := holdPort) (p := p) (l := allPorts)
      (fun y u ne => by rw [holdPort_port, holdPort_switch, if_neg ne.symm, if_neg ne.symm])
      (fun u v same => by
        obtain ⟨port, switch⟩ := Prod.mk.inj same
        simp only [holdPort_port, holdPort_switch, if_true, State.alloc, port, switch])
      (by decide) (by revert p; decide) (s.mapEngine (fun e => { e with held := true }))
    rw [holdPort_port, holdPort_switch, if_pos rfl, if_pos rfl] at own
    exact Prod.mk.inj own
  · exact forEach_rel (R := fun u v => v.engine = u.engine) (fun _ => rfl) (fun h k => k.trans h) holdPort_engine _ _

/-! ## Held cleared (R81) -/

/-- R81: the record of a port at the end of a changeover. -/
def PortRec.resuming (r : PortRec) : PortRec := if r.alloc = .held then { r with alloc := .starting } else r

/-- R37, R39, R81: the switch of a port in HELD at the end of a changeover. -/
def SwitchRec.resuming (w : SwitchRec) : SwitchRec :=
  match w.state with
  | .paused r e => if w.powerGood then w.close else { w with state := .ramping r e }
  | .opened | .ramping _ _ | .closed _ | .cooling _ _ => w

/-- R39: the reports of a switch after a resume order. -/
def resumedReports (w : SwitchRec) (l : List Report) : List Report :=
  match w.state with
  | .paused _ _ => if w.powerGood then l ++ [.startComplete] else l
  | .opened | .ramping _ _ | .closed _ | .cooling _ _ => l

theorem sendReport_reportsOf (p q : Port) (r : Report) (s : State) :
    (sendReport p r s).reportsOf q = if q = p then s.reportsOf p ++ [r] else s.reportsOf q :=
  tget_tput _ _ _ _

theorem resumeSwitch_parts (p q : Port) (s : State) :
    (resumeSwitch p s).switch q = (if q = p then (s.switch p).resuming else s.switch q) ∧
      (resumeSwitch p s).reportsOf q =
        (if q = p then resumedReports (s.switch p) (s.reportsOf p) else s.reportsOf q) := by
  unfold resumeSwitch
  split <;> rename_i state <;> simp only [SwitchRec.resuming, resumedReports, state]
  · split
    · exact ⟨State.setSwitch_switch s p q _, sendReport_reportsOf p q _ _⟩
    · refine ⟨State.setSwitch_switch s p q _, ?_⟩
      split
      · next own => rw [own]; rfl
      · rfl
  all_goals
    by_cases own : q = p
    · rw [if_pos own, if_pos own, own]; exact ⟨rfl, rfl⟩
    · rw [if_neg own, if_neg own]; exact ⟨rfl, rfl⟩

theorem resumePort_port (p q : Port) (s : State) :
    (resumePort p s).port q = if q = p then (s.port p).resuming else s.port q := by
  unfold resumePort
  split
  · next held =>
    rw [(resumeSwitch_frame p _).port, State.mapPort_port]
    simp only [PortRec.resuming, if_pos (show (s.port p).alloc = .held from held)]
  · next other =>
    simp only [PortRec.resuming, if_neg (show ¬(s.port p).alloc = .held from other)]
    split
    · next own => rw [own]
    · rfl

theorem resumePort_parts (p q : Port) (s : State) :
    (resumePort p s).switch q =
        (if q = p then if s.alloc p = .held then (s.switch p).resuming else s.switch p else s.switch q) ∧
      (resumePort p s).reportsOf q =
        (if q = p then if s.alloc p = .held then resumedReports (s.switch p) (s.reportsOf p) else s.reportsOf p
        else s.reportsOf q) := by
  unfold resumePort
  split
  · exact resumeSwitch_parts p q _
  · by_cases own : q = p
    · rw [if_pos own, if_pos own, own]; exact ⟨rfl, rfl⟩
    · rw [if_neg own, if_neg own]; exact ⟨rfl, rfl⟩

theorem resumePort_engine (p : Port) (s : State) : (resumePort p s).engine = s.engine := by
  unfold resumePort
  split
  · exact (resumeSwitch_frame p _).engine
  · rfl

/-- R81: held is no, and every port in HELD goes on. -/
def resumeAll (s : State) : State := forEach allPorts resumePort (s.mapEngine (fun e => { e with held := false }))

theorem endHold_eq (s : State) : endHold s = opportunity (recompute (resumeAll s)) := rfl

theorem resumeAll_parts (s : State) :
    (∀ p, (resumeAll s).port p = (s.port p).resuming ∧
        (resumeAll s).switch p = (if s.alloc p = .held then (s.switch p).resuming else s.switch p) ∧
        (resumeAll s).reportsOf p =
          (if s.alloc p = .held then resumedReports (s.switch p) (s.reportsOf p) else s.reportsOf p)) ∧
      (resumeAll s).engine = { s.engine with held := false } := by
  refine ⟨fun p => ?_, ?_⟩
  · have own := forEach_own (V := fun u => (u.port p, u.switch p, u.reportsOf p)) (f := resumePort) (p := p) (l := allPorts)
      (fun y u ne => by
        obtain ⟨switch, reports⟩ := resumePort_parts y p u
        rw [resumePort_port, switch, reports, if_neg ne.symm, if_neg ne.symm, if_neg ne.symm])
      (fun u v same => by
        obtain ⟨port, rest⟩ := Prod.mk.inj same
        obtain ⟨switch, reports⟩ := Prod.mk.inj rest
        have alloc : v.alloc p = u.alloc p := congrArg PortRec.alloc port
        simp only [resumePort_port, resumePort_parts, if_true]
        rw [port, switch, reports, alloc])
      (by decide) (by revert p; decide) (s.mapEngine (fun e => { e with held := false }))
    simp only [resumePort_port, resumePort_parts, if_true] at own
    obtain ⟨port, rest⟩ := Prod.mk.inj own
    obtain ⟨switch, reports⟩ := Prod.mk.inj rest
    exact ⟨port, switch, reports⟩
  · exact forEach_rel (R := fun u v => v.engine = u.engine) (fun _ => rfl) (fun h k => k.trans h) resumePort_engine _ _

end Sys2Proof.Machine
end

section
/-! A port in STARTING through the recomputation at the end of a changeover and the pass that follows (R66, R75, R81, R96):
it goes on, or it has been shed; with the statement on held (O19). -/

namespace Sys2Proof.Machine

/-! ## A port that goes on, or has been shed -/

/-- The record and the switch of the port are `r` and `w`. -/
def StandsAs (p : Port) (r : PortRec) (w : SwitchRec) (s : State) : Prop := s.port p = r ∧ s.switch p = w

/-- The port has been shed: it is in SHED, or in OFF, with no grant and its switch OPEN. -/
def ShedOut (p : Port) (s : State) : Prop :=
  (s.alloc p = .shed ∨ s.alloc p = .off) ∧ (s.port p).grant = 0 ∧ (s.switch p).state = .opened

theorem dropToShed_shedOut (why : ShedReason) (p : Port) (s : State) : ShedOut p (dropToShed why p s) :=
  ⟨dropToShed_alloc_self why p s, by rw [dropToShed_port, if_pos rfl]; exact (drop_empties why _).1,
    dropToShed_opens why p s⟩

/-- The same record and the same switch. -/
theorem ShedOut.of_eq {p : Port} {s t : State} (h : ShedOut p s) (port : t.port p = s.port p)
    (switch : t.switch p = s.switch p) : ShedOut p t := by
  unfold ShedOut
  rw [State.alloc, port, switch]
  exact h

/-- A shed order on a port in ON or in SHEDDING is on another port. -/
theorem ShedOut.ne {p x : Port} {s : State} (h : ShedOut p s) (granted : (s.alloc x).granted = true) : p ≠ x := fun e => by
  subst e
  rcases h.1 with e | e <;> rw [e] at granted <;> cases granted

theorem drop_reason {why : ShedReason} (other : why ≠ .mode) (r : PortRec) : (PortRec.drop why r).reason ≠ some .mode := by
  unfold PortRec.drop
  split
  · nofun
  · simpa using other

section Course

variable {p : Port} {r : PortRec} {w : SwitchRec}

/-- No shed order ends but with a port in STARTING as it was, or shed. -/
theorem standsOrShed_stable (starting : r.alloc = .starting) : ShedStable (fun s => StandsAs p r w s ∨ ShedOut p s) where
  drop {why x s} granted h := by
    by_cases own : p = x
    · subst own
      exact .inr (dropToShed_shedOut why p s)
    · have port : (dropToShed why x s).port p = s.port p := by rw [dropToShed_port, if_neg own]
      have switch := dropToShed_switch_ne why s own
      exact h.imp (fun stands => ⟨port.trans stands.1, switch.trans stands.2⟩) fun out => out.of_eq port switch
  enqueue _ h := h
  grace {why x s} on h := by
    have ne : p ≠ x := fun e => by
      subst e
      rcases h with ⟨port, -⟩ | out
      · rw [State.alloc, port, starting] at on; cases on
      · rcases out.1 with e | e <;> rw [e] at on <;> cases on
    have port : (startGrace why x s).port p = s.port p := by rw [startGrace_port, if_neg ne]
    exact h.imp (fun stands => ⟨port.trans stands.1, stands.2⟩) fun out => out.of_eq port rfl
  modeReason {x s} shedding h := by
    have ne : p ≠ x := fun e => by
      subst e
      rcases h with ⟨port, -⟩ | out
      · rw [State.alloc, port, starting] at shedding; cases shedding
      · rcases out.1 with e | e <;> rw [e] at shedding <;> cases shedding
    have port := State.mapPort_port_ne s (fun r => { r with reason := some .mode }) ne
    exact h.imp (fun stands => ⟨port.trans stands.1, stands.2⟩) fun out => out.of_eq port rfl
  hold h := h
  mark h := h

/-- Why a port that a shed check has shed is not admitted again: it is OFF, its parent is not ON, or the restore hold that
runs holds it back. -/
def Unwanted (p : Port) (s : State) : Prop :=
  s.alloc p = .off ∨ (∃ q, Orphan p q s) ∨ (s.essential p = false ∧ (s.port p).reason ≠ some .mode)

/-- What a shed order with reason ENVELOPE on a port that is not ESSENTIAL leaves of a port in STARTING. -/
def StandsOrUnwanted (p root : Port) (r : PortRec) (w : SwitchRec) (s : State) : Prop :=
  s.essential root = false ∧ (StandsAs p r w s ∨ (ShedOut p s ∧ Unwanted p s))

theorem essential_of_cfg {s t : State} {x : Port} (cfg : t.cfg x = s.cfg x) : t.essential x = s.essential x := by
  rw [State.essential, State.essential, cfg]

theorem Unwanted.of_port {s t : State} (h : Unwanted p s) (port : t.port p = s.port p)
    (orphan : ∀ q, Orphan p q s → Orphan p q t) : Unwanted p t := by
  refine h.imp (fun e => ?_) (Or.imp (fun ⟨q, parent⟩ => ⟨q, orphan q parent⟩) fun ⟨class_, reason⟩ => ⟨?_, ?_⟩)
  · rw [State.alloc, port]; exact e
  · rw [essential_of_cfg (congrArg PortRec.config port)]; exact class_
  · rw [port]; exact reason

theorem standsOrUnwanted_stable (root : Port) (starting : r.alloc = .starting) :
    StepStable root .envelope (fun _ => True) (StandsOrUnwanted p root r w) where
  child _ _ _ _ := trivial
  drop {why x s} h _ granted cause := by
    obtain ⟨class_, h⟩ := h
    refine ⟨(essential_of_cfg (dropToShed_cfg why x root s)).trans class_, ?_⟩
    by_cases own : p = x
    · subst own
      refine .inr ⟨dropToShed_shedOut why p s, ?_⟩
      rcases cause with ⟨rfl, rfl⟩ | ⟨q, orphan, -⟩
      · refine .inr (.inr ⟨(essential_of_cfg (dropToShed_cfg _ _ _ s)).trans class_, ?_⟩)
        rw [dropToShed_port, if_pos rfl]
        exact drop_reason (why := .envelope) (by decide) _
      · exact .inr (.inl ⟨q, (orphan_stable p q).drop granted orphan⟩)
    · have port : (dropToShed why x s).port p = s.port p := by rw [dropToShed_port, if_neg own]
      have switch := dropToShed_switch_ne why s own
      exact h.imp (fun stands => ⟨port.trans stands.1, switch.trans stands.2⟩) fun ⟨out, unwanted⟩ =>
        ⟨out.of_eq port switch, unwanted.of_port port fun q => (orphan_stable p q).drop granted⟩
  grace {why x s} h _ on _ _ := by
    obtain ⟨class_, h⟩ := h
    refine ⟨(essential_of_cfg (startGrace_cfg why x root s)).trans class_, ?_⟩
    have ne : p ≠ x := fun e => by
      subst e
      rcases h with ⟨port, -⟩ | ⟨out, -⟩
      · rw [State.alloc, port, starting] at on; cases on
      · rcases out.1 with e | e <;> rw [e] at on <;> cases on
    have port : (startGrace why x s).port p = s.port p := by rw [startGrace_port, if_neg ne]
    exact h.imp (fun stands => ⟨port.trans stands.1, stands.2⟩) fun ⟨out, unwanted⟩ =>
      ⟨out.of_eq port rfl, unwanted.of_port port fun q => (orphan_stable p q).grace on⟩
  modeReason _ _ _ mode := by cases mode

/-- R96: so a shed check leaves it. -/
theorem shedCheck_standsOrUnwanted (starting : r.alloc = .starting) (n : Nat) {s : State} (h : StandsAs p r w s) :
    StandsAs p r w (shedCheck n s) ∨ (ShedOut p (shedCheck n s) ∧ Unwanted p (shedCheck n s)) := by
  refine shedCheck_keeps (I := fun u => StandsAs p r w u ∨ (ShedOut p u ∧ Unwanted p u)) (fun v u mem hu => ?_) n (.inl h)
  have start : StandsOrUnwanted p v r w u := ⟨(mem_victims.1 mem).2.2, hu⟩
  have ordered := (standsOrUnwanted_stable v starting).shedOrder 8 start trivial (.inl ⟨rfl, rfl⟩)
  rw [shed, inOneStep, requeue_eq]
  exact ordered.2

/-! ## The pass (R75) -/

/-- At the walk of a pass over `l`: the port goes on outside `l`, or it has been shed and is not admitted. -/
def StandsOrBarred (l : List Port) (p : Port) (r : PortRec) (w : SwitchRec) (s : State) : Prop :=
  (StandsAs p r w s ∧ p ∉ l) ∨
    (ShedOut p s ∧ ((s.alloc p = .off ∧ p ∉ l) ∨ (∃ q, Orphan p q s) ∨
      (s.essential p = false ∧ (s.port p).reason ≠ some .mode ∧ s.engine.restoreHold.isSome = true)))

theorem skips_of_held {s : State} (class_ : s.essential p = false) (reason : (s.port p).reason ≠ some .mode)
    (hold : s.engine.restoreHold.isSome = true) : s.skips p = true := by
  simp [State.skips, State.holdsBack, class_, reason, hold]

theorem StandsOrBarred.admitPort {l : List Port} {x : Port} {s : State} (mem : x ∈ l) (enters : s.skips x = false)
    (h : StandsOrBarred l p r w s) : StandsOrBarred l p r w (admitPort x s) := by
  have ne : p ≠ x := fun e => by
    subst e
    rcases h with ⟨-, out⟩ | ⟨-, ⟨-, out⟩ | ⟨q, orphan⟩ | ⟨class_, reason, hold⟩⟩
    · exact out mem
    · exact out mem
    · rw [orphan.skips] at enters; cases enters
    · rw [skips_of_held class_ reason hold] at enters; cases enters
  have port : (Machine.admitPort x s).port p = s.port p := by rw [admitPort_port, if_neg ne]
  have switch := admitPort_switch_ne s ne
  refine h.imp (fun ⟨stands, out⟩ => ⟨⟨port.trans stands.1, switch.trans stands.2⟩, out⟩) fun ⟨gone, why⟩ =>
    ⟨gone.of_eq port switch, why.imp (fun ⟨off, out⟩ => ⟨?_, out⟩)
      (Or.imp (fun ⟨q, orphan⟩ => ⟨q, (orphan_stable p q).admitPort enters orphan⟩) fun ⟨class_, reason, hold⟩ =>
        ⟨?_, ?_, holdRuns_stable.admitPort enters hold⟩)⟩
  · rw [State.alloc, port]; exact off
  · rw [essential_of_cfg (congrArg PortRec.config port)]; exact class_
  · rw [port]; exact reason

/-- R75, R77: the pass at the end of a handling leaves the port going on, or shed. -/
theorem runOpportunity_standsOrShed (starting : r.alloc = .starting) {s : State}
    (h : StandsOrBarred s.engine.queue p r w s) :
    StandsAs p r w (runOpportunity s) ∨ ShedOut p (runOpportunity s) := by
  have stable := standsOrShed_stable (p := p) (w := w) starting
  have done {u : State} (hu : StandsOrBarred s.engine.queue p r w u) : StandsAs p r w u ∨ ShedOut p u :=
    hu.imp And.left And.left
  exact runOpportunity_reaches (J := fun u => StandsAs p r w u ∨ ShedOut p u) done (fun hu => hu)
    (fun x mem u enters hu => hu.admitPort mem enters) (fun x _ u hu => stable.bump x (done hu)) h

/-! ## The end of a changeover (R66, R81) -/

/-- R66, R67: what a recomputation leaves of the port, where a rise finds nothing to shed. -/
theorem recompute_standsOrShed (starting : r.alloc = .starting) {s : State} (h : StandsAs p r w s)
    (risen : s.engine.envelope < s.newEnvelope → shedCheck 8 (storeEnvelope s) = storeEnvelope s) :
    StandsAs p r w (recompute s) ∨
      (ShedOut p (recompute s) ∧ Unwanted p (recompute s) ∧ (recompute s).engine.restoreHold.isSome = true) := by
  have stored : StandsAs p r w (storeEnvelope s) := h
  unfold recompute afterRecompute
  dsimp only
  split
  · next rises =>
    rw [risen rises]
    refine .inl ⟨?_, ?_⟩
    · rcases cancelWalk_port (storeEnvelope s).cancelOrder (s := storeEnvelope s) (q := p) with e | ⟨shedding, -⟩
      · exact e.trans stored.1
      · rw [State.alloc, stored.1, starting] at shedding; cases shedding
    · exact (congrArg (tget · p) (cancelWalk_cancelFrame _ _).switches).trans stored.2
  · rcases shedCheck_holds 8 (storeEnvelope s) with e | hold
    · rw [e]; exact .inl stored
    · exact (shedCheck_standsOrUnwanted starting 8 stored).imp_right fun ⟨out, unwanted⟩ => ⟨out, unwanted, hold⟩

/-- R81: a port in STARTING after the end of a changeover: it goes on, or it has been shed. -/
theorem finish_standsOrShed (starting : r.alloc = .starting) (s0 : State) {s : State} (table : Table s)
    (h : StandsAs p r w s)
    (risen : s.engine.envelope < s.newEnvelope → shedCheck 8 (storeEnvelope s) = storeEnvelope s) :
    StandsAs p r w (finish s0 (opportunity (recompute s))) ∨ ShedOut p (finish s0 (opportunity (recompute s))) := by
  have after : Table (opportunity (recompute s)) := table.recompute.opportunity
  have out {a : AllocState} (unlisted : a.queued = false) (e : (opportunity (recompute s)).alloc p = a) :
      p ∉ (opportunity (recompute s)).engine.queue := fun mem => by
    have queued := after.queued_of_mem mem
    rw [e, unlisted] at queued
    cases queued
  have start : StandsOrBarred (opportunity (recompute s)).engine.queue p r w (opportunity (recompute s)) := by
    rcases recompute_standsOrShed starting h risen with stands | ⟨gone, unwanted, hold⟩
    · exact .inl ⟨stands, out (a := .starting) rfl ((congrArg PortRec.alloc stands.1).trans starting)⟩
    · refine .inr ⟨gone, unwanted.imp (fun off => ⟨off, out (a := .off) rfl off⟩) (Or.imp_right fun ⟨class_, reason⟩ =>
        ⟨class_, reason, hold⟩)⟩
  obtain ⟨ports, switches, -⟩ := finish_ports s0 (opportunity (recompute s))
  have port : (finish s0 (opportunity (recompute s))).port p = _ := congrArg (tget · p) ports
  have switch : (finish s0 (opportunity (recompute s))).switch p = _ := congrArg (tget · p) switches
  exact (runOpportunity_standsOrShed starting start).imp (fun stands => ⟨port.trans stands.1, switch.trans stands.2⟩)
    fun gone => gone.of_eq port switch

end Course

/-! ## What the recomputation reads and leaves -/

theorem recompute_held (s : State) : (recompute s).engine.held = s.engine.held := by
  have checked := (held_stable s.engine.held).shedCheck 8 (s := storeEnvelope s) rfl
  unfold recompute afterRecompute
  dsimp only
  split
  · obtain ⟨b, engine⟩ := (cancelWalk_cancelFrame (shedCheck 8 (storeEnvelope s)).cancelOrder
      (shedCheck 8 (storeEnvelope s))).engine
    rw [opportunity, State.mapEngine_engine, engine]
    exact checked
  · exact checked

theorem recompute_reports (s : State) : (recompute s).reports = s.reports := by
  have checked := (reports_stable s.reports).shedCheck 8 (s := storeEnvelope s) rfl
  unfold recompute afterRecompute
  dsimp only
  split
  · exact (cancelWalk_cancelFrame _ _).reports.trans checked
  · exact checked

/-- R66: the new envelope is a matter of the selector, the sense unit and the body reserve. -/
theorem newEnvelope_congr {s t : State} (sel : t.sel = s.sel) (sense : t.sense = s.sense)
    (reserve : t.engine.bodyReserve = s.engine.bodyReserve) : t.newEnvelope = s.newEnvelope := by
  simp only [State.newEnvelope, State.source, State.voltage, State.bodyPower, State.channelPower, State.sample, sel, sense,
    reserve]

theorem retained_congr {s t : State} (granted : t.engine.granted = s.engine.granted)
    (grant : ∀ q, (t.port q).grant = (s.port q).grant) (shedding : ∀ q, t.alloc q = .shedding ↔ s.alloc q = .shedding) :
    t.retained = s.retained := by
  have flag : ∀ q, (t.alloc q != .shedding) = (s.alloc q != .shedding) := fun q => by
    simp only [bne, beq_eq_decide, shedding]
  simp only [State.retained, State.grants, granted, grant, flag]

theorem Engine.numbers_fst (e : Engine) : e.numbers.1 = e.envelope := rfl

theorem opportunity_numbers (s : State) : (opportunity s).engine.numbers = s.engine.numbers := rfl

theorem opportunity_reports (s : State) : (opportunity s).reports = s.reports := rfl

theorem opportunity_cfg (s : State) (p : Port) : (opportunity s).cfg p = s.cfg p := rfl

theorem opportunity_held (s : State) : (opportunity s).engine.held = s.engine.held := rfl

theorem finish_recompute_envelope (s0 s : State) :
    (finish s0 (opportunity (recompute s))).engine.envelope = s.newEnvelope := by
  rw [← Engine.numbers_fst, finish_numbers, opportunity_numbers, recompute_numbers]

/-- No port is in HELD. -/
def NoneHeld (s : State) : Prop := ∀ p, s.alloc p ≠ .held

/-- Shedding and admission take no port to HELD. -/
theorem noneHeld_stable : PassStable NoneHeld where
  drop {why x s} _ h p := by
    rw [State.alloc, dropToShed_port]
    split
    · rcases drop_leaves why (s.port x) with e | e <;> rw [e] <;> nofun
    · exact h p
  enqueue _ h := h
  grace {why x s} _ h p := by
    rw [State.alloc, startGrace_port]
    split
    · nofun
    · exact h p
  modeReason {x s} shedding h p := by
    rw [State.alloc, State.mapPort_port]
    split
    · exact h x
    · exact h p
  hold h := h
  mark h := h
  admitPort {x s} _ h p := by
    rw [State.alloc, admitPort_port]
    split
    · nofun
    · exact h p

theorem recompute_noneHeld {s : State} (h : NoneHeld s) : NoneHeld (recompute s) := by
  have checked := noneHeld_stable.shedCheck 8 (s := storeEnvelope s) h
  unfold recompute afterRecompute
  dsimp only
  split
  · intro p
    rcases cancelWalk_port (shedCheck 8 (storeEnvelope s)).cancelOrder (s := shedCheck 8 (storeEnvelope s)) (q := p)
      with e | ⟨-, e⟩
    · exact fun held => checked p ((congrArg PortRec.alloc e).symm.trans held)
    · exact fun held => by have on := (congrArg PortRec.alloc e).symm.trans held; cases on
  · exact checked

theorem NoneHeld.opportunity {s : State} (h : NoneHeld s) : NoneHeld (opportunity s) := h

theorem finish_noneHeld (s0 : State) {s : State} (h : NoneHeld s) : NoneHeld (finish s0 s) := by
  obtain ⟨ports, -⟩ := finish_ports s0 s
  exact fun p held => noneHeld_stable.runOpportunity h p ((congrArg (fun v => (tget v p).alloc) ports).symm.trans held)

/-! ## The statement's forms -/

/-- R64: an event of the selector that the engine takes. -/
theorem takeEvent_of_head {e : SelEvent} {rest : List SelEvent} {s : State} (f : State → State)
    (head : s.selEvents = e :: rest) (out : s.mode ≠ .init) (running : s.resetHeld = false) :
    takeEvent e f s = finish { s with selEvents := rest } (f { s with selEvents := rest }) := by
  unfold takeEvent
  split
  · next empty => rw [head] at empty; cases empty
  · next found =>
    rw [head] at found
    cases found
    rw [if_pos ⟨rfl, out, running⟩]

theorem resuming_shedding {r : PortRec} : r.resuming.alloc = .shedding ↔ r.alloc = .shedding := by
  unfold PortRec.resuming
  split
  · next held => simp [held]
  · rfl

theorem resuming_grant (r : PortRec) : r.resuming.grant = r.grant := by
  unfold PortRec.resuming
  split <;> rfl

theorem resuming_essential (s : State) (p : Port) : (resumeAll s).essential p = s.essential p := by
  obtain ⟨parts, -⟩ := resumeAll_parts s
  rw [State.essential, State.essential, State.cfg, (parts p).1, PortRec.resuming]
  split <;> rfl

theorem storeEnvelope_cfg (s : State) (p : Port) : (storeEnvelope s).cfg p = s.cfg p := rfl

theorem storeEnvelope_envelope (s : State) : (storeEnvelope s).engine.envelope = s.newEnvelope := by
  rw [storeEnvelope, State.mapEngine_engine]

/-- R81, R96: an envelope that has risen over a state that respects it leaves the shed check nothing to do. -/
theorem resumeAll_risen {s : State} (respected : EnvelopeRespected s) (rises : s.engine.envelope < s.newEnvelope) :
    shedCheck 8 (storeEnvelope (resumeAll s)) = storeEnvelope (resumeAll s) := by
  obtain ⟨parts, engine⟩ := resumeAll_parts s
  have alloc : ∀ q, (storeEnvelope (resumeAll s)).alloc q = .shedding ↔ s.alloc q = .shedding := fun q => by
    rw [storeEnvelope, State.mapEngine_alloc, State.alloc, (parts q).1]
    exact resuming_shedding
  have granted : (storeEnvelope (resumeAll s)).engine.granted = s.engine.granted := by
    rw [storeEnvelope, State.mapEngine_engine, engine]
  have frame : EngineFrame s (resumeAll s) :=
    (mapEngine_frame _ s).trans (forEach_rel EngineFrame.refl EngineFrame.trans resumePort_frame _ _)
  refine shedCheck_idle ?_ 8
  rcases respected with within | done
  · left
    have same : (storeEnvelope (resumeAll s)).retained = s.retained :=
      retained_congr granted (fun q => by
        rw [storeEnvelope, State.mapEngine_port, (parts q).1]
        exact resuming_grant _) alloc
    have stored : (storeEnvelope (resumeAll s)).engine.envelope = s.newEnvelope :=
      (storeEnvelope_envelope _).trans (newEnvelope_congr frame.sel frame.sense (by rw [engine]))
    rw [same, stored]
    exact within.trans (Nat.le_of_lt rises)
  · right
    refine List.eq_nil_iff_forall_not_mem.2 fun q mem => ?_
    obtain ⟨listed, staying, class_⟩ := mem_victims.1 mem
    rw [granted] at listed
    rcases done q listed with shedding | essential
    · exact staying ((alloc q).2 shedding)
    · have same : (storeEnvelope (resumeAll s)).essential q = s.essential q :=
        (essential_of_cfg (storeEnvelope_cfg _ q)).trans (resuming_essential s q)
      rw [same, essential] at class_
      cases class_

end Sys2Proof.Machine

open Sys2Proof Sys2Proof.Machine

/-- Settles O19: the begin is exact; at the end every port in HELD goes on, unless the recomputation or the pass sheds it. -/
theorem heldFollowsTheChangeover : Obligations.HeldFollowsTheChangeover := by
  intro rest s out running
  refine ⟨fun head free => ?_, fun head => ?_⟩
  · generalize hs : ({ s with selEvents := rest } : State) = s0
    have effect : exec .changeoverBeginEvent s = .next (finish s0 (beginHold s0)) := by
      rw [← hs]
      exact congrArg Host.Outcome.next (takeEvent_of_head beginHold head out running)
    obtain ⟨parts, engine⟩ := beginHold_parts (s := s0) (by rw [← hs]; exact free)
    have idle := runOpportunity_idle (beginHold s0) (.inl (by rw [engine]))
    obtain ⟨ports, switches, -⟩ := finish_ports s0 (beginHold s0)
    rw [idle] at ports switches
    have frame := (beginHold_frame s0).toHandlingFrame.trans (finish_frame s0 (beginHold s0)).toHandlingFrame
    refine ⟨_, effect, ?_, ?_, fun p => ⟨?_, ?_⟩, ?_⟩
    · rw [frame.selEvents, ← hs]
    · rw [finish_engine, idle, State.mapEngine_engine, engine, ← hs]
    · refine (congrArg (tget · p) ports).trans ((parts p).1.trans ?_)
      rw [← hs]
      rfl
    · refine (congrArg (tget · p) switches).trans ((parts p).2.trans ?_)
      rw [← hs]
      rfl
    · rw [frame.sel, frame.sense, frame.pool, frame.store, frame.mode, ← hs]
      exact ⟨rfl, rfl, rfl, rfl, rfl⟩
  · generalize hs : ({ s with selEvents := rest } : State) = s0
    have effect : exec .changeoverEndEvent s = .next (finish s0 (endHold s0)) := by
      rw [← hs]
      exact congrArg Host.Outcome.next (takeEvent_of_head endHold head out running)
    obtain ⟨parts, engine⟩ := resumeAll_parts s0
    have port : ∀ q, s0.port q = s.port q := fun q => by rw [← hs]; rfl
    have resumeFrame : EngineFrame s0 (resumeAll s0) :=
      (mapEngine_frame _ s0).trans (forEach_rel EngineFrame.refl EngineFrame.trans resumePort_frame _ _)
    have envelope : (resumeAll s0).newEnvelope = s.newEnvelope := by
      rw [newEnvelope_congr resumeFrame.sel resumeFrame.sense (by rw [engine]), ← hs]
      rfl
    have frame := (endHold_frame s0).toHandlingFrame.trans (finish_frame s0 (endHold s0)).toHandlingFrame
    rw [endHold_eq] at effect frame
    refine ⟨_, effect, ?_, ?_, ?_, ?_, fun consistent respected p held => ?_, fun p held => ?_, fun p => ?_, ?_⟩
    · rw [frame.selEvents, ← hs]
    · rw [finish_held, opportunity_held, recompute_held, engine]
    · rw [finish_recompute_envelope, envelope]
    · refine finish_noneHeld s0 (recompute_noneHeld (s := resumeAll s0) fun p => ?_).opportunity
      rw [State.alloc, (parts p).1, PortRec.resuming]
      split
      · nofun
      · next other => exact other
    · obtain ⟨table, -⟩ := (tableConsistent_iff s).1 consistent.1
      have stored : Table s0 := by rw [← hs]; exact table.of_eq rfl rfl rfl rfl rfl fun _ => id
      have resumed : Table (resumeAll s0) :=
        forEach_keeps (I := Table) (fun p _ hu => hu.resumePort p) _ (stored.mapEngine rfl rfl rfl rfl)
      have held0 : s0.alloc p = .held := by rw [State.alloc, port]; exact held
      have stands : StandsAs p { s.port p with alloc := .starting } (s.switch p).resuming (resumeAll s0) := by
        refine ⟨?_, ?_⟩
        · exact (parts p).1.trans ((congrArg PortRec.resuming (port p)).trans (if_pos held))
        · rw [(parts p).2.1, if_pos held0, ← hs]
          rfl
      have respected0 : EnvelopeRespected s0 := by rw [← hs]; exact respected
      rcases finish_standsOrShed rfl s0 resumed stands (fun rises => resumeAll_risen respected0 (by
          rw [engine, envelope] at rises
          rw [← hs] at rises ⊢
          exact rises)) with goes | gone
      · refine .inl ⟨congrArg PortRec.alloc goes.1, goes.1, goes.2.trans ?_⟩
        generalize s.switch p = w
        obtain ⟨state, -, -, -, -, -, -, good⟩ := w
        cases state
        case paused => cases good <;> rfl
        all_goals rfl
      · exact .inr gone
    · rw [State.reportsOf, finish_reports, opportunity_reports, recompute_reports]
      refine (parts p).2.2.trans ?_
      rw [if_pos (by rw [State.alloc, port]; exact held), ← hs]
      rfl
    · rw [(finish_frame s0 _).config p, opportunity_cfg, (recompute_frame _).config p, State.cfg, (parts p).1, port, PortRec.resuming]
      split <;> rfl
    · rw [frame.sel, frame.sense, frame.pool, frame.store, frame.mode, ← hs]
      exact ⟨rfl, rfl, rfl, rfl, rfl⟩

end

section
/-! The shed check and the taking of victims run until nothing is left to take (R77, R96): what each turn takes, and how few
turns there are. -/

namespace Sys2Proof.Machine

/-! ## The ports that shedding may still take -/

/-- The port is in the granted list and not in SHEDDING. -/
abbrev Stays (p : Port) (s : State) : Prop := (s.alloc p).granted = true ∧ s.alloc p ≠ .shedding

theorem Table.stays_iff {p : Port} {s : State} (h : Table s) :
    Stays p s ↔ p ∈ s.engine.granted ∧ s.alloc p ≠ .shedding := by rw [Stays, h.granted]

theorem stays_congr {p : Port} {s t : State} (port : t.port p = s.port p) : Stays p t ↔ Stays p s := by
  rw [Stays, Stays, State.alloc, State.alloc, port]

theorem dropToShed_not_stays (why : ShedReason) (p : Port) (s : State) : ¬Stays p (dropToShed why p s) := by
  rintro ⟨granted, -⟩
  rcases dropToShed_alloc_self why p s with e | e <;> rw [e] at granted <;> cases granted

theorem startGrace_not_stays (why : ShedReason) (p : Port) (s : State) : ¬Stays p (startGrace why p s) := by
  rintro ⟨-, other⟩
  refine other ?_
  rw [State.alloc, startGrace_port, if_pos rfl]

/-- Shedding gives no port back. -/
theorem not_stays_stable (q : Port) : ShedStable (fun s => ¬Stays q s) where
  drop {why x s} _ h := by
    by_cases own : q = x
    · subst own; exact dropToShed_not_stays why q s
    · exact (not_congr (stays_congr (by rw [dropToShed_port, if_neg own]))).2 h
  enqueue _ h := h
  grace {why x s} _ h := by
    by_cases own : q = x
    · subst own; exact startGrace_not_stays why q s
    · exact (not_congr (stays_congr (by rw [startGrace_port, if_neg own]))).2 h
  modeReason {x s} shedding h := by
    rintro ⟨granted, other⟩
    have same : (s.mapPort x fun r => { r with reason := some .mode }).alloc q = s.alloc q := by
      rw [State.alloc, State.mapPort_port]
      split
      · next own => rw [own]; rfl
      · rfl
    rw [same] at granted other
    exact h ⟨granted, other⟩
  hold h := h
  mark h := h

/-- R91: a shed order takes its port. -/
theorem shedOrder_takes {v : Port} {s : State} (stays : Stays v s) (n : Nat) (why : ShedReason) :
    ¬Stays v (shedOrder (n + 1) why v s) := by
  have tree : ¬Stays v (dropTree why v s) :=
    (not_stays_stable v).dropChildren 8 v (dropToShed_not_stays why v s)
  unfold shedOrder
  rcases AllocState.granted_iff.1 stays.1 with e | e | e | e
  · rw [e]; exact tree
  · rw [e]; exact tree
  · rw [e]
    dsimp only
    split
    · exact tree
    · exact forEach_keeps (I := fun u => ¬Stays v u)
        (fun q u hu => (not_stays_stable v).shedOrder n .dependency q hu) _ (startGrace_not_stays why v s)
  · exact absurd e stays.2

theorem shed_takes {v : Port} {s : State} (stays : Stays v s) (why : ShedReason) : ¬Stays v (shed why v s) :=
  (not_stays_stable v).requeue _ (shedOrder_takes stays 7 why)

/-- How many ports shedding may still take. -/
def stayCount (s : State) : Nat := (Finset.univ.filter fun q => Stays q s).card

theorem stayCount_le (s : State) : stayCount s ≤ 8 := Finset.card_le_univ _

/-- Each turn takes one at least. -/
theorem shed_stayCount_lt {v : Port} {s : State} (stays : Stays v s) (why : ShedReason) :
    stayCount (shed why v s) < stayCount s := by
  refine Finset.card_lt_card (Finset.ssubset_iff_of_subset (fun q mem => ?_) |>.2 ⟨v, by simpa using stays, ?_⟩)
  · rw [Finset.mem_filter] at mem ⊢
    exact ⟨Finset.mem_univ q, by_contra fun out => (not_stays_stable q).shed why v out mem.2⟩
  · rw [Finset.mem_filter]
    exact fun mem => shed_takes stays why mem.2

theorem stayCount_pos {v : Port} {s : State} (stays : Stays v s) : 0 < stayCount s :=
  Finset.card_pos.2 ⟨v, by simpa using stays⟩

/-! ## The end of a shed check and of the taking of victims -/

/-- R96: a shed check ends within the envelope, or with none to choose. -/
theorem shedCheck_exhausts (n : Nat) : ∀ {s : State}, Table s → stayCount s ≤ n →
    (shedCheck n s).retained ≤ (shedCheck n s).engine.envelope ∨ (shedCheck n s).victims = [] := by
  induction n with
  | zero =>
    intro s table none
    refine .inr (List.eq_nil_iff_forall_not_mem.2 fun v mem => ?_)
    obtain ⟨listed, staying, -⟩ := mem_victims.1 mem
    have := stayCount_pos (table.stays_iff.2 ⟨listed, staying⟩)
    omega
  | succ n ih =>
    intro s table few
    by_cases within : s.retained ≤ s.engine.envelope
    · rw [shedCheck_idle (.inl within)]
      exact .inl within
    · cases chosen : lowestKeyed s.key s.victims with
      | none =>
        have none := lowestKeyed_eq_none.1 chosen
        rw [shedCheck_idle (.inr none)]
        exact .inr none
      | some v =>
        obtain ⟨listed, staying, -⟩ := mem_victims.1 (lowestKeyed_mem _ chosen)
        have fewer := shed_stayCount_lt (table.stays_iff.2 ⟨listed, staying⟩) .envelope
        rw [shedCheck_succ (by omega) chosen]
        exact ih (table.shed .envelope v).startHold (Nat.le_of_lt_succ (lt_of_lt_of_le fewer few))

theorem mem_bumpPool {cand v : Port} {s : State} :
    v ∈ s.bumpPool cand ↔
      v ∈ s.engine.granted ∧ s.alloc v ≠ .shedding ∧ s.essential v = false ∧ s.key cand < s.key v := by
  simp [State.bumpPool, and_assoc]

/-- R77: with room, or with none to choose, no victim is taken. -/
theorem takeVictims_idle {cand : Port} {need : Nat} {s : State}
    (idle : s.retained + need ≤ s.engine.envelope ∨ s.bumpPool cand = []) (n : Nat) : takeVictims cand need n s = s := by
  cases n with
  | zero => rfl
  | succ n =>
    unfold takeVictims
    split
    · rfl
    · next beyond =>
      rw [idle.resolve_left beyond]
      rfl

theorem takeVictims_succ {cand v : Port} {need : Nat} {s : State} (beyond : s.engine.envelope < s.retained + need)
    (chosen : lowestKeyed s.key (s.bumpPool cand) = some v) (n : Nat) :
    takeVictims cand need (n + 1) s = takeVictims cand need n (shed .preempted v s) := by
  unfold takeVictims
  rw [if_neg (by omega), chosen]
  cases n <;> rfl

/-- What each turn keeps, the taking of victims keeps. -/
theorem takeVictims_keeps {I : State → Prop} {cand : Port} {need : Nat}
    (turn : ∀ v u, v ∈ u.bumpPool cand → I u → I (shed .preempted v u)) (n : Nat) :
    ∀ {s : State}, I s → I (takeVictims cand need n s) := by
  induction n with
  | zero => exact id
  | succ n ih =>
    intro s hs
    unfold takeVictims
    split
    · exact hs
    · split
      · exact hs
      · next v chosen => exact ih (turn v s (lowestKeyed_mem _ chosen) hs)

/-- R77: the taking of victims ends with room, or with none to choose. -/
theorem takeVictims_exhausts {cand : Port} {need : Nat} (n : Nat) : ∀ {s : State}, Table s → stayCount s ≤ n →
    (takeVictims cand need n s).retained + need ≤ (takeVictims cand need n s).engine.envelope ∨
      (takeVictims cand need n s).bumpPool cand = [] := by
  induction n with
  | zero =>
    intro s table none
    refine .inr (List.eq_nil_iff_forall_not_mem.2 fun v mem => ?_)
    obtain ⟨listed, staying, -⟩ := mem_bumpPool.1 mem
    have := stayCount_pos (table.stays_iff.2 ⟨listed, staying⟩)
    omega
  | succ n ih =>
    intro s table few
    by_cases within : s.retained + need ≤ s.engine.envelope
    · rw [takeVictims_idle (.inl within)]
      exact .inl within
    · cases chosen : lowestKeyed s.key (s.bumpPool cand) with
      | none =>
        have none := lowestKeyed_eq_none.1 chosen
        rw [takeVictims_idle (.inr none)]
        exact .inr none
      | some v =>
        obtain ⟨listed, staying, -⟩ := mem_bumpPool.1 (lowestKeyed_mem _ chosen)
        have fewer := shed_stayCount_lt (table.stays_iff.2 ⟨listed, staying⟩) .preempted
        rw [takeVictims_succ (by omega) chosen]
        exact ih (table.shed .preempted v) (Nat.le_of_lt_succ (lt_of_lt_of_le fewer few))

end Sys2Proof.Machine
end

section
/-! The admission pass (R75, R76) and the victims of a bump (R77): which entries a pass goes over, what an admission writes,
and that victims make the room the pool promises. -/

namespace Sys2Proof.Machine

/-! ## The entries of a pass (R75) -/

theorem essential_iff {s : State} {p : Port} : s.essential p = true ↔ (s.cfg p).cls = .essential := by
  rw [State.essential, beq_iff_eq]

theorem not_essential_iff {s : State} {p : Port} : s.essential p = false ↔ (s.cfg p).cls ≠ .essential := by
  rw [Ne, ← essential_iff, Bool.not_eq_true]

theorem modeForbids_iff {m : Mode} {b : Bool} :
    modeForbids m b = true ↔ m = .init ∨ m = .standby ∨ (m = .economy ∧ b = false) := by
  cases m <;> simp [modeForbids]

theorem skips_iff {s : State} {p : Port} : s.skips p = true ↔ PassSkips s p := by
  have parent : (!s.parentOn p) = true ↔ ∃ q, (s.cfg p).parent = some q ∧ s.alloc q ≠ .on := by
    rw [Bool.not_eq_true', ← Bool.not_eq_true, parentOn_iff]
    simp [State.parentOf]
  have hold : s.holdsBack p = true ↔ s.engine.restoreHold.isSome = true ∧ (s.cfg p).cls ≠ .essential ∧
      ¬(s.alloc p = .shed ∧ (s.port p).reason = some .mode) := by
    rw [State.holdsBack, Bool.and_eq_true, Bool.and_eq_true, Bool.not_eq_true', not_essential_iff, and_assoc]
    simp [imp_iff_not_or]
  rw [State.skips, Bool.or_eq_true, Bool.or_eq_true, parent, hold, modeForbids_iff, not_essential_iff, PassSkips]
  simp only [or_assoc]

/-- R75: a pass passes over the entries it skips. -/
theorem passWalk_skipped {l rest : List Port} {s : State} (skipped : ∀ q ∈ l, s.skips q = true) :
    passWalk (l ++ rest) s = passWalk rest s := by
  induction l with
  | nil => rfl
  | cons q l ih =>
    rw [List.cons_append, passWalk, if_pos (skipped q List.mem_cons_self)]
    exact ih fun x mem => skipped x (List.mem_cons_of_mem q mem)

theorem hasSlot_iff {e : Engine} : e.hasSlot = true ↔ e.slot0 = none ∨ e.slot1 = none := by
  simp [Engine.hasSlot]

/-- R75: the need of an entry. -/
theorem need_eq (s : State) (p : Port) :
    s.need p = (s.port p).request +
      (if s.alloc p = .shed ∧ ((s.port p).reason = some .envelope ∨ (s.port p).reason = some .noSource ∨
        (s.port p).reason = some .overdraw) then s.engine.restoreMargin else 0) := by
  have asks : needsMargin (s.port p).reason = true ↔ (s.port p).reason = some .envelope ∨
      (s.port p).reason = some .noSource ∨ (s.port p).reason = some .overdraw := by
    rcases (s.port p).reason with _ | r
    · simp [needsMargin]
    · cases r <;> simp [needsMargin]
  simp only [State.need, asks]

/-- R76: the admission of a port whose switch is OPEN. -/
theorem admitPort_eq {p : Port} {s : State} (opened : (s.switch p).state = .opened) :
    admitPort p s =
      { s with
        ports :=
          tput s.ports p { s.port p with alloc := .starting, grant := (s.port p).request, reason := none, overdraw := 0 }
        switches :=
          tput s.switches p
            { s.switch p with
              state := .ramping (s.cfg p).rampTime 0, armed := false, filter := none, powerGood := false }
        engine :=
          { s.engine with
            queue := without p s.engine.queue
            granted := s.engine.granted ++ [p]
            slot0 := if s.engine.slot0 = none then some p else s.engine.slot0
            slot1 := if s.engine.slot0 = none then s.engine.slot1 else some p } } := by
  have engine := admitPort_engine p s
  have started : ∀ u : State, u.switch p = s.switch p → u.cfg p = s.cfg p →
      switchOn p u =
        u.setSwitch p
          { s.switch p with
            state := .ramping (s.cfg p).rampTime 0, armed := false, filter := none, powerGood := false } := by
    intro u switch cfg
    unfold switchOn
    rw [switch, opened, cfg]
    rfl
  have parts : admitPort p s = { (admitPort p s) with engine := (admitPort p s).engine } := rfl
  have on := started
    ((s.mapPort p fun r => { r with alloc := .starting, grant := r.request, reason := none, overdraw := 0 }).mapEngine
      fun e => { e.takeSlot p with queue := without p e.queue, granted := e.granted ++ [p] })
    rfl (by rw [State.cfg, State.mapEngine_port, State.mapPort_port_self]; rfl)
  rw [parts, engine, admitPort, on]
  rfl

/-- R75: an admission changes the standing of no other entry. -/
theorem skips_admitPort_ne {p q : Port} {s : State} (ne : q ≠ p) (off : s.alloc p ≠ .on) :
    (admitPort p s).skips q = s.skips q := by
  have cfg : ∀ x, (admitPort p s).cfg x = s.cfg x := (admitPort_becomes p s).cfg
  have port : (admitPort p s).port q = s.port q := by rw [admitPort_port, if_neg ne]
  have on : ∀ x, (admitPort p s).alloc x = .on ↔ s.alloc x = .on := fun x => by
    by_cases own : x = p
    · subst own
      rw [(admitPort_becomes x s).alloc_self]
      exact ⟨nofun, fun e => absurd e off⟩
    · rw [(admitPort_becomes p s).alloc_other own]
  have hold : (admitPort p s).engine.restoreHold = s.engine.restoreHold := by rw [admitPort_engine]
  have alloc : (admitPort p s).alloc q = s.alloc q := congrArg PortRec.alloc port
  rw [Bool.eq_iff_iff, skips_iff, skips_iff, PassSkips, PassSkips]
  simp only [cfg, (admitPort_frame p s).mode, port, hold, alloc, ne_eq, on]

/-! ## The pool and its dependants (R77) -/

theorem bumpPool_eq (s : State) (p : Port) :
    s.bumpPool p = s.engine.granted.filter
      (fun q => decide (s.alloc q ≠ .shedding ∧ (s.cfg q).cls ≠ .essential ∧ s.key p < s.key q)) := by
  refine List.filter_congr fun q _ => ?_
  rw [Bool.eq_iff_iff]
  simp [← not_essential_iff, and_assoc]

theorem Table.bumpPool_nodup {s : State} (h : Table s) (p : Port) : (s.bumpPool p).Nodup := h.grantedNodup.filter _

theorem bumpPool_subset (s : State) (p : Port) : s.bumpPool p ⊆ s.engine.granted := fun _ mem => (mem_bumpPool.1 mem).1

theorem Table.mem_bumpRoom {s : State} (h : Table s) {p q : Port} :
    q ∈ s.bumpRoom p ↔ q ∈ s.bumpPool p ∨
      (q ∈ s.engine.granted ∧ s.alloc q ≠ .shedding ∧ ∃ r ∈ s.bumpRoom p, s.parentOf q = some r) := by
  rw [State.bumpRoom, mem_closure_iff h.acyclic (bumpPool_subset s p), bne_iff_ne]

theorem Table.bumpRoom_nodup {s : State} (h : Table s) (p : Port) : (s.bumpRoom p).Nodup :=
  closure_nodup h.grantedNodup 7

theorem Table.stays_of_mem_bumpRoom {s : State} (h : Table s) {p q : Port} (mem : q ∈ s.bumpRoom p) : Stays q s := by
  rw [h.stays_iff]
  rcases h.mem_bumpRoom.1 mem with pool | ⟨listed, staying, -⟩
  · obtain ⟨listed, staying, -⟩ := mem_bumpPool.1 pool
    exact ⟨listed, staying⟩
  · exact ⟨listed, staying⟩

/-! ## Grants as sums over sets -/

theorem grants_eq_sum {l : List Port} (nodup : l.Nodup) (s : State) :
    s.grants l = ∑ q ∈ l.toFinset, (s.port q).grant := (List.sum_toFinset _ nodup).symm

theorem Table.retained_eq {s : State} (h : Table s) : s.retained = ∑ q with Stays q s, (s.port q).grant := by
  rw [State.retained, grants_eq_sum (h.grantedNodup.filter _)]
  refine Finset.sum_congr (Finset.ext fun q => ?_) fun _ _ => rfl
  simp [h.granted]

/-! ## What the victims of a bump are, and what they free (R77) -/

/-- The ports that a bump may reach: the pool, its dependants, and what hangs on a port in SHEDDING. -/
def BumpReach (p : Port) (s : State) (x : Port) : Prop := x ∈ s.bumpRoom p ∨ s.alloc x = .shedding

theorem Table.bumpReach_closed {s : State} (h : Table s) (p : Port) : ClosedUnder (BumpReach p s) s := by
  intro x y listed up reach
  rcases h.up ((h.granted x).1 listed) up with on | ⟨-, shedding⟩
  · have room : y ∈ s.bumpRoom p := reach.resolve_right (by rw [on]; nofun)
    by_cases shedding : s.alloc x = .shedding
    · exact .inr shedding
    · exact .inl (h.mem_bumpRoom.2 (.inr ⟨listed, shedding, y, room, up⟩))
  · exact .inr shedding

/-- A shed order, as one step, within a closed set of ports. -/
theorem OutsideAs.shed {D : Port → Prop} {v : State} {x : Port} {s : State} (h : OutsideAs D v s) (reach : D x)
    (why : ShedReason) : OutsideAs D v (shed why x s) := by
  have ordered := (outsideAs_stable x why D v).shedOrder 8 h reach (.inl ⟨rfl, rfl⟩)
  rw [Machine.shed, inOneStep, requeue_eq]
  exact ordered

/-- The state in which victims are taken from `s`: nothing out of reach has changed. -/
structure Bumped (p : Port) (s u : State) : Prop where
  table : Table u
  outside : OutsideAs (BumpReach p s) s u
  frame : ShedFrame s u
  taken : ∀ q, ¬Stays q s → ¬Stays q u

theorem Table.bumped {s : State} (h : Table s) (p : Port) : Bumped p s s :=
  ⟨h, ⟨h.bumpReach_closed p, fun _ _ => ⟨rfl, rfl⟩⟩, .refl s, fun _ => id⟩

/-- Every victim is within reach. -/
theorem Bumped.reach {p v : Port} {s u : State} (table : Table s) (h : Bumped p s u) (mem : v ∈ u.bumpPool p) :
    BumpReach p s v := by
  by_contra out
  obtain ⟨listed, staying, class_, key⟩ := mem_bumpPool.1 mem
  have stays := (stays_congr (h.outside.2 v out).1).1 (h.table.stays_iff.2 ⟨listed, staying⟩)
  obtain ⟨listed, staying⟩ := table.stays_iff.1 stays
  rw [essential_of_cfg (h.frame.config v)] at class_
  rw [key_of_cfg h.frame.config] at key
  exact out (.inl (table.mem_bumpRoom.2 (.inl (mem_bumpPool.2 ⟨listed, staying, class_, key⟩))))

theorem Bumped.takeVictims {p : Port} {s : State} (table : Table s) (need n : Nat) :
    Bumped p s (takeVictims p need n s) :=
  takeVictims_keeps (I := Bumped p s) (fun v u mem hu =>
    ⟨hu.table.shed .preempted v, hu.outside.shed (hu.reach table mem) .preempted,
      hu.frame.trans (shed_frame .preempted v u), fun q out => (not_stays_stable q).shed .preempted v (hu.taken q out)⟩) n (table.bumped p)

/-- R77, R106: with the pool empty, none of its dependants is left to take. -/
theorem Bumped.room_left {p : Port} {s u : State} (h : Bumped p s u) (none : u.bumpPool p = []) (n : Nat) :
    ∀ {q}, q ∈ closure s (fun q => s.alloc q != .shedding) s.engine.granted n (s.bumpPool p) → ¬Stays q u := by
  have pool {q} (mem : q ∈ s.bumpPool p) : ¬Stays q u := fun stays => by
    obtain ⟨-, -, class_, key⟩ := mem_bumpPool.1 mem
    obtain ⟨listed, staying⟩ := h.table.stays_iff.1 stays
    have left : q ∈ u.bumpPool p := mem_bumpPool.2 ⟨listed, staying, by
      rw [essential_of_cfg (h.frame.config q)]; exact class_, by rw [key_of_cfg h.frame.config]; exact key⟩
    rw [none] at left
    cases left
  induction n with
  | zero => exact pool
  | succ n ih =>
    intro q mem stays
    rw [closure_succ] at mem
    obtain ⟨-, before | ⟨-, r, up, before⟩⟩ := mem_closureRound.1 mem
    · exact ih before stays
    · rw [← parentOf_of_cfg h.frame.config] at up
      rcases h.table.up stays.1 up with on | ⟨-, shedding⟩
      · exact ih before ⟨by rw [on]; rfl, by rw [on]; nofun⟩
      · exact stays.2 shedding

/-- R77: with the pool empty, the grants of the pool and of its dependants are free. -/
theorem Bumped.retained_le {p : Port} {s u : State} (table : Table s) (h : Bumped p s u) (none : u.bumpPool p = []) :
    u.retained + s.grants (s.bumpRoom p) ≤ s.retained := by
  have left : ∀ q, Stays q u → Stays q s ∧ q ∉ s.bumpRoom p ∧ u.port q = s.port q := fun q stays => by
    have before : Stays q s := by_contra fun out => h.taken q out stays
    have out : q ∉ s.bumpRoom p := fun mem => h.room_left none 8 mem stays
    exact ⟨before, out, (h.outside.2 q (not_or.2 ⟨out, before.2⟩)).1⟩
  have apart : Disjoint ({q | Stays q u} : Finset Port) (s.bumpRoom p).toFinset :=
    Finset.disjoint_left.2 fun q stays mem => (left q (by simpa using stays)).2.1 (by simpa using mem)
  have within : ({q | Stays q u} : Finset Port) ∪ (s.bumpRoom p).toFinset ⊆ ({q | Stays q s} : Finset Port) := fun q mem => by
    rw [Finset.mem_filter]
    refine ⟨Finset.mem_univ q, ?_⟩
    rcases Finset.mem_union.1 mem with stays | room
    · exact (left q (by simpa using stays)).1
    · exact table.stays_of_mem_bumpRoom (by simpa using room)
  calc u.retained + s.grants (s.bumpRoom p)
      = ∑ q with Stays q u, (s.port q).grant + ∑ q ∈ (s.bumpRoom p).toFinset, (s.port q).grant := by
        rw [h.table.retained_eq, grants_eq_sum (table.bumpRoom_nodup p)]
        exact congrArg (· + _) (Finset.sum_congr rfl fun q stays => by rw [(left q (by simpa using stays)).2.2])
    _ = ∑ q ∈ ({q | Stays q u} : Finset Port) ∪ (s.bumpRoom p).toFinset, (s.port q).grant :=
        (Finset.sum_union apart).symm
    _ ≤ s.retained := by rw [table.retained_eq]; exact Finset.sum_le_sum_of_subset within

end Sys2Proof.Machine
end

section
/-! The end of every handling (R64, R74, R98, R116) and the cases of the admission pass (R75 to R77): the statement O27. -/

namespace Sys2Proof.Machine

/-! ## Overcommit (R98) -/

theorem updateOvercommit_overcommit (s : State) :
    (updateOvercommit s).engine.overcommit = decide (s.engine.envelope < s.retained) := by
  unfold updateOvercommit
  dsimp only
  split
  · next same => exact same.symm
  · rfl

theorem retained_of_ports {s t : State} (ports : t.ports = s.ports) (granted : t.engine.granted = s.engine.granted) :
    t.retained = s.retained := by
  simp only [State.retained, State.grants, State.port, State.alloc, granted, ports]

/-- R98: the mark says whether retained power is beyond the envelope, both as they stand. -/
theorem finish_overcommit (s0 s : State) :
    (finish s0 s).engine.overcommit = decide ((finish s0 s).engine.envelope < (finish s0 s).retained) := by
  obtain ⟨ports, -, -, marked⟩ := finish_ports s0 s
  have engine := finish_engine s0 s
  have granted : (finish s0 s).engine.granted = (runOpportunity s).engine.granted := by rw [engine]
  have envelope : (finish s0 s).engine.envelope = (runOpportunity s).engine.envelope := by rw [engine]
  rw [retained_of_ports ports granted, envelope, marked, updateOvercommit_overcommit]

theorem finish_envelope (s0 s : State) : (finish s0 s).engine.envelope = s.engine.envelope := by
  rw [← Engine.numbers_fst, finish_numbers, Engine.numbers_fst]

/-! ## The notices of the ports (R64) -/

theorem HandlingFrame.mask {s t : State} (h : HandlingFrame s t) : t.link.mask = s.link.mask := by rw [h.link]

theorem postNotice_mem {n : Notice} {s : State} (enabled : s.link.enables n = true) :
    n ∈ (postNotice n s).link.notices := mem_post_self enabled

theorem postNotice_keeps_mem {n m : Notice} {s : State} (h : m ∈ s.link.notices) (other : n.sameAs m = false) :
    m ∈ (postNotice n s).link.notices := mem_post_of_mem h other

theorem portStateNotice_other {p q : Port} (ne : q ≠ p) (r r' : PortRec) :
    (portStateNotice q r).sameAs (portStateNotice p r') = false := by
  have subjects : (q.val == p.val) = false := by simpa [Fin.ext_iff] using ne
  exact (Bool.and_eq_false_iff.2 (.inr subjects) : ((1 == 1) && (q.val == p.val)) = false)

/-- The state still has the ports and the mask of `s`. -/
def Announcing (s u : State) : Prop := u.ports = s.ports ∧ u.link.mask = s.link.mask

/-- The same, and the port has its notice in the queue. -/
def Announced (p : Port) (s u : State) : Prop := Announcing s u ∧ portStateNotice p (s.port p) ∈ u.link.notices

theorem mem_allPorts (p : Port) : p ∈ allPorts := by
  fin_cases p <;> decide

theorem announcePort_announcing {s u : State} (h : Announcing s u) (q : Port) : Announcing s (announcePort q u) :=
  ⟨((queueStateRecord_frame q _).ports.trans (postNotice_frame _ u).ports).trans h.1,
    (announcePort_frame q u).toHandlingFrame.mask.trans h.2⟩

/-- R64: the port has its notice in the queue. -/
theorem announcePort_self {p : Port} {u : State} (mask : u.link.mask.getLsbD 0 = true) :
    portStateNotice p (u.port p) ∈ (announcePort p u).link.notices := by
  rw [announcePort, (queueStateRecord_frame p _).notices]
  exact postNotice_mem (n := portStateNotice p (u.port p)) mask

theorem announcePort_keeps {p q : Port} {u : State} (ne : q ≠ p) {r : PortRec}
    (h : portStateNotice p r ∈ u.link.notices) : portStateNotice p r ∈ (announcePort q u).link.notices := by
  rw [announcePort, (queueStateRecord_frame q _).notices]
  exact postNotice_keeps_mem h (portStateNotice_other ne _ _)

/-- R64: after the announcements every port that changed has its notice. -/
theorem announceChanges_mem {p : Port} {s0 s : State} (mask : s.link.mask.getLsbD 0 = true)
    (changed : (s.port p).changedFrom (s0.port p) = true) :
    portStateNotice p (s.port p) ∈ (announceChanges s0 s).link.notices := by
  have same {u : State} (h : Announcing s u) (q : Port) : u.port q = s.port q := congrArg (tget · q) h.1
  have turn (q : Port) (u : State) (h : Announcing s u) :
      Announcing s (if (u.port q).changedFrom (s0.port q) then announcePort q u else u) := by
    split
    · exact announcePort_announcing h q
    · exact h
  have own {u : State} (h : Announcing s u) : portStateNotice p (s.port p) ∈ (announcePort p u).link.notices := by
    rw [← same h p]
    exact announcePort_self (by rw [h.2]; exact mask)
  have kept (q : Port) (u : State) (h : Announced p s u) :
      Announced p s (if (u.port q).changedFrom (s0.port q) then announcePort q u else u) := by
    refine ⟨turn q u h.1, ?_⟩
    split
    · by_cases e : q = p
      · rw [e]; exact own h.1
      · exact announcePort_keeps e h.2
    · exact h.2
  have first (u : State) (h : Announcing s u) :
      Announced p s (if (u.port p).changedFrom (s0.port p) then announcePort p u else u) := by
    refine ⟨turn p u h, ?_⟩
    rw [same h, if_pos changed]
    exact own h
  have reached : Announced p s (announceChanges s0 s) :=
    forEach_reaches (I := Announcing s) turn first kept (mem_allPorts p) ⟨rfl, rfl⟩
  exact reached.2

/-! ## The wind-down (R116) -/

theorem windDown_keeps_mem {p : Port} {r : PortRec} {s : State} (h : portStateNotice p r ∈ s.link.notices) :
    portStateNotice p r ∈ (windDown s).link.notices := by
  have off : portStateNotice p r ∈ (turnRailsOff s).link.notices := by rw [turnRailsOff_notices]; exact h
  unfold windDown
  generalize turnRailsOff s = u at off ⊢
  split
  · exact postNotice_keeps_mem off rfl
  · exact h

/-- R116: in STANDBY with an empty granted list the rails are off. -/
theorem windDown_rails {s : State} (standby : s.mode = .standby) (empty : s.engine.granted = []) :
    (windDown s).rails = false := by
  unfold windDown
  split
  · exact (postNotice_frame _ _).rails
  · next on => simpa [standby, empty] using on

/-! ## Both at the end of a handling -/

theorem finish_notice {p : Port} {s0 s : State} (mask : s.link.mask.getLsbD 0 = true)
    (changed : ((finish s0 s).port p).changedFrom (s0.port p) = true) :
    portStateNotice p ((finish s0 s).port p) ∈ (finish s0 s).link.notices := by
  unfold finish at changed ⊢
  have frame := ((runOpportunity_frame s).trans (updateOvercommit_frame _)).toHandlingFrame.mask
  generalize updateOvercommit (runOpportunity s) = u at frame changed ⊢
  have ports : (windDown (announceChanges s0 u)).ports = u.ports :=
    (windDown_frame _).ports.trans (announceChanges_engine s0 u).1
  have port : (windDown (announceChanges s0 u)).port p = u.port p := congrArg (tget · p) ports
  rw [port] at changed ⊢
  exact windDown_keeps_mem (announceChanges_mem (by rw [frame]; exact mask) changed)

theorem finish_lists (s0 s : State) :
    (finish s0 s).engine.queue = (runOpportunity s).engine.queue ∧
      (finish s0 s).engine.granted = (runOpportunity s).engine.granted ∧
      (finish s0 s).engine.slot0 = (runOpportunity s).engine.slot0 ∧
      (finish s0 s).engine.slot1 = (runOpportunity s).engine.slot1 := by
  rw [finish_engine]
  exact ⟨rfl, rfl, rfl, rfl⟩

theorem finish_closes (s0 s : State) : (finish s0 s).engine.opportunity = false := by
  rw [finish_engine]
  exact runOpportunity_closes s

theorem finish_rails {s0 s : State} (standby : (finish s0 s).mode = .standby)
    (empty : (finish s0 s).engine.granted = []) : (finish s0 s).rails = false := by
  unfold finish at standby empty ⊢
  generalize announceChanges s0 (updateOvercommit (runOpportunity s)) = u at standby empty ⊢
  rw [(windDown_frame u).mode] at standby
  rw [(windDown_frame u).engine] at empty
  exact windDown_rails standby empty

/-! ## The cases of a pass (R75 to R77) -/

theorem admissionPass_skipped {s : State} (skipped : ∀ q ∈ s.engine.queue, s.skips q = true) : admissionPass s = s := by
  have walked := passWalk_skipped (rest := []) skipped
  rw [List.append_nil] at walked
  exact walked

section Entry

variable {s : State} {before after : List Port} {p : Port}

/-- R75: the first entry that is not skipped decides. -/
theorem admissionPass_entry (queue : s.engine.queue = before ++ p :: after) (skipped : ∀ q ∈ before, s.skips q = true)
    (enters : s.skips p = false) :
    admissionPass s =
      if s.engine.hasSlot then if s.fits p then passWalk after (admitPort p s) else bump p s else s := by
  rw [admissionPass, queue, passWalk_skipped skipped, passWalk, if_neg (by rw [enters]; nofun)]

theorem without_middle (nodup : (before ++ p :: after).Nodup) : without p (before ++ p :: after) = before ++ after := by
  obtain ⟨-, nodupAfter, apart⟩ := List.nodup_append.1 nodup
  have outBefore : p ∉ before := fun mem => apart p mem p List.mem_cons_self rfl
  have outAfter : p ∉ after := (List.nodup_cons.1 nodupAfter).1
  rw [without, List.filter_append, ← without, without_of_not_mem outBefore, List.filter_cons_of_neg (by simp), ← without,
    without_of_not_mem outAfter]

/-- R75, R76: after an admission the pass goes on with the entries behind it, those before it being skipped as before. -/
theorem Table.admissionPass_admits (h : Table s) (queue : s.engine.queue = before ++ p :: after)
    (skipped : ∀ q ∈ before, s.skips q = true) (enters : s.skips p = false) (free : s.engine.hasSlot = true)
    (fits : s.fits p = true) : Machine.admissionPass s = Machine.admissionPass (Machine.admitPort p s) := by
  have nodup : (before ++ p :: after).Nodup := queue ▸ h.queueNodup
  have queued : p ∈ s.engine.queue := by rw [queue]; exact List.mem_append_right _ List.mem_cons_self
  have off : s.alloc p ≠ .on := fun on => by
    have waits := h.queued_of_mem queued
    rw [on] at waits
    cases waits
  have later : (Machine.admitPort p s).engine.queue = before ++ after := by
    rw [admitPort_engine, queue]
    exact without_middle nodup
  rw [admissionPass_entry queue skipped enters, if_pos free, if_pos fits, Machine.admissionPass, later]
  refine (passWalk_skipped fun q mem => ?_).symm
  have ne : q ≠ p := fun e => (List.nodup_append.1 nodup).2.2 q mem p List.mem_cons_self e
  rw [skips_admitPort_ne ne off]
  exact skipped q mem

/-- R77: an entry that does not fit ends the pass, with the victims it takes. -/
theorem admissionPass_bumps (queue : s.engine.queue = before ++ p :: after) (skipped : ∀ q ∈ before, s.skips q = true)
    (enters : s.skips p = false) (free : s.engine.hasSlot = true) (beyond : s.engine.envelope < s.committed + s.need p) :
    admissionPass s = bump p s := by
  rw [admissionPass_entry queue skipped enters, if_pos free, if_neg]
  simpa [State.fits] using beyond

end Entry

/-- R77: where the pool promises the room, taking victims makes it. -/
theorem Table.takeVictims_room {s : State} (h : Table s) {p : Port} {need : Nat}
    (room : s.retained + need ≤ s.engine.envelope + s.grants (s.bumpRoom p)) :
    (Machine.takeVictims p need 8 s).retained + need ≤ (Machine.takeVictims p need 8 s).engine.envelope := by
  have bumped := Bumped.takeVictims (p := p) h need 8
  have envelope : (Machine.takeVictims p need 8 s).engine.envelope = s.engine.envelope := by
    rw [← Engine.numbers_fst, (numbers_stable s.engine.numbers).takeVictims p need 8 (s := s) rfl, Engine.numbers_fst]
  rcases takeVictims_exhausts 8 h (stayCount_le s) with within | none
  · exact within
  · have freed := bumped.retained_le h none
    omega

theorem notSkips {s : State} {p : Port} (h : ¬PassSkips s p) : s.skips p = false := by
  rw [← Bool.not_eq_true, skips_iff]
  exact h

end Sys2Proof.Machine

open Sys2Proof Sys2Proof.Machine

/-- Settles O27: the end of a handling block by block, then the pass by its first entry that is not skipped. -/
theorem handlingEndsInOrder : Obligations.HandlingEndsInOrder := by
  refine ⟨fun s0 s => ?_, fun s consistent => ?_⟩
  · have frame := finish_frame s0 s
    obtain ⟨ports, switches, -⟩ := finish_ports s0 s
    obtain ⟨queue, granted, slot0, slot1⟩ := finish_lists s0 s
    refine ⟨finish_overcommit s0 s, finish_closes s0 s, finish_envelope s0 s, frame.mode,
      fun p => ⟨frame.config p, frame.request p, fun asked => ?_⟩, fun p mask changed => finish_notice mask changed,
      fun idle => ?_, fun free out arisen => ?_, finish_rails, frame.sel, frame.sense, frame.pool, frame.store⟩
    · exact (frame.origin p).resolve_right fun gone => asked (by rw [← frame.request p, gone.1])
    · rw [runOpportunity_idle s idle] at ports switches queue granted
      exact ⟨ports, switches, queue, granted⟩
    · have ran : runOpportunity s = (admissionPass s).mapEngine (fun e => { e with opportunity := false }) := by
        rw [runOpportunity, if_pos arisen, if_neg (by rw [free]; exact fun h => h.elim nofun out)]
      rw [ran] at ports switches queue granted slot0 slot1
      exact ⟨ports, switches, queue, granted, slot0, slot1⟩
  · obtain ⟨table, -⟩ := (tableConsistent_iff s).1 consistent
    refine ⟨fun skipped => admissionPass_skipped fun q mem => skips_iff.2 (skipped q mem),
      fun before after p queue passed enters => ?_⟩
    have skipped : ∀ q ∈ before, s.skips q = true := fun q mem => skips_iff.2 (passed q mem)
    have entering := notSkips enters
    have queued : p ∈ s.engine.queue := by rw [queue]; exact List.mem_append_right _ List.mem_cons_self
    have outside : (s.alloc p).granted ≠ true := by
      simpa using AllocState.not_granted_of_queued (table.queued_of_mem queued)
    intro margin need pool
    have needed : need = s.need p := (need_eq s p).symm
    have pooled : pool = s.bumpPool p := (bumpPool_eq s p).symm
    clear_value need pool
    subst needed pooled
    refine ⟨fun first second => ?_, fun slot => ⟨fun fits => ?_, fun beyond => ?_⟩⟩
    · rw [admissionPass_entry queue skipped entering, if_neg]
      rw [hasSlot_iff]
      exact fun free => free.elim first second
    · obtain ⟨opened, -⟩ := (table.power p).resolve_left outside
      rw [table.admissionPass_admits queue skipped entering (hasSlot_iff.2 slot) (by simpa [State.fits] using fits),
        admitPort_eq opened, queue, without_middle (queue ▸ table.queueNodup)]
    · have bumps := admissionPass_bumps queue skipped entering (hasSlot_iff.2 slot) beyond
      refine ⟨fun within => ?_, fun poor => ?_, fun short room => ?_, table.bumpRoom_nodup p, fun q => table.mem_bumpRoom⟩
      · rw [bumps, bump, if_pos within]
      · rw [bumps, bump, if_neg (by omega), if_neg (by omega)]
      · have taken : admissionPass s = takeVictims p (s.need p) 8 s := by
          rw [bumps, bump, if_neg (by omega), if_pos room]
        have bumped := Bumped.takeVictims (p := p) table (s.need p) 8
        rw [taken]
        refine ⟨rfl, table.takeVictims_room room, (bumped.outside.2 p ?_).1, fun q out staying =>
          (bumped.outside.2 q (not_or.2 ⟨out, staying⟩)).1, fun v lowest n => takeVictims_succ short ?_ n⟩
        · rintro (room | shedding)
          · exact outside (table.stays_of_mem_bumpRoom room).1
          · exact outside (by rw [shedding]; rfl)
        · exact (lowestKeyed_eq_some (table.bumpPool_nodup p)).2 lowest

end

section
/-! The walk of a cancellation (R99, R100): the order it goes in, which ports it takes back, and that it keeps within the
envelope. -/

namespace Sys2Proof.Machine

/-! ## The order of the walk (R99) -/

/-- A higher key first, and among equal keys as `R` has it. -/
def KeyThen (key : Port → Nat) (R : Port → Port → Prop) (p q : Port) : Prop := key p < key q ∨ (key p = key q ∧ R p q)

theorem KeyThen.le {key : Port → Nat} {R : Port → Port → Prop} {p q : Port} (h : KeyThen key R p q) : key p ≤ key q := by
  rcases h with lt | ⟨e, -⟩ <;> omega

theorem insertAfter_pairwise {key : Port → Nat} {R : Port → Port → Prop} {a : Port} {l : List Port}
    (h : l.Pairwise (KeyThen key R)) (earlier : ∀ x ∈ l, R x a) : (insertAfter key a l).Pairwise (KeyThen key R) := by
  unfold insertAfter
  induction l with
  | nil => simp
  | cons q l ih =>
    obtain ⟨first, rest⟩ := List.pairwise_cons.1 h
    by_cases above : key q ≤ key a
    · rw [List.takeWhile_cons_of_pos (by simpa using above), List.dropWhile_cons_of_pos (by simpa using above),
        List.cons_append]
      refine List.pairwise_cons.2 ⟨fun x mem => ?_, ih rest fun x mem => earlier x (List.mem_cons_of_mem q mem)⟩
      rcases List.mem_append.1 mem with before | after
      · exact first x (List.takeWhile_subset _ before)
      · rcases List.mem_cons.1 after with rfl | after
        · have admitted := earlier q List.mem_cons_self
          exact (Nat.lt_or_eq_of_le above).imp_right fun e => ⟨e, admitted⟩
        · exact first x (List.dropWhile_subset _ after)
    · rw [List.takeWhile_cons_of_neg (by simpa using above), List.dropWhile_cons_of_neg (by simpa using above),
        List.nil_append]
      refine List.pairwise_cons.2 ⟨fun x mem => ?_, h⟩
      rcases List.mem_cons.1 mem with rfl | mem
      · exact .inl (by omega)
      · exact .inl (by have := (first x mem).le; omega)

theorem byKey_concat (key : Port → Nat) (l : List Port) (a : Port) :
    byKey key (l ++ [a]) = insertAfter key a (byKey key l) := by rw [byKey, List.foldl_append]; rfl

theorem mem_byKey {key : Port → Nat} (l : List Port) {p : Port} : p ∈ byKey key l ↔ p ∈ l := by
  induction l using List.reverseRecOn with
  | nil => exact Iff.rfl
  | append_singleton l a ih => rw [byKey_concat, mem_insertAfter, ih, List.mem_append, List.mem_singleton, or_comm]

/-- Ports in order of key keep their own order among equal keys. -/
theorem byKey_pairwise {key : Port → Nat} {R : Port → Port → Prop} (l : List Port) (h : l.Pairwise R) :
    (byKey key l).Pairwise (KeyThen key R) := by
  induction l using List.reverseRecOn with
  | nil => exact .nil
  | append_singleton l a ih =>
    obtain ⟨before, -, cross⟩ := List.pairwise_append.1 h
    rw [byKey_concat]
    exact insertAfter_pairwise (ih before) fun x mem => cross x ((mem_byKey l).1 mem) a (List.mem_singleton_self a)

theorem pairwise_idxOf {l : List Port} (nodup : l.Nodup) : l.Pairwise (fun p q => l.idxOf p < l.idxOf q) := by
  rw [List.pairwise_iff_getElem]
  intro i j hi hj lt
  rwa [nodup.idxOf_getElem, nodup.idxOf_getElem]

theorem GoesBefore.asymm {s : State} {p q : Port} (h : GoesBefore s p q) (k : GoesBefore s q p) : False := by
  rcases h with lt | ⟨e, lt⟩ <;> rcases k with lt' | ⟨e', lt'⟩ <;> omega

/-- R99: the walk visits the ports most important first. -/
theorem Table.cancelOrder_pairwise {s : State} (h : Table s) : s.cancelOrder.Pairwise (GoesBefore s) :=
  byKey_pairwise _ ((pairwise_idxOf h.grantedNodup).filter _)

theorem mem_cancelOrder {s : State} {p : Port} :
    p ∈ s.cancelOrder ↔ p ∈ s.engine.granted ∧ s.alloc p = .shedding ∧ (s.port p).reason = some .envelope := by
  rw [State.cancelOrder, mem_byKey]
  simp

theorem mayReturn_iff {s : State} {p : Port} : MayReturn s p ↔ p ∈ s.cancelOrder ∧ s.parentOn p = true := by
  rw [mem_cancelOrder, MayReturn, and_assoc, and_assoc]

/-! ## The turns of the walk -/

/-- R99: the walk tests the port. -/
def Returns (s : State) (p : Port) : Prop := s.alloc p = .shedding ∧ s.parentOn p = true

theorem cancelWalk_skip {p : Port} {rest : List Port} {s : State} (out : ¬Returns s p) :
    cancelWalk (p :: rest) s = cancelWalk rest s := by
  rw [cancelWalk]
  exact if_neg out

theorem cancelWalk_fits {p : Port} {rest : List Port} {s : State} (returns : Returns s p)
    (fits : s.retained + s.grants (s.group p) ≤ s.engine.envelope) :
    cancelWalk (p :: rest) s = cancelWalk rest (forEach (s.group p) cancelPort s) := by
  rw [cancelWalk]
  exact (if_pos returns).trans (if_pos fits)

theorem cancelWalk_stops {p : Port} {rest : List Port} {s : State} (returns : Returns s p)
    (beyond : s.engine.envelope < s.retained + s.grants (s.group p)) : cancelWalk (p :: rest) s = s := by
  rw [cancelWalk]
  exact (if_pos returns).trans (if_neg (Nat.not_le.2 beyond))

/-- What each group taken back keeps, the walk keeps. -/
theorem cancelWalk_keeps {I : State → Prop} {l : List Port}
    (turn : ∀ p ∈ l, ∀ u, I u → Returns u p → u.retained + u.grants (u.group p) ≤ u.engine.envelope →
      I (forEach (u.group p) cancelPort u)) : ∀ {s : State}, I s → I (cancelWalk l s) := by
  induction l with
  | nil => exact id
  | cons p l ih =>
    intro s hs
    have rest := fun {u : State} => ih (fun x mem => turn x (List.mem_cons_of_mem p mem)) (s := u)
    by_cases returns : Returns s p
    · by_cases fits : s.retained + s.grants (s.group p) ≤ s.engine.envelope
      · rw [cancelWalk_fits returns fits]
        exact rest (turn p List.mem_cons_self s hs returns fits)
      · rw [cancelWalk_stops returns (by omega)]
        exact hs
    · rw [cancelWalk_skip returns]
      exact rest hs

/-- A port in ON stays ON. -/
theorem cancelWalk_on {l : List Port} {q : Port} {s : State} (on : s.alloc q = .on) : (cancelWalk l s).alloc q = .on := by
  rcases cancelWalk_port l (s := s) (q := q) with e | ⟨shedding, -⟩
  · exact (congrArg PortRec.alloc e).trans on
  · rw [on] at shedding; cases shedding

theorem cancelAll_alloc_self {l : List Port} {q : Port} {s : State} (mem : q ∈ l) :
    (forEach l cancelPort s).alloc q = .on := by
  rw [State.alloc, cancelAll_port, if_pos mem]
  rfl

theorem cancelAll_on {l : List Port} {q : Port} {s : State} (on : s.alloc q = .on) :
    (forEach l cancelPort s).alloc q = .on := by
  rw [State.alloc, cancelAll_port]
  split
  · rfl
  · exact on

theorem cancelAll_parentOf (l : List Port) (s : State) : (forEach l cancelPort s).parentOf = s.parentOf :=
  parentOf_of_cfg fun q => by
    rw [State.cfg, cancelAll_port]
    split <;> rfl

/-! ## A port whose parent is ON is taken back as the head of a group alone -/

theorem Table.granted_of_shedding {s : State} (h : Table s) {p : Port} (shedding : s.alloc p = .shedding) :
    p ∈ s.engine.granted := (h.granted p).2 (by rw [shedding]; rfl)

/-- R100: a port with its parent ON is in no group but its own. -/
theorem Table.not_mem_group {s : State} (h : Table s) {p q : Port} (head : s.alloc p = .shedding)
    (parentOn : s.parentOn q = true) (ne : q ≠ p) : q ∉ s.group p := fun mem => by
  have granted := h.granted_of_shedding head
  rcases (mem_group_iff h.acyclic granted).1 mem with own | ⟨-, -, r, inGroup, up⟩
  · exact ne own
  · have shedding := shedding_of_mem_group h.acyclic granted head inGroup
    rw [parentOn_iff.1 parentOn r up] at shedding
    cases shedding

theorem Table.returns_of_cancelGroup {s : State} (h : Table s) {p q : Port} (head : s.alloc p = .shedding)
    (returns : Returns s q) (ne : q ≠ p) : Returns (forEach (s.group p) cancelPort s) q := by
  refine ⟨?_, parentOn_iff.2 fun r up => cancelAll_on (parentOn_iff.1 returns.2 r ?_)⟩
  · rw [State.alloc, cancelAll_port, if_neg (h.not_mem_group head returns.2 ne)]
    exact returns.1
  · rwa [cancelAll_parentOf] at up

/-- R99: of two ports that may return the earlier one returns first. -/
theorem Table.cancelWalk_order {G : Port → Port → Prop} (asymm : ∀ {a b}, G a b → G b a → False) {p q : Port}
    (earlier : G p q) {l : List Port} : ∀ {s : State}, Table s → l.Pairwise G → p ∈ l → q ∈ l → Returns s p → Returns s q →
      (Machine.cancelWalk l s).alloc q = .on → (Machine.cancelWalk l s).alloc p = .on := by
  induction l with
  | nil => exact fun _ _ mem => by cases mem
  | cons x l ih =>
    intro s h ordered memP memQ returnsP returnsQ on
    obtain ⟨first, rest⟩ := List.pairwise_cons.1 ordered
    have waits : s.alloc q ≠ .on := by rw [returnsQ.1]; nofun
    by_cases own : p = x
    · subst own
      by_cases fits : s.retained + s.grants (s.group p) ≤ s.engine.envelope
      · rw [cancelWalk_fits returnsP fits]
        exact cancelWalk_on (cancelAll_alloc_self ((mem_group_iff h.acyclic (h.granted_of_shedding returnsP.1)).2 (.inl rfl)))
      · rw [cancelWalk_stops returnsP (by omega)] at on
        exact absurd on waits
    · have inP : p ∈ l := (List.mem_cons.1 memP).resolve_left own
      have ne : q ≠ x := fun e => asymm earlier (e ▸ first p inP)
      have inQ : q ∈ l := (List.mem_cons.1 memQ).resolve_left ne
      by_cases returns : Returns s x
      · by_cases fits : s.retained + s.grants (s.group x) ≤ s.engine.envelope
        · rw [cancelWalk_fits returns fits] at on ⊢
          exact ih (h.cancelGroup returns.1 returns.2) rest inP inQ (h.returns_of_cancelGroup returns.1 returnsP own)
            (h.returns_of_cancelGroup returns.1 returnsQ ne) on
        · rw [cancelWalk_stops returns (by omega)] at on
          exact absurd on waits
      · rw [cancelWalk_skip returns] at on ⊢
        exact ih h rest inP inQ returnsP returnsQ on

/-- R99: the walk comes, in the state it started in, to the first port that may return. -/
theorem cancelWalk_reaches {G : Port → Port → Prop} {p : Port} {s : State} {l : List Port} (ordered : l.Pairwise G)
    (mem : p ∈ l) (skipped : ∀ x ∈ l, G x p → ¬Returns s x) : ∃ rest, cancelWalk l s = cancelWalk (p :: rest) s := by
  induction l with
  | nil => cases mem
  | cons x l ih =>
    obtain ⟨first, rest⟩ := List.pairwise_cons.1 ordered
    by_cases own : p = x
    · exact ⟨l, by rw [own]⟩
    · have inside := (List.mem_cons.1 mem).resolve_left own
      rw [cancelWalk_skip (skipped x List.mem_cons_self (first p inside))]
      exact ih rest inside fun y mem => skipped y (List.mem_cons_of_mem x mem)

theorem cancelWalk_all_skipped {s : State} {l : List Port} (skipped : ∀ x ∈ l, ¬Returns s x) : cancelWalk l s = s := by
  induction l with
  | nil => rfl
  | cons x l ih =>
    rw [cancelWalk_skip (skipped x List.mem_cons_self)]
    exact ih fun y mem => skipped y (List.mem_cons_of_mem x mem)

/-! ## What the walk takes back (R100) -/

/-- The port is as `s` has it, or has been taken back from SHEDDING with one of the two reasons. -/
def KeptOrCancelled (s : State) (q : Port) (u : State) : Prop :=
  u.port q = s.port q ∨ (s.cancellable q = true ∧ u.port q = (s.port q).cancelled)

/-- R100: a walk over ports that were shed for the envelope takes back no port with another reason than those of R100. -/
theorem cancelWalk_reason {s : State} {l : List Port} (reason : ∀ x ∈ l, (s.port x).reason = some .envelope) (q : Port) :
    KeptOrCancelled s q (cancelWalk l s) := by
  refine (cancelWalk_keeps (I := fun u => ∀ q, KeptOrCancelled s q u) (fun p mem u hu returns _ q => ?_)
    fun q => .inl rfl) q
  have asBefore {x : Port} (shedding : u.alloc x = .shedding) : u.port x = s.port x := by
    rcases hu x with same | ⟨-, back⟩
    · exact same
    · rw [State.alloc, back] at shedding; cases shedding
  unfold KeptOrCancelled
  rw [cancelAll_port]
  split
  · next member =>
    have shedding := group_shedding returns.1 member
    have port := asBefore shedding
    refine .inr ⟨?_, by rw [port]⟩
    have ok : u.cancellable q = true := by
      rcases closure_sound 8 member with own | ok
      · rw [List.mem_singleton.1 own, cancellable_iff, asBefore returns.1]
        exact ⟨returns.1, .inl (reason p mem)⟩
      · exact ok
    rw [cancellable_iff, State.alloc, port] at ok
    rwa [cancellable_iff]
  · exact hu q

/-! ## The walk keeps within the envelope (R99) -/

theorem Table.group_nodup {s : State} (h : Table s) (p : Port) : (s.group p).Nodup := closure_nodup h.grantedNodup 7

/-- R63: a group taken back adds its grants to retained power. -/
theorem Table.retained_cancelGroup {s : State} (h : Table s) {p : Port} (returns : Returns s p) :
    (forEach (s.group p) cancelPort s).retained ≤ s.retained + s.grants (s.group p) := by
  have grant : ∀ q, ((forEach (s.group p) cancelPort s).port q).grant = (s.port q).grant := fun q => by
    rw [cancelAll_port]
    split <;> rfl
  have within : ({q | Stays q (forEach (s.group p) cancelPort s)} : Finset Port) ⊆
      ({q | Stays q s} : Finset Port) ∪ (s.group p).toFinset := fun q mem => by
    rw [Finset.mem_filter] at mem
    rw [Finset.mem_union, Finset.mem_filter, List.mem_toFinset]
    by_cases member : q ∈ s.group p
    · exact .inr member
    · exact .inl ⟨Finset.mem_univ q, (stays_congr (by rw [cancelAll_port, if_neg member])).1 mem.2⟩
  calc (forEach (s.group p) cancelPort s).retained
      = ∑ q with Stays q (forEach (s.group p) cancelPort s), (s.port q).grant := by
        rw [(h.cancelGroup returns.1 returns.2).retained_eq]
        exact Finset.sum_congr rfl fun q _ => grant q
    _ ≤ ∑ q ∈ ({q | Stays q s} : Finset Port) ∪ (s.group p).toFinset, (s.port q).grant :=
        Finset.sum_le_sum_of_subset within
    _ ≤ ∑ q with Stays q s, (s.port q).grant + ∑ q ∈ (s.group p).toFinset, (s.port q).grant :=
        (Nat.le_add_right _ _).trans Finset.sum_union_inter.le
    _ = s.retained + s.grants (s.group p) := by rw [h.retained_eq, grants_eq_sum (h.group_nodup p)]

/-- R99: a walk that starts within the envelope ends within it. -/
theorem Table.cancelWalk_within {s : State} (h : Table s) (l : List Port) (within : s.retained ≤ s.engine.envelope) :
    (Machine.cancelWalk l s).retained ≤ (Machine.cancelWalk l s).engine.envelope := by
  refine (cancelWalk_keeps (I := fun u => Table u ∧ u.retained ≤ u.engine.envelope) (fun p _ u hu returns fits => ?_)
    ⟨h, within⟩).2
  obtain ⟨-, b, engine⟩ := cancelAll_rest (u.group p) u
  refine ⟨hu.1.cancelGroup returns.1 returns.2, ?_⟩
  rw [engine]
  exact (hu.1.retained_cancelGroup returns).trans fits

end Sys2Proof.Machine
end

section
/-! The recomputation of the envelope at a completion (R65, R66), its follow-on steps (R67), the shed check (R96) and the
cancellation (R99, R100): the statement O26. -/

namespace Sys2Proof.Machine

/-! ## A completion that the engine takes (R65) -/

/-- R20: on no source's channel the engine alone takes a completion. -/
theorem takeSample_of_no_source {ch : SenseChannel} (other : ∀ x ∈ allSources, ch ≠ sourceChannel x)
    (selectorFirst : Bool) (s : State) : takeSample ch selectorFirst s = engineSample ch s := by
  unfold takeSample
  split
  · rw [selectorPart_of_idle (.inl other)]
  · exact selectorPart_of_idle (.inl other)

/-- R30, R65: the engine's part of a completion, where the selector does not take it first. -/
theorem takeSample_engine {ch : SenseChannel} {selectorFirst : Bool}
    (order : selectorFirst = false ∨ ∀ x ∈ allSources, ch ≠ sourceChannel x) (s : State) :
    (takeSample ch selectorFirst s).engine = (engineSample ch s).engine := by
  rcases order with rfl | other
  · exact (selectorPart_frame ch _).engine
  · rw [takeSample_of_no_source other]

theorem envelopeChannel_of {ch : SenseChannel} {s : State}
    (h : ch = 3 ∨ ch = 12 ∨ ∃ x, s.sel.active = some x ∧ ch = sourceChannel x) : s.envelopeChannel ch = true := by
  unfold State.envelopeChannel
  rcases h with rfl | rfl | ⟨x, active, rfl⟩
  · rfl
  · rfl
  · rw [active]
    simp

theorem channelPort_of_envelope {ch : SenseChannel} {s : State}
    (h : ch = 3 ∨ ch = 12 ∨ ∃ x, s.sel.active = some x ∧ ch = sourceChannel x) : channelPort ch = none := by
  rcases h with rfl | rfl | ⟨x, -, rfl⟩
  · rfl
  · rfl
  · cases x <;> rfl

/-- R65, R66: a completion that recomputes leaves the new envelope. -/
theorem engineSample_envelope {ch : SenseChannel} {s : State} (port : channelPort ch = none)
    (recomputes : s.recomputes ch = true) : (engineSample ch s).engine.envelope = s.newEnvelope := by
  have stored := congrArg Prod.fst (recompute_numbers s)
  have taken : engineSample ch s = finish s (recompute s) := by
    unfold engineSample
    rw [port]
    exact if_pos recomputes
  rw [taken, finish_envelope]
  exact stored

/-- R20, R34: with no changeover under way a completion is settled. -/
theorem completeSample_settled (ch : SenseChannel) (code : BitVec 12) (g : Option Gain) {s : State}
    (none : s.sel.changeover = none) : ((completeSample ch code g s).sample ch).settled = true := by
  rw [completeSample_self]
  simp [ChannelRec.complete, State.changeoverFlag, none]

/-! ## The recomputation and the shed check -/

theorem recompute_eq (s : State) :
    (s.newEnvelope ≤ s.engine.envelope → recompute s = shedCheck 8 (storeEnvelope s)) ∧
      (s.engine.envelope < s.newEnvelope → recompute s = opportunity
        (cancelWalk (shedCheck 8 (storeEnvelope s)).cancelOrder (shedCheck 8 (storeEnvelope s)))) := by
  unfold recompute afterRecompute
  rw [storeEnvelope_envelope]
  exact ⟨fun le => if_neg (by omega), fun lt => if_pos lt⟩

theorem victims_empty {s : State} (none : ∀ q ∈ s.engine.granted, s.alloc q = .shedding ∨ s.essential q = true) :
    s.victims = [] := by
  refine List.eq_nil_iff_forall_not_mem.2 fun q mem => ?_
  obtain ⟨listed, staying, class_⟩ := mem_victims.1 mem
  rcases none q listed with shedding | essential
  · exact staying shedding
  · rw [essential] at class_; cases class_

/-- R101: the restore hold that a shed check starts, by the setting as it was. -/
theorem startHold_shed (why : ShedReason) (p : Port) (s : State) :
    startHold (shed why p s) =
      { shed why p s with
        engine := { (shed why p s).engine with restoreHold := some (s.engine.restoreHoldTime * 1000) } } := by
  have numbers := (numbers_stable s.engine.numbers).shed why p (s := s) rfl
  have time : (shed why p s).engine.restoreHoldTime = s.engine.restoreHoldTime :=
    congrArg (fun n => n.2.2.2) numbers
  rw [startHold, ← time]
  rfl

/-- R96: a shed check ends within the envelope, or with no port left that it may select. -/
theorem Table.shedCheck_respected {s : State} (h : Table s) : EnvelopeRespected (Machine.shedCheck 8 s) := by
  refine (shedCheck_exhausts 8 h (stayCount_le s)).imp_right fun none q listed => ?_
  by_contra left
  have victim : q ∈ (Machine.shedCheck 8 s).victims :=
    mem_victims.2 ⟨listed, fun e => left (.inl e), by rw [← Bool.not_eq_true]; exact fun e => left (.inr e)⟩
  rw [none] at victim
  cases victim

end Sys2Proof.Machine

open Sys2Proof Sys2Proof.Machine

/-- Settles O26: the completion by the engine's part, the recomputation by its definition, and both walks turn by turn. -/
theorem envelopeIsRecomputedAndFollowed : Obligations.EnvelopeIsRecomputedAndFollowed := by
  refine ⟨fun ch code g selectorFirst s converting out idle free events channel => ?_, fun s => ?_, fun n s => ?_,
    fun s consistent => ?_⟩
  · obtain ⟨-, -, only⟩ := completeSample_rest ch code g s
    have taken := execSampleCompletion_of_conversion converting code selectorFirst
    have settled := completeSample_settled ch code g idle
    generalize completeSample ch code g s = sampled at only taken settled ⊢
    have sel : sampled.sel = s.sel := by rw [only]
    have engine : sampled.engine = s.engine := by rw [only]
    have mode : sampled.mode = s.mode := by rw [only]
    have waiting : sampled.selEvents = [] := by rw [only]; exact events
    have reading : ch = 3 ∨ ch = 12 ∨ ∃ x, sampled.sel.active = some x ∧ ch = sourceChannel x := by
      rw [sel]
      exact channel.imp_right (Or.imp_right And.right)
    have order : selectorFirst = false ∨ ∀ x ∈ allSources, ch ≠ sourceChannel x := by
      rcases channel with rfl | rfl | ⟨first, -⟩
      · exact .inr (by decide)
      · exact .inr (by decide)
      · exact .inl first
    have recomputes : sampled.recomputes ch = true := by
      simp [State.recomputes, settled, engine, free, mode, out, waiting, envelopeChannel_of reading]
    refine ⟨_, taken, ?_⟩
    rw [takeSample_engine order, engineSample_envelope (channelPort_of_envelope reading) recomputes]
    simp only [State.newEnvelope, State.source, sel, engine]
    cases s.sel.active <;> rfl
  · exact recompute_eq s
  · refine ⟨fun within => shedCheck_idle (.inl within) n, fun none => shedCheck_idle (.inr (victims_empty none)) n,
      fun v beyond lowest nodup => ?_, fun consistent => ?_⟩
    · rw [shedCheck_succ beyond ((lowestKeyed_eq_some (nodup.filter _)).2 lowest), startHold_shed]
    · exact ((tableConsistent_iff s).1 consistent).1.shedCheck_respected
  · obtain ⟨table, -⟩ := (tableConsistent_iff s).1 consistent
    have frame := cancelWalk_cancelFrame s.cancelOrder s
    obtain ⟨b, engine⟩ := frame.engine
    have returns {p : Port} (may : MayReturn s p) : Returns s p := ⟨may.2.1, may.2.2.2⟩
    have ordered {p : Port} (may : MayReturn s p) : p ∈ s.cancelOrder := (mayReturn_iff.1 may).1
    refine ⟨table.cancelWalk_within _, fun q => ?_, fun p q mayP mayQ earlier on => ?_, fun p may first => ?_, fun none => ?_,
      fun p listed => ⟨table.group_nodup p, fun q => ?_⟩, frame.switches, by rw [engine], by rw [engine]⟩
    · refine (cancelWalk_reason (fun x mem => (mem_cancelOrder.1 mem).2.2) q).imp_right fun ⟨ok, back⟩ => ?_
      obtain ⟨shedding, reason⟩ := cancellable_iff.1 ok
      exact ⟨shedding, reason, back⟩
    · exact table.cancelWalk_order GoesBefore.asymm earlier table.cancelOrder_pairwise (ordered mayP) (ordered mayQ)
        (returns mayP) (returns mayQ) on
    · obtain ⟨rest, walk⟩ := cancelWalk_reaches table.cancelOrder_pairwise (ordered may) fun x mem before again => by
        rcases first x (mayReturn_iff.2 ⟨mem, again.2⟩) with own | after
        · subst own; exact before.asymm before
        · exact before.asymm after
      refine ⟨fun fits q mem => ?_, fun beyond => ?_⟩
      · rw [walk, cancelWalk_fits (returns may) fits]
        exact cancelWalk_on (cancelAll_alloc_self mem)
      · rw [walk, cancelWalk_stops (returns may) beyond]
    · exact cancelWalk_all_skipped fun x mem again => none x (mayReturn_iff.2 ⟨mem, again.2⟩)
    · rw [mem_group_iff table.acyclic listed, cancellable_iff, and_assoc]
      exact Iff.rfl

end

section
/-! The resolution of an overdraw (R82, R83) and what the pass at the end of the handling leaves of its port: the statement
O25. -/

namespace Sys2Proof.Machine

/-! ## A record and a switch that stay -/

/-- Nothing in a shed order reaches a port outside the granted list, nor its switch. -/
theorem standsAs_stable (p : Port) {r : PortRec} (w : SwitchRec) (out : r.alloc.granted = false) :
    ShedStable (StandsAs p r w) := by
  have ne {x : Port} {s : State} (h : StandsAs p r w s) (granted : (s.alloc x).granted = true) : p ≠ x := fun e => by
    rw [← e, State.alloc, h.1, out] at granted
    cases granted
  refine ⟨fun {why x s} granted h => ?_, fun _ h => h, fun {why x s} on h => ?_, fun {x s} shedding h => ?_, fun h => h,
    fun h => h⟩
  · exact ⟨by rw [dropToShed_port, if_neg (ne h granted)]; exact h.1,
      (dropToShed_switch_ne why s (ne h granted)).trans h.2⟩
  · exact ⟨by rw [startGrace_port, if_neg (ne h (by rw [on]; rfl))]; exact h.1, h.2⟩
  · exact ⟨(State.mapPort_port_ne _ _ (ne h (by rw [shedding]; rfl))).trans h.1, h.2⟩

/-- A shed order on another port does not reach one without a parent. -/
theorem standsAs_of_no_parent {p root : Port} {r : PortRec} (w : SwitchRec) (why : ShedReason) (ne : p ≠ root)
    (none : r.config.parent = none) : StepStable root why (fun _ => True) (StandsAs p r w) := by
  have other {x : Port} {how : ShedReason} {s : State} (h : StandsAs p r w s) (cause : Cause root why how x s) : p ≠ x := by
    rintro rfl
    rcases cause with ⟨e, -⟩ | ⟨q, orphan, -⟩
    · exact ne e
    · have parent := orphan.1
      rw [State.cfg, h.1, none] at parent
      cases parent
  refine ⟨fun _ _ _ _ => trivial, fun {how x s} h _ _ cause => ?_, fun {how x s} h _ _ _ cause => ?_,
    fun {s} h _ _ _ => ?_⟩
  · exact ⟨by rw [dropToShed_port, if_neg (other h cause)]; exact h.1,
      (dropToShed_switch_ne how s (other h cause)).trans h.2⟩
  · exact ⟨by rw [startGrace_port, if_neg (other h cause)]; exact h.1, h.2⟩
  · exact ⟨(State.mapPort_port_ne _ _ ne).trans h.1, h.2⟩

/-- A shed order as one step, which the places in the queue do not matter to. -/
theorem StepStable.shed {root : Port} {why : ShedReason} {I : State → Prop} (h : StepStable root why (fun _ => True) I)
    (places : ∀ {s l}, I s → I (s.mapEngine fun e => { e with queue := l })) {s : State} (hs : I s) :
    I (Machine.shed why root s) := by
  rw [Machine.shed, inOneStep, requeue_eq]
  exact places (h.shedOrder 8 hs trivial (.inl ⟨rfl, rfl⟩))

/-! ## The shed order on the port itself (R90, R91) -/

theorem shedRecord_out (why : ShedReason) (r : PortRec) : (shedRecord why r).alloc.granted = false := drop_out why r

/-- The record of a port that has its grace (R91). -/
def PortRec.graced (why : ShedReason) (r : PortRec) : PortRec :=
  { r with alloc := .shedding, reason := some why, grace := some (r.config.shedGrace * 1000), overdraw := 0 }

/-- R90: with no grace the port is shed at once. -/
theorem shed_at_once {p : Port} {s : State} (on : s.alloc p = .on) (none : (s.cfg p).shedGrace = 0) (why : ShedReason) :
    ∃ w, w.state = .opened ∧ StandsAs p (shedRecord why (s.port p)) w (shed why p s) := by
  refine ⟨(dropToShed why p s).switch p, dropToShed_opens why p s, ?_⟩
  have stable := standsAs_stable p ((dropToShed why p s).switch p) (shedRecord_out why (s.port p))
  have ordered : shedOrder 8 why p s = dropTree why p s := by
    unfold shedOrder
    rw [on]
    exact if_pos none
  rw [shed, inOneStep, ordered]
  exact stable.requeue _ (stable.dropChildren 8 p ⟨by rw [dropToShed_port, if_pos rfl]; rfl, rfl⟩)

theorem shedOrder_graced {p : Port} {s : State} (on : s.alloc p = .on) (grace : (s.cfg p).shedGrace ≠ 0)
    (why : ShedReason) :
    shedOrder 8 why p s = forEach (s.childrenOf p) (shedOrder 7 .dependency) (startGrace why p s) := by
  rw [shedOrder, on]
  exact if_neg grace

/-- R91, R105: with a grace the port goes to SHEDDING, and what hangs on it does not reach it (R107). -/
theorem Table.shed_graced {p : Port} {s : State} (h : Table s) (on : s.alloc p = .on) (grace : (s.cfg p).shedGrace ≠ 0)
    (why : ShedReason) :
    (Machine.shed why p s).port p = (startGrace why p s).port p ∧ (Machine.shed why p s).switch p = s.switch p := by
  obtain ⟨rank, ranks, -⟩ := h.acyclic.exists_rank
  rw [Machine.shed, inOneStep, requeue_eq, shedOrder_graced on grace]
  refine (forEach_keeps_of_mem
    (I := fun u => (u.port p = (startGrace why p s).port p ∧ u.switch p = s.switch p) ∧ ∀ x, u.cfg x = s.cfg x)
    (fun c mem u hu => ?_) ⟨⟨rfl, rfl⟩, fun x => startGrace_cfg why p x s⟩).1
  obtain ⟨⟨port, switch⟩, cfg⟩ := hu
  have below : rank p < rank c := ranks (mem_childrenOf.1 mem).2
  obtain ⟨port', switch'⟩ := shedOrder_parts_of_rank (s := u) (by rw [parentOf_of_cfg cfg]; exact ranks) below 7 .dependency
  exact ⟨⟨port'.trans port, switch'.trans switch⟩, fun x => ((shedOrder_frame 7 .dependency c u).config x).trans (cfg x)⟩

/-- R91: with no child in the granted list nothing else changes. -/
theorem shed_childless {p : Port} {s : State} (on : s.alloc p = .on) (grace : (s.cfg p).shedGrace ≠ 0)
    (childless : ∀ q ∈ s.engine.granted, (s.cfg q).parent ≠ some p) (why : ShedReason) :
    (shed why p s).engine.opportunity = s.engine.opportunity := by
  have none : s.childrenOf p = [] := List.eq_nil_iff_forall_not_mem.2 fun q mem => by
    obtain ⟨listed, parent⟩ := mem_childrenOf.1 mem
    exact childless q listed parent
  rw [shed, inOneStep, requeue_eq, shedOrder_graced on grace, none]
  rfl

/-! ## The port with its grace through the pass (R77, R106) -/

/-- In its grace, or gone on to SHED with its reason (R106). -/
def GracedOrGone (p : Port) (why : ShedReason) (r : PortRec) (w : SwitchRec) (s : State) : Prop :=
  StandsAs p (r.graced why) w s ∨ ∃ w', w'.state = .opened ∧ StandsAs p (shedRecord why r) w' s

/-- R106: a port in its grace is reached through its parent alone, and then goes with its own reason. -/
theorem gracedOrGone_stable {p root : Port} {why how : ShedReason} {r : PortRec} {w : SwitchRec} (ne : p ≠ root) :
    StepStable root how (fun _ => True) (GracedOrGone p why r w) where
  child _ _ _ _ := trivial
  drop {how x s} h _ granted cause := by
    rcases h with graced | ⟨w', opened, gone⟩
    · by_cases own : p = x
      · subst own
        refine .inr ⟨(dropToShed how p s).switch p, dropToShed_opens how p s, ?_, rfl⟩
        have reason : how = why := by
          rcases cause with ⟨e, -⟩ | ⟨q, -, e⟩
          · exact absurd e ne
          · rw [e, graced.1]; rfl
        rw [dropToShed_port, if_pos rfl, graced.1, reason]
        rfl
      · exact .inl ⟨by rw [dropToShed_port, if_neg own]; exact graced.1, (dropToShed_switch_ne how s own).trans graced.2⟩
    · exact .inr ⟨w', opened, (standsAs_stable p w' (shedRecord_out why r)).drop granted gone⟩
  grace {how x s} h _ on _ _ := by
    rcases h with graced | ⟨w', opened, gone⟩
    · have other : p ≠ x := fun e => by
        rw [← e, State.alloc, graced.1] at on
        cases on
      exact .inl ⟨by rw [startGrace_port, if_neg other]; exact graced.1, graced.2⟩
    · exact .inr ⟨w', opened, (standsAs_stable p w' (shedRecord_out why r)).grace on gone⟩
  modeReason {s} h _ shedding _ := by
    rcases h with graced | ⟨w', opened, gone⟩
    · exact .inl ⟨(State.mapPort_port_ne _ _ ne).trans graced.1, graced.2⟩
    · exact .inr ⟨w', opened, (standsAs_stable p w' (shedRecord_out why r)).modeReason shedding gone⟩

/-- An admission of another port. -/
theorem StandsAs.admitPort {p x : Port} {r : PortRec} {w : SwitchRec} {s : State} (h : StandsAs p r w s) (ne : p ≠ x) :
    StandsAs p r w (admitPort x s) :=
  ⟨by rw [admitPort_port, if_neg ne]; exact h.1, (admitPort_switch_ne s ne).trans h.2⟩

/-- A property of a bump's steps that hold of each victim holds of the bump. -/
theorem bump_keeps {I : State → Prop} {cand : Port} (turn : ∀ v u, v ∈ u.bumpPool cand → I u → I (shed .preempted v u))
    {s : State} (hs : I s) : I (bump cand s) := by
  unfold bump
  split
  · exact hs
  · split
    · exact takeVictims_keeps turn 8 hs
    · exact hs

/-- R77: the pass takes a port in its grace on to SHED with its reason, or leaves it. -/
theorem runOpportunity_graced {p : Port} {why : ShedReason} {r : PortRec} {w : SwitchRec} {s : State}
    (h : StandsAs p (r.graced why) w s) (out : p ∉ s.engine.queue) : GracedOrGone p why r w (runOpportunity s) := by
  refine runOpportunity_reaches (I := StandsAs p (r.graced why) w) .inl id
    (fun x mem u _ hu => hu.admitPort fun e => out (e ▸ mem))
    (fun x _ u hu => bump_keeps (I := GracedOrGone p why r w) (fun v u mem hu => ?_) (.inl hu)) h
  rcases hu with graced | ⟨w', opened, gone⟩
  · have ne : p ≠ v := fun e => by
      have staying := (mem_bumpPool.1 mem).2.1
      rw [← e, State.alloc, graced.1] at staying
      exact staying rfl
    exact (gracedOrGone_stable ne).shed id (.inl graced)
  · exact .inr ⟨w', opened, (standsAs_stable p w' (shedRecord_out why r)).shed .preempted v gone⟩

/-- R77: a port that no victim can be, and without a parent, stays through the pass. -/
theorem runOpportunity_stands {p : Port} {r : PortRec} {w : SwitchRec} {s : State} (h : StandsAs p r w s)
    (out : p ∉ s.engine.queue) (none : r.config.parent = none)
    (safe : r.alloc = .shedding ∨ r.config.cls = .essential) : StandsAs p r w (runOpportunity s) := by
  refine runOpportunity_reaches (I := StandsAs p r w) id id (fun x mem u _ hu => hu.admitPort fun e => out (e ▸ mem))
    (fun x _ u hu => bump_keeps (I := StandsAs p r w) (fun v u mem hu => ?_) hu) h
  refine (standsAs_of_no_parent w .preempted (fun e => ?_) none).shed id hu
  obtain ⟨-, staying, class_, -⟩ := mem_bumpPool.1 mem
  rw [← e] at staying class_
  rcases safe with shedding | essential
  · exact staying ((congrArg PortRec.alloc hu.1).trans shedding)
  · rw [not_essential_iff, State.cfg, hu.1] at class_
    exact class_ essential

/-- R96: so it stays through a shed check, if it is ESSENTIAL. -/
theorem shedCheck_stands {p : Port} {r : PortRec} {w : SwitchRec} (n : Nat) {s : State} (h : StandsAs p r w s)
    (none : r.config.parent = none) (essential : r.config.cls = .essential) : StandsAs p r w (shedCheck n s) := by
  refine shedCheck_keeps (I := StandsAs p r w) (fun v u mem hu => ?_) n h
  refine (standsAs_of_no_parent w .envelope (fun e => ?_) none).shed (I := StandsAs p r w) id hu
  have class_ := (mem_victims.1 mem).2.2
  rw [← e, not_essential_iff, State.cfg, hu.1] at class_
  exact class_ essential

/-- R75, R101: a port that has been shed, with a reason that the restore hold holds back, is not admitted by the pass. -/
theorem runOpportunity_shed {p : Port} {why : ShedReason} {r : PortRec} {w : SwitchRec} {s : State}
    (h : StandsAs p (shedRecord why r) w s) (class_ : r.config.cls ≠ .essential) (other : why ≠ .mode)
    (hold : s.engine.restoreHold.isSome = true) : StandsAs p (shedRecord why r) w (runOpportunity s) := by
  have stable := standsAs_stable p w (shedRecord_out why r)
  have config : (shedRecord why r).config = r.config := by unfold shedRecord; split <;> rfl
  refine runOpportunity_reaches
    (I := fun u => StandsAs p (shedRecord why r) w u ∧ u.engine.restoreHold.isSome = true) And.left id
    (fun x mem u enters hu => ⟨hu.1.admitPort ?_, holdRuns_stable.admitPort enters hu.2⟩)
    (fun x _ u hu => stable.bump x hu.1) ⟨h, hold⟩
  rintro rfl
  have skipped := skips_of_held (s := u) (p := p) (by rw [not_essential_iff, State.cfg, hu.1.1, config]; exact class_)
    (by rw [hu.1.1]; exact drop_reason other r) hu.2
  rw [skipped] at enters
  cases enters

/-! ## The restore hold and the count through the pass -/

/-- The restore hold runs from its full time of `n` ms. -/
theorem holdStarted_stable (n : Nat) :
    PassStable (fun s => s.engine.restoreHoldTime = n ∧ s.engine.restoreHold = some (n * 1000)) where
  drop {why p s} _ h := by rw [dropToShed_engine]; exact h
  enqueue _ h := h
  grace _ h := h
  modeReason _ h := h
  hold h := ⟨h.1, congrArg (fun n => some (n * 1000)) h.1⟩
  mark h := h
  admitPort {p s} _ h := by rw [admitPort_engine]; exact h

/-- R82: shedding and admission count no overdraw. -/
theorem noOverdraw_stable (p : Port) : PassStable (fun s => (s.port p).overdraw = 0) where
  drop {why x s} _ h := by
    rw [dropToShed_port]
    split
    · exact (drop_empties why _).2.2.1
    · exact h
  enqueue _ h := h
  grace {why x s} _ h := by
    rw [startGrace_port]
    split
    · next own => rw [own] at h; exact h
    · exact h
  modeReason {x s} _ h := by
    rw [State.mapPort_port]
    split
    · next own => rw [own] at h; exact h
    · exact h
  hold h := h
  mark h := h
  admitPort {x s} _ h := by
    rw [admitPort_port]
    split
    · rfl
    · exact h

end Sys2Proof.Machine
end

section
/-! The cases of an overdraw sample (R82) and of its resolution (R83), and the statement O25. -/

namespace Sys2Proof.Machine

/-! ## The port at the end of the handling -/

theorem StandsAs.finish {p : Port} {r : PortRec} {w : SwitchRec} (s0 : State) {s : State}
    (h : StandsAs p r w (runOpportunity s)) : StandsAs p r w (finish s0 s) := by
  obtain ⟨ports, switches, -⟩ := finish_ports s0 s
  exact ⟨(congrArg (tget · p) ports).trans h.1, (congrArg (tget · p) switches).trans h.2⟩

theorem StandsAs.mapPort {p : Port} {r : PortRec} {w : SwitchRec} {s : State} (h : StandsAs p r w s)
    (f : PortRec → PortRec) : StandsAs p (f r) w (s.mapPort p f) :=
  ⟨by rw [State.mapPort_port, if_pos rfl, h.1], h.2⟩

theorem Table.not_queued {p : Port} {s : State} (h : Table s) (out : (s.alloc p).queued = false) :
    p ∉ s.engine.queue := fun mem => by
  rw [h.queued_of_mem mem] at out
  cases out

/-! ## The sample of a port in ON (R82) -/

section Sample

variable {p : Port} {power : Nat} {s : State}

theorem overdrawSample_within (on : s.alloc p = .on) (within : ¬(s.port p).grant + tolerance (s.port p).grant < power) :
    overdrawSample p power s = s.mapPort p (fun r => { r with overdraw := 0 }) := by
  rw [overdrawSample, if_pos on, if_neg within]

theorem overdrawSample_counts (on : s.alloc p = .on) (beyond : (s.port p).grant + tolerance (s.port p).grant < power)
    (more : (s.port p).overdraw + 1 ≠ 50) :
    overdrawSample p power s = s.mapPort p (fun r => { r with overdraw := r.overdraw + 1 }) := by
  rw [overdrawSample, if_pos on, if_pos beyond]
  exact if_neg more

theorem overdrawSample_resolves (on : s.alloc p = .on) (beyond : (s.port p).grant + tolerance (s.port p).grant < power)
    (full : (s.port p).overdraw + 1 = 50) :
    overdrawSample p power s = (resolveOverdraw p power s).mapPort p (fun r => { r with overdraw := 0 }) := by
  rw [overdrawSample, if_pos on, if_pos beyond]
  exact if_pos full

/-! ## The resolution (R83) -/

theorem resolveOverdraw_fits (fits : s.committed - (s.port p).grant + regrantPower power ≤ s.engine.envelope) :
    resolveOverdraw p power s = regrant p (regrantPower power) s := if_pos fits

theorem resolveOverdraw_essential (short : ¬s.committed - (s.port p).grant + regrantPower power ≤ s.engine.envelope)
    (essential : s.essential p = true) :
    resolveOverdraw p power s = shedCheck 8 (regrant p (regrantPower power) s) := (if_neg short).trans (if_pos essential)

theorem resolveOverdraw_sheds (short : ¬s.committed - (s.port p).grant + regrantPower power ≤ s.engine.envelope)
    (class_ : s.essential p = false) : resolveOverdraw p power s = startHold (shed .overdraw p s) :=
  (if_neg short).trans (if_neg (by rw [class_]; nofun))

/-- R83, R101: the state in which a shed port leaves the resolution. -/
def overdrawShed (p : Port) (s : State) : State :=
  (startHold (shed .overdraw p s)).mapPort p (fun r => { r with overdraw := 0 })

theorem overdrawSample_sheds (on : s.alloc p = .on) (beyond : (s.port p).grant + tolerance (s.port p).grant < power)
    (full : (s.port p).overdraw + 1 = 50)
    (short : ¬s.committed - (s.port p).grant + regrantPower power ≤ s.engine.envelope) (class_ : s.essential p = false) :
    overdrawSample p power s = overdrawShed p s := by
  rw [overdrawSample_resolves on beyond full, resolveOverdraw_sheds short class_, overdrawShed]

theorem overdrawShed_hold (p : Port) (s : State) :
    (overdrawShed p s).engine.restoreHoldTime = s.engine.restoreHoldTime ∧
      (overdrawShed p s).engine.restoreHold = some (s.engine.restoreHoldTime * 1000) := by
  have numbers := (numbers_stable s.engine.numbers).shed .overdraw p (s := s) rfl
  have time : (shed .overdraw p s).engine.restoreHoldTime = s.engine.restoreHoldTime :=
    congrArg (fun n => n.2.2.2) numbers
  exact ⟨time, congrArg (fun n => some (n * 1000)) time⟩

theorem overdrawShed_graced (table : Table s) (on : s.alloc p = .on) (grace : (s.cfg p).shedGrace ≠ 0) :
    StandsAs p ((s.port p).graced .overdraw) (s.switch p) (overdrawShed p s) := by
  obtain ⟨port, switch⟩ := table.shed_graced on grace .overdraw
  rw [startGrace_port, if_pos rfl] at port
  exact StandsAs.mapPort (s := startHold (shed .overdraw p s)) ⟨port, switch⟩ (fun r => { r with overdraw := 0 })

theorem overdrawShed_at_once (on : s.alloc p = .on) (none : (s.cfg p).shedGrace = 0) :
    ∃ w, w.state = .opened ∧ StandsAs p (shedRecord .overdraw (s.port p)) w (overdrawShed p s) := by
  obtain ⟨w, opened, stands⟩ := shed_at_once on none .overdraw
  refine ⟨w, opened, ?_⟩
  have emptied : { shedRecord .overdraw (s.port p) with overdraw := 0 } = shedRecord .overdraw (s.port p) := by
    unfold shedRecord
    split <;> rfl
  rw [← emptied]
  exact StandsAs.mapPort (s := startHold (shed .overdraw p s)) stands (fun r => { r with overdraw := 0 })

/-! ## What the pass leaves of the port (R75, R77) -/

theorem finish_overdrawShed_hold (s0 : State) (p : Port) (s : State) :
    (finish s0 (overdrawShed p s)).engine.restoreHold = some (s.engine.restoreHoldTime * 1000) ∧
      ((finish s0 (overdrawShed p s)).port p).overdraw = 0 := by
  have counted : ((overdrawShed p s).port p).overdraw = 0 := by
    rw [overdrawShed, State.mapPort_port, if_pos rfl]
  have hold := ((holdStarted_stable s.engine.restoreHoldTime).runOpportunity (overdrawShed_hold p s)).2
  have count := (noOverdraw_stable p).runOpportunity counted
  obtain ⟨ports, -⟩ := finish_ports s0 (overdrawShed p s)
  refine ⟨?_, (congrArg (fun v => (tget v p).overdraw) ports).trans count⟩
  rw [finish_engine]
  exact hold

/-- R91, R106: the port is in SHEDDING, or has gone on to SHED with its reason. -/
theorem finish_overdrawShed_graced (s0 : State) (table : Table s) (on : s.alloc p = .on) (grace : (s.cfg p).shedGrace ≠ 0)
    (after : Table (overdrawShed p s)) :
    GracedOrGone p .overdraw (s.port p) (s.switch p) (finish s0 (overdrawShed p s)) := by
  have graced := overdrawShed_graced table on grace
  have out : p ∉ (overdrawShed p s).engine.queue := after.not_queued (by rw [State.alloc, graced.1]; rfl)
  rcases runOpportunity_graced graced out with graced | ⟨w, opened, gone⟩
  · exact .inl (graced.finish s0)
  · exact .inr ⟨w, opened, gone.finish s0⟩

/-- With no parent, or with no child in the granted list, it is in SHEDDING. -/
theorem finish_overdrawShed_stands (s0 : State) (table : Table s) (closed : s.engine.opportunity = false)
    (on : s.alloc p = .on) (grace : (s.cfg p).shedGrace ≠ 0) (after : Table (overdrawShed p s))
    (alone : (s.cfg p).parent = none ∨ ∀ q ∈ s.engine.granted, (s.cfg q).parent ≠ some p) :
    StandsAs p ((s.port p).graced .overdraw) (s.switch p) (finish s0 (overdrawShed p s)) := by
  have graced := overdrawShed_graced table on grace
  have out : p ∉ (overdrawShed p s).engine.queue := after.not_queued (by rw [State.alloc, graced.1]; rfl)
  refine StandsAs.finish s0 ?_
  rcases alone with none | childless
  · exact runOpportunity_stands graced out none (.inl rfl)
  · have still : (overdrawShed p s).engine.opportunity = false :=
      (shed_childless on grace childless .overdraw).trans closed
    rw [runOpportunity, if_neg (by rw [still]; nofun)]
    exact graced

/-- R90, R101: a port without grace is shed and stays out. -/
theorem finish_overdrawShed_gone (s0 : State) (on : s.alloc p = .on) (none : (s.cfg p).shedGrace = 0)
    (class_ : s.essential p = false) :
    ∃ w, w.state = .opened ∧ StandsAs p (shedRecord .overdraw (s.port p)) w (finish s0 (overdrawShed p s)) := by
  obtain ⟨w, opened, stands⟩ := overdrawShed_at_once on none
  exact ⟨w, opened, (runOpportunity_shed stands (not_essential_iff.1 class_) nofun
    (by rw [(overdrawShed_hold p s).2]; rfl)).finish s0⟩

/-- R97: an ESSENTIAL port without a parent keeps what it has been given. -/
theorem finish_essential_stands (s0 : State) {r : PortRec} {w : SwitchRec} (h : StandsAs p r w s)
    (after : Table ((shedCheck 8 s).mapPort p (fun r => { r with overdraw := 0 }))) (none : r.config.parent = none)
    (essential : r.config.cls = .essential) (on : r.alloc = .on) :
    StandsAs p { r with overdraw := 0 } w
      (finish s0 ((shedCheck 8 s).mapPort p (fun r => { r with overdraw := 0 }))) := by
  have checked := (shedCheck_stands 8 h none essential).mapPort (fun r => { r with overdraw := 0 })
  refine StandsAs.finish s0 (runOpportunity_stands checked (after.not_queued ?_) none (.inr essential))
  rw [State.alloc, checked.1]
  exact (congrArg AllocState.queued on).trans rfl

end Sample

/-! ## The completion (R80) -/

/-- R80, R82: the engine's part of a settled completion of a port's channel. -/
theorem takeSample_portChannel {p : Port} {s : State} (selectorFirst : Bool)
    (settled : (s.sample (portChannel p)).settled = true) (out : s.mode ≠ .init) :
    takeSample (portChannel p) selectorFirst s =
      if s.engine.held = false then finish s (overdrawSample p (s.portPower p) s) else s := by
  have other : ∀ x ∈ allSources, portChannel p ≠ sourceChannel x := by fin_cases p <;> decide
  rw [takeSample_of_no_source other, engineSample, channelPort_portChannel]
  simp only [settled, out, ne_eq, not_false_eq_true, and_true, true_and]

/-- R82: the sample that `power` makes of a port in ON, at the end of a handling in which no opportunity arises. -/
theorem finish_overdraw_port {p : Port} {s : State} (s0 : State) (f : PortRec → PortRec)
    (closed : s.engine.opportunity = false) : (finish s0 (s.mapPort p f)).port p = f (s.port p) := by
  obtain ⟨kept, -⟩ := finish_of_no_opportunity s0 (s := s.mapPort p f) closed
  rw [(kept p).1, State.mapPort_port, if_pos rfl]

end Sys2Proof.Machine

open Sys2Proof Sys2Proof.Machine

/-- Settles O25: the cases of the sample, then of its resolution, each with what the pass leaves of the port. -/
theorem overdrawIsCountedAndResolved : Obligations.OverdrawIsCountedAndResolved := by
  intro p code g selectorFirst s consistent converting out idle on
  obtain ⟨tabled, closed⟩ := consistent
  obtain ⟨table, -⟩ := (tableConsistent_iff s).1 tabled
  obtain ⟨-, -, only⟩ := completeSample_rest (portChannel p) code g s
  have taken := execSampleCompletion_of_conversion converting code selectorFirst
  have settled := completeSample_settled (portChannel p) code g idle
  generalize completeSample (portChannel p) code g s = r at only taken settled ⊢
  generalize r.sense = x at only
  subst only
  generalize hr : ({ s with sense := x } : State) = r at taken settled ⊢
  have tableR : Table r := by rw [← hr]; exact table.of_eq rfl rfl rfl rfl rfl fun _ => id
  have onR : r.alloc p = .on := by rw [← hr]; exact on
  have closedR : r.engine.opportunity = false := by rw [← hr]; exact closed
  have port : r.port p = s.port p := by rw [← hr]; rfl
  have switch : r.switch p = s.switch p := by rw [← hr]; rfl
  have engine : r.engine = s.engine := by rw [← hr]
  have cfg : ∀ q, r.cfg q = s.cfg q := fun q => by rw [← hr]; rfl
  have committed : r.committed = s.committed := by rw [← hr]; rfl
  rw [takeSample_portChannel selectorFirst settled (by rw [← hr]; exact out), engine] at taken
  intro sampled power grant new beyond fits
  refine ⟨_, taken, fun held => ?_, fun free => ?_⟩
  · rw [if_neg (by rw [held]; nofun)]
    exact ⟨port, engine⟩
  · rw [if_pos free]
    have exceeds : beyond ↔ (r.port p).grant + tolerance (r.port p).grant < r.portPower p := by rw [port]; exact Iff.rfl
    have roomy : fits ↔ r.committed - (r.port p).grant + regrantPower (r.portPower p) ≤ r.engine.envelope := by
      rw [port, committed, engine]
      exact Iff.rfl
    refine ⟨fun within => ?_, fun above more => ?_, fun above full => ?_⟩
    · rw [overdrawSample_within onR (mt exceeds.2 within), finish_overdraw_port r _ closedR, port]
    · rw [overdrawSample_counts onR (exceeds.1 above) (by rw [port]; exact more), finish_overdraw_port r _ closedR, port]
    · have last : (r.port p).overdraw + 1 = 50 := by rw [port]; exact full
      have sampledTable := tableR.overdrawSample p (r.portPower p)
      have regranted : StandsAs p
          { s.port p with grant := new, request := new, clamped := false, overdraw := 0 } (s.switch p) (regrant p new r) := by
        rw [← port, ← switch]
        exact StandsAs.mapPort ⟨rfl, rfl⟩ (fun r => { r with grant := new, request := new, clamped := false, overdraw := 0 })
      refine ⟨fun room => ?_, fun short other => ?_, fun short essential => ?_, fun short essential orphan => ?_⟩
      · rw [overdrawSample_resolves onR (exceeds.1 above) last, resolveOverdraw_fits (roomy.1 room),
          finish_overdraw_port (s := regrant p (regrantPower (r.portPower p)) r) r _ closedR]
        exact congrArg (fun r => { r with overdraw := 0 }) regranted.1
      · have class_ : r.essential p = false := not_essential_iff.2 (by rw [cfg]; exact other)
        rw [overdrawSample_sheds onR (exceeds.1 above) last (mt roomy.2 short) class_] at sampledTable ⊢
        obtain ⟨hold, count⟩ := finish_overdrawShed_hold r p r
        rw [engine] at hold
        refine ⟨hold, count, fun grace => ⟨?_, fun alone => ?_⟩, fun atOnce => ?_⟩
        · have left := finish_overdrawShed_graced r tableR onR (by rw [cfg]; exact grace) sampledTable
          rw [port, switch] at left
          exact left.imp (fun stands => ⟨stands.2, stands.1⟩) fun ⟨w, opened, gone⟩ =>
            ⟨gone.1, (congrArg SwitchRec.state gone.2).trans opened⟩
        · have left := finish_overdrawShed_stands r tableR closedR onR (by rw [cfg]; exact grace) sampledTable
            (by simp only [cfg, engine]; exact alone)
          rw [port, switch] at left
          exact ⟨left.2, left.1⟩
        · obtain ⟨w, opened, gone⟩ := finish_overdrawShed_gone r onR (by rw [cfg]; exact atOnce) class_
          rw [port] at gone
          exact ⟨gone.1, (congrArg SwitchRec.state gone.2).trans opened⟩
      · have class_ := essential_iff.2 (show (r.cfg p).cls = .essential by rw [cfg]; exact essential)
        rw [overdrawSample_resolves onR (exceeds.1 above) last, resolveOverdraw_essential (mt roomy.2 short) class_]
        have given : regrant p new r =
            { r with
              ports :=
                tput s.ports p { s.port p with grant := new, request := new, clamped := false, overdraw := 0 } } := by
          rw [← hr]
          rfl
        intro checked
        have check : shedCheck 8 (regrant p (regrantPower (r.portPower p)) r) = checked := congrArg (shedCheck 8) given
        rw [check]
        rfl
      · have class_ := essential_iff.2 (show (r.cfg p).cls = .essential by rw [cfg]; exact essential)
        rw [overdrawSample_resolves onR (exceeds.1 above) last, resolveOverdraw_essential (mt roomy.2 short) class_]
          at sampledTable ⊢
        exact (finish_essential_stands r regranted sampledTable orphan essential on).1

end

section
/-! Retained power and the envelope (R63, R96): both as sums over the ports, the moves that free power without asking for
any, and the moves for which there is room. -/

namespace Sys2Proof.Machine

/-! ## Retained and committed power as sums (R63) -/

/-- R96: the rule in terms of the ports that a shed check has not taken yet. -/
theorem Table.respected_iff {s : State} (h : Table s) :
    EnvelopeRespected s ↔ s.retained ≤ s.engine.envelope ∨ ∀ q, Stays q s → s.essential q = true := by
  refine or_congr_right ⟨fun left q stays => ?_, fun left q listed => ?_⟩
  · obtain ⟨listed, staying⟩ := h.stays_iff.1 stays
    exact (left q listed).resolve_left staying
  · exact or_iff_not_imp_left.2 fun staying => left q (h.stays_iff.2 ⟨listed, staying⟩)

/-- R61, R63: a port outside the granted list has no grant, so committed power is the sum of all grants. -/
theorem Table.committed_eq {s : State} (h : Table s) : s.committed = ∑ q, (s.port q).grant := by
  rw [State.committed, grants_eq_sum h.grantedNodup]
  refine Finset.sum_subset (Finset.subset_univ _) fun q _ out => ?_
  rw [List.mem_toFinset, h.granted] at out
  exact ((h.power q).resolve_left out).2

theorem Table.retained_le_committed {s : State} (h : Table s) : s.retained ≤ s.committed := by
  rw [h.retained_eq, h.committed_eq]
  exact Finset.sum_le_sum_of_subset (Finset.subset_univ _)

/-- A change of one record moves committed power by the change of its grant. -/
theorem OnePort.committed_add {p : Port} {r : PortRec} {s t : State} (c : OnePort p r s t) (hs : Table s) (ht : Table t) :
    t.committed + (s.port p).grant = s.committed + r.grant := by
  have rest : ∑ q ∈ Finset.univ.erase p, (t.port q).grant = ∑ q ∈ Finset.univ.erase p, (s.port q).grant :=
    Finset.sum_congr rfl fun q mem => by rw [c.other (Finset.ne_of_mem_erase mem)]
  rw [hs.committed_eq, ht.committed_eq, ← Finset.add_sum_erase _ _ (Finset.mem_univ p), c.self, rest,
    ← Finset.add_sum_erase _ (fun q => (s.port q).grant) (Finset.mem_univ p)]
  omega

/-- R70, R76, R83: a new grant that committed power leaves room for keeps retained power within the envelope. -/
theorem OnePort.respected_of_room {p : Port} {r : PortRec} {s t : State} (c : OnePort p r s t) (hs : Table s)
    (ht : Table t) (envelope : t.engine.envelope = s.engine.envelope)
    (room : s.committed + r.grant ≤ s.engine.envelope + (s.port p).grant) : EnvelopeRespected t := by
  have sum := c.committed_add hs ht
  have below := ht.retained_le_committed
  exact .inl (by omega)

/-! ## Moves that ask for no power -/

/-- No port comes to stay, and none of those that stay gets a higher grant or another class. -/
structure Eases (s t : State) : Prop where
  envelope : t.engine.envelope = s.engine.envelope
  stays : ∀ {q}, Stays q t → Stays q s ∧ (t.port q).grant ≤ (s.port q).grant ∧ t.cfg q = s.cfg q

theorem Eases.of_ports {s t : State} (port : ∀ q, t.port q = s.port q) (envelope : t.engine.envelope = s.engine.envelope) :
    Eases s t :=
  ⟨envelope, fun {q} stays => ⟨(stays_congr (port q)).1 stays, by rw [port], by rw [State.cfg, port, State.cfg]⟩⟩

theorem Eases.refl (s : State) : Eases s s := .of_ports (fun _ => rfl) rfl

theorem Eases.trans {s t u : State} (h : Eases s t) (k : Eases t u) : Eases s u where
  envelope := k.envelope.trans h.envelope
  stays stays := by
    obtain ⟨stays, grant, cfg⟩ := k.stays stays
    obtain ⟨stays, grant', cfg'⟩ := h.stays stays
    exact ⟨stays, grant.trans grant', cfg.trans cfg'⟩

theorem Eases.opportunity {s t : State} (h : Eases s t) : Eases s (opportunity t) := h.trans (.of_ports (fun _ => rfl) rfl)

/-- R96: such a move keeps retained power within the envelope. -/
theorem Eases.respected {s t : State} (h : Eases s t) (hs : Table s) (ht : Table t) (respected : EnvelopeRespected s) :
    EnvelopeRespected t := by
  rw [hs.respected_iff] at respected
  rw [ht.respected_iff, h.envelope]
  refine respected.imp (fun within => ?_) fun left q stays => ?_
  · refine le_trans ?_ within
    rw [hs.retained_eq, ht.retained_eq]
    calc ∑ q with Stays q t, (t.port q).grant
        ≤ ∑ q with Stays q t, (s.port q).grant :=
          Finset.sum_le_sum fun q mem => (h.stays (Finset.mem_filter.1 mem).2).2.1
      _ ≤ ∑ q with Stays q s, (s.port q).grant :=
          Finset.sum_le_sum_of_subset (Finset.monotone_filter_right _ fun q _ stays => (h.stays stays).1)
  · obtain ⟨stays, -, cfg⟩ := h.stays stays
    rw [essential_of_cfg cfg]
    exact left q stays

/-- A change of one record that, where its port stays, it stayed already with no lower grant. -/
theorem PortBecomes.eases {p : Port} {r : PortRec} {s t : State} (c : PortBecomes p r s t)
    (envelope : t.engine.envelope = s.engine.envelope)
    (own : r.alloc.granted = true → r.alloc ≠ .shedding → Stays p s ∧ r.grant ≤ (s.port p).grant) : Eases s t where
  envelope := envelope
  stays {q} stays := by
    by_cases e : q = p
    · subst e
      rw [Stays, c.alloc_self] at stays
      obtain ⟨stayed, grant⟩ := own stays.1 stays.2
      exact ⟨stayed, by rw [c.self]; exact grant, c.cfg q⟩
    · exact ⟨(stays_congr (c.other e)).1 stays, by rw [c.other e], c.cfg q⟩

/-- A port that leaves the granted list, or is outside it. -/
theorem PortBecomes.eases_out {p : Port} {r : PortRec} {s t : State} (c : PortBecomes p r s t)
    (envelope : t.engine.envelope = s.engine.envelope) (out : r.alloc.granted = false) : Eases s t :=
  c.eases envelope fun granted => by rw [out] at granted; cases granted

/-- A port that keeps its state, with no higher grant. -/
theorem PortBecomes.eases_same {p : Port} {r : PortRec} {s t : State} (c : PortBecomes p r s t)
    (envelope : t.engine.envelope = s.engine.envelope) (alloc : r.alloc = s.alloc p) (grant : r.grant ≤ (s.port p).grant) :
    Eases s t :=
  c.eases envelope fun granted staying => ⟨⟨alloc ▸ granted, alloc ▸ staying⟩, grant⟩

theorem enterWaiting_eases (p : Port) (s : State) : Eases s (enterWaiting p s) :=
  ((mapPort_becomes p (fun r => { r with alloc := .waiting }) s rfl).eases_out rfl rfl).trans (.of_ports (fun _ => rfl) rfl)

theorem dropToShed_envelope (why : ShedReason) (p : Port) (s : State) :
    (dropToShed why p s).engine.envelope = s.engine.envelope := by
  rw [dropToShed_engine]
  rfl

/-- R90, R91: shedding asks for no power. -/
theorem eases_stable (s : State) : ShedStable (Eases s) where
  drop {why p u} _ h :=
    h.trans ((dropToShed_becomes why p u).eases_out (dropToShed_envelope why p u) (drop_out why _))
  enqueue _ h := h.trans (.of_ports (fun _ => rfl) rfl)
  grace {_ p u} _ h :=
    h.trans ((mapPort_becomes p _ u rfl).eases rfl fun _ staying => absurd rfl staying)
  modeReason {p u} _ h := h.trans ((mapPort_becomes p _ u rfl).eases_same rfl rfl le_rfl)
  hold h := h.trans (.of_ports (fun _ => rfl) rfl)
  mark h := h.trans (.of_ports (fun _ => rfl) rfl)

end Sys2Proof.Machine
end

section
/-! The engine's operations keep retained power within the envelope (R96): those that shed or free power, those that ask
for room, and the recomputation of the envelope, whose shed check makes the room. -/

namespace Sys2Proof.Machine

/-- The allocation table holds, and retained power is within the envelope as far as the classes let it be. -/
structure Covered (s : State) : Prop where
  table : Table s
  respected : EnvelopeRespected s

namespace Covered

variable {s t : State} {p : Port}

theorem eased (h : Covered s) (table : Table t) (eases : Eases s t) : Covered t :=
  ⟨table, eases.respected h.table table h.respected⟩

theorem roomy {r : PortRec} (h : Covered s) (table : Table t) (c : OnePort p r s t)
    (envelope : t.engine.envelope = s.engine.envelope)
    (room : s.committed + r.grant ≤ s.engine.envelope + (s.port p).grant) : Covered t :=
  ⟨table, c.respected_of_room h.table table envelope room⟩

theorem opportunity (h : Covered s) : Covered (opportunity s) :=
  h.eased h.table.opportunity (.of_ports (fun _ => rfl) rfl)

theorem startHold (h : Covered s) : Covered (startHold s) := h.eased h.table.startHold (.of_ports (fun _ => rfl) rfl)

/-- A change of a record that keeps state, request and grant. -/
theorem mapPort_aside (h : Covered s) {f : PortRec → PortRec} (config : (f (s.port p)).config = s.cfg p)
    (alloc : (f (s.port p)).alloc = s.alloc p) (request : (f (s.port p)).request = (s.port p).request)
    (grant : (f (s.port p)).grant = (s.port p).grant) : Covered (s.mapPort p f) :=
  h.eased (h.table.mapPort_aside config alloc request grant)
    ((mapPort_becomes p f s config).eases_same rfl alloc grant.le)

/-! ## Shedding (R91, R96, R77) -/

theorem shed (h : Covered s) (why : ShedReason) (p : Port) : Covered (shed why p s) :=
  h.eased (h.table.shed why p) ((eases_stable s).shed why p (.refl s))

theorem bump (h : Covered s) (cand : Port) : Covered (bump cand s) :=
  h.eased (h.table.bump cand) ((eases_stable s).bump cand (.refl s))

theorem dropTree (h : Covered s) (granted : (s.alloc p).granted = true) (why : ShedReason) :
    Covered (inOneStep (dropTree why p) s) :=
  h.eased (h.table.dropTree granted why)
    ((eases_stable s).requeue _ ((eases_stable s).dropTree granted (.refl s)))

theorem shedAll (h : Covered s) (why : ShedReason) (l : List Port) :
    Covered (inOneStep (fun s => forEach l (shedOrder 8 why) s) s) :=
  h.eased (h.table.shedAll why l)
    ((eases_stable s).requeue _ (forEach_keeps (fun p _ hu => (eases_stable s).shedOrder 8 why p hu) l (.refl s)))

/-! ## Releases, faults and clears (R72, R73, R78, R79) -/

/-- A port that leaves the granted list with its dependants, as one step. -/
theorem leaveWithDependants {r : PortRec} {f : State → State} (h : Covered s) (l : Leaves p r s (f s))
    (unlisted : r.alloc.queued = false) (envelope : (f s).engine.envelope = s.engine.envelope) :
    Covered (inOneStep (fun s => Machine.opportunity (dropDependants p (f s))) s) := by
  have stable := eases_stable s
  exact h.eased (h.table.leaveWithDependants l unlisted)
    (stable.requeue _ (stable.mark (stable.dropChildren 8 p (l.eases_out envelope l.out))))

theorem release (h : Covered s) (p : Port) : Covered (release p s) := by
  have envelope : (goOff p s).engine.envelope = s.engine.envelope := by rw [goOff_engine]; rfl
  have table := h.table.release p
  unfold Machine.release at table ⊢
  split at table
  · next granted =>
    rw [if_pos granted]
    exact h.leaveWithDependants (goOff_leaves p s) rfl envelope
  · next outside =>
    rw [if_neg outside]
    exact h.eased table ((goOff_leaves p s).eases_out envelope rfl)

theorem releaseIfHeld (h : Covered s) (p : Port) : Covered (releaseIfHeld p s) := by
  unfold Machine.releaseIfHeld
  split
  · exact h
  · exact h
  all_goals exact h.release p

theorem faultPort (h : Covered s) (granted : (s.alloc p).granted = true) : Covered (faultPort p s) :=
  h.leaveWithDependants (goFaulted_leaves (h.table.notQueued granted)) rfl (by rw [goFaulted_engine]; rfl)

theorem clearFaulted (h : Covered s) (p : Port) : Covered (clearFaulted p s) := by
  refine h.eased (h.table.clearFaulted p) ?_
  unfold Machine.clearFaulted
  split
  · exact (mapPort_becomes p _ s rfl).eases_out rfl rfl
  · exact .refl s

/-! ## Reports (R78, R79) -/

theorem startCompletes (h : Covered s) (slotted : (s.alloc p).slotted = true) : Covered (startCompletes p s) := by
  have staying : s.alloc p ≠ .shedding := fun e => by rw [e] at slotted; cases slotted
  have on := mapPort_becomes p (fun r => { r with alloc := .on, overdraw := 0 }) s rfl
  have eases := on.eases rfl fun _ _ => ⟨⟨AllocState.granted_of_slotted slotted, staying⟩, le_rfl⟩
  have freed : Eases (s.mapPort p fun r => { r with alloc := .on, overdraw := 0 })
      ((s.mapPort p fun r => { r with alloc := .on, overdraw := 0 }).mapEngine fun e => e.freeSlot p) :=
    .of_ports (fun _ => rfl) rfl
  exact h.eased (h.table.startCompletes slotted) (eases.trans freed).opportunity

theorem takeStartComplete (h : Covered s) (p : Port) : Covered (takeStartComplete p s) := by
  unfold Machine.takeStartComplete
  split
  · next taken => exact h.startCompletes taken.2
  · exact h

theorem takeStartFail (h : Covered s) (p : Port) : Covered (takeStartFail p s) := by
  unfold Machine.takeStartFail
  split
  · next taken => exact h.faultPort (AllocState.granted_of_slotted taken.2)
  · exact h

theorem takeOpened (h : Covered s) (p : Port) : Covered (takeOpened p s) := by
  unfold Machine.takeOpened
  split
  · next taken => exact h.faultPort taken.2
  · exact h

theorem takeTrip (h : Covered s) (p : Port) (o : TripOutcome) : Covered (takeTrip p o s) := by
  cases o
  case opened => exact h.takeOpened p
  all_goals exact h

/-! ## Requests (R70, R102) -/

theorem requestOff (h : Covered s) (off : s.alloc p = .off) (req : Nat) (cut : Bool) (o : Origin) :
    Covered (requestOff p req cut o s) := by
  refine h.eased (h.table.requestOff off req cut o) ?_
  unfold Machine.requestOff
  split
  · exact (emptyRequest_leaves h.table.toListsBut (by rw [off]; rfl)).eases_out rfl rfl
  · have stored := mapPort_becomes p (fun r => { r with request := req, clamped := cut, origin := some o }) s rfl
    exact ((stored.eases_same rfl rfl le_rfl).trans (enterWaiting_eases p _)).opportunity

theorem requestQueued (h : Covered s) (queued : (s.alloc p).queued = true) (req : Nat) (cut : Bool) (o : Origin) :
    Covered (requestQueued p req cut o s) := by
  refine h.eased (h.table.requestQueued queued req cut o) ?_
  unfold Machine.requestQueued
  split
  · exact (emptyRequest_leaves h.table.toListsBut (by simpa using AllocState.not_granted_of_queued queued)).eases_out rfl rfl
  · have stored := mapPort_becomes p (fun r => { r with request := req, clamped := cut, origin := some o }) s rfl
    exact (stored.eases_same rfl rfl le_rfl).opportunity

/-- R70: a lower or an equal grant asks for no power, and a higher one is given where there is room. -/
theorem requestGranted (h : Covered s) (granted : (s.alloc p).granted = true) (req : Nat) (cut : Bool) (o : Origin) :
    Covered (requestGranted p req cut o s) := by
  have table := h.table.requestGranted granted req cut o
  have taken := mapPort_becomes p (fun r => { r.withGrant req with request := req, clamped := cut, origin := some o }) s rfl
  unfold Machine.requestGranted at table ⊢
  dsimp only at table ⊢
  split at table
  · next lower =>
    rw [if_pos lower]
    exact h.eased table (taken.eases_same rfl rfl lower.le).opportunity
  · next notLower =>
    rw [if_neg notLower]
    split at table
    · next given =>
      rw [if_pos given]
      rcases given with same | room
      · exact h.eased table (taken.eases_same rfl rfl same.le)
      · refine h.roomy table taken.toOnePort rfl ?_
        have room : s.committed + (req - (s.port p).grant) ≤ s.engine.envelope := by simpa [State.roomFor] using room
        change s.committed + req ≤ _
        omega
    · next refused =>
      rw [if_neg refused]
      exact h.mapPort_aside rfl rfl rfl rfl

theorem acceptRequest (h : Covered s) (p : Port) (asked : Nat) (o : Origin) : Covered (acceptRequest p asked o s) := by
  unfold Machine.acceptRequest
  dsimp only
  split
  · next e => exact h.requestOff e _ _ _
  · next e => exact h.requestQueued (by rw [e]; rfl) _ _ _
  · next e => exact h.requestQueued (by rw [e]; rfl) _ _ _
  · next e => exact h.requestGranted (by rw [e]; rfl) _ _ _
  · next e => exact h.requestGranted (by rw [e]; rfl) _ _ _
  · next e => exact h.requestGranted (by rw [e]; rfl) _ _ _
  · exact h
  · exact h

theorem recordRequest (h : Covered s) (p : Port) (power : Nat) : Covered (recordRequest p power s) := by
  unfold Machine.recordRequest
  split
  · exact h
  · split
    · exact h.releaseIfHeld p
    · exact h.acceptRequest p _ _

theorem actOnRecord (h : Covered s) (p : Port) (r : AccRecord) : Covered (actOnRecord p r s) := by
  cases r with
  | announce t w i => exact (h.mapPort_aside rfl rfl rfl rfl).recordRequest p _
  | request w => exact h.recordRequest p _

end Covered

/-! ## The shed check and the cancellation (R96, R97, R99) -/

theorem Table.shedCheck_covered {s : State} (h : Table s) : Covered (Machine.shedCheck 8 s) :=
  ⟨h.shedCheck 8, h.shedCheck_respected⟩

/-- R99: a group is taken back only where that keeps within the envelope. -/
theorem Covered.cancelWalk {s : State} (h : Covered s) (l : List Port) : Covered (cancelWalk l s) := by
  refine cancelWalk_keeps (fun p _ u hu returns fits => ?_) h
  obtain ⟨-, b, engine⟩ := cancelAll_rest (u.group p) u
  refine ⟨hu.table.cancelGroup returns.1 returns.2, .inl ?_⟩
  rw [engine]
  exact (hu.table.retained_cancelGroup returns).trans fits

/-- R66, R67: whatever the envelope becomes, the follow-on steps bring retained power within it. -/
theorem Table.recompute_covered {s : State} (h : Table s) : Covered (Machine.recompute s) := by
  have checked : Covered (Machine.shedCheck 8 (storeEnvelope s)) :=
    (h.mapEngine rfl rfl rfl rfl : Table (storeEnvelope s)).shedCheck_covered
  unfold Machine.recompute Machine.afterRecompute
  dsimp only
  split
  · exact (checked.cancelWalk _).opportunity
  · exact checked

namespace Covered

variable {s : State} {p : Port}

/-- R68: new allocation settings, followed by the recomputation unless held. -/
theorem setEnvelope (h : Covered s) (pl : List Byte) : Covered (recomputeUnlessHeld (storeAllocSettings pl s)) := by
  have table : Table (storeAllocSettings pl s) := h.table.mapEngine rfl rfl rfl rfl
  unfold recomputeUnlessHeld
  split
  · exact h.eased table (.of_ports (fun _ => rfl) rfl)
  · exact table.recompute_covered

/-! ## Overdraw (R82, R83) -/

/-- R83: a regrant fits, or a shed check follows it, or the port is shed. -/
theorem resolveOverdraw (h : Covered s) (granted : (s.alloc p).granted = true) (power : Nat) :
    Covered (resolveOverdraw p power s) := by
  have table := h.table.regrant granted (regrantPower power)
  unfold Machine.resolveOverdraw
  dsimp only
  split
  · next fits =>
    refine h.roomy table (mapPort_becomes p _ s rfl).toOnePort rfl ?_
    change s.committed + regrantPower power ≤ _
    omega
  · split
    · exact table.shedCheck_covered
    · exact (h.shed .overdraw p).startHold

theorem overdrawSample (h : Covered s) (p : Port) (power : Nat) : Covered (overdrawSample p power s) := by
  unfold Machine.overdrawSample
  split
  · next on =>
    split
    · split
      · exact (h.resolveOverdraw (by rw [on]; rfl) power).mapPort_aside rfl rfl rfl rfl
      · exact h.mapPort_aside rfl rfl rfl rfl
    · exact h.mapPort_aside rfl rfl rfl rfl
  · exact h

/-! ## The events of the selector (R80, R81, R103) -/

theorem holdPort (h : Covered s) (p : Port) : Covered (holdPort p s) := by
  refine h.eased (h.table.holdPort p) ?_
  unfold Machine.holdPort
  split
  · next starting =>
    have frame := pauseSwitch_frame p (s.mapPort p (fun r => { r with alloc := .held }))
    refine ((mapPort_becomes p (fun r => { r with alloc := .held }) s rfl).of_ports frame.port).eases
      (by rw [frame.engine]; rfl) fun _ _ => ⟨⟨?_, ?_⟩, le_rfl⟩
    · rw [starting]; rfl
    · rw [starting]; nofun
  · exact .refl s

theorem beginHold (h : Covered s) : Covered (beginHold s) := by
  unfold Machine.beginHold
  split
  · exact h
  · exact forEach_keeps (I := Covered) (fun p _ hu => hu.holdPort p) _
      (h.eased (h.table.mapEngine rfl rfl rfl rfl) (.of_ports (fun _ => rfl) rfl))

end Covered

theorem Table.endHold_covered {s : State} (h : Table s) : Covered (Machine.endHold s) :=
  (forEach_keeps (I := Table) (fun p _ hu => hu.resumePort p) _ (h.mapEngine rfl rfl rfl rfl)).recompute_covered.opportunity

end Sys2Proof.Machine
end

section
/-! The handlings of the engine keep retained power within the envelope (R96): the no-source event, a new configuration, a
change of mode, the end of INIT, and the admission pass at the end of each. -/

namespace Sys2Proof.Machine

/-! ## An empty granted list -/

/-- No port is in a state of the granted list. -/
def NoneGranted (s : State) : Prop := ∀ q, (s.alloc q).granted = false

theorem NoneGranted.list {s : State} (h : NoneGranted s) (table : Table s) : s.engine.granted = [] :=
  List.eq_nil_iff_forall_not_mem.2 fun q mem => by
    rw [table.granted, h] at mem
    cases mem

theorem NoneGranted.covered {s : State} (h : NoneGranted s) (table : Table s) : Covered s := by
  refine ⟨table, .inr fun q mem => ?_⟩
  rw [h.list table] at mem
  cases mem

theorem NoneGranted.of_ports {s t : State} (h : NoneGranted s) (ports : t.ports = s.ports) : NoneGranted t := fun q => by
  rw [State.alloc, State.port, ports]
  exact h q

/-! ## The no-source event (R103) -/

/-- R103: the whole granted list entering SHED, as one step. -/
def dropAll (why : ShedReason) (s : State) : State :=
  inOneStep (fun s => forEach s.engine.granted.reverse (dropToShed why) s) s

theorem noSource_eq (s : State) :
    noSource s =
      opportunity (startHold (dropAll .noSource (s.mapEngine fun e => { e with held := false, envelope := 0 }))) := rfl

theorem requeue_ports (order : List Port) (s : State) : (requeue order s).ports = s.ports := by
  rw [requeue_eq]
  rfl

theorem Table.dropAll_noneGranted {s : State} (h : Table s) (why : ShedReason) : NoneGranted (Machine.dropAll why s) := by
  have start : StillGranted s.engine.granted s.engine.granted.reverse s :=
    ⟨h.stepUp.step, List.nodup_reverse.2 h.grantedNodup, fun q => by rw [List.mem_reverse, h.granted]⟩
  have done := forEach_consumes (fun _ _ _ hu => hu.drop why) start
  refine NoneGranted.of_ports (fun q => ?_) (requeue_ports _ _)
  rw [← Bool.not_eq_true, done.states]
  exact List.not_mem_nil

theorem Table.noSource_noneGranted {s : State} (h : Table s) : NoneGranted (Machine.noSource s) :=
  (Table.dropAll_noneGranted (h.mapEngine rfl rfl rfl rfl) .noSource).of_ports rfl

theorem Table.noSource_covered {s : State} (h : Table s) : Covered (Machine.noSource s) :=
  h.noSource_noneGranted.covered h.noSource

/-! ## A new configuration (R84, R85) -/

/-- R85: the table before the shed check that ends a PORT_CONFIGURE. -/
theorem Table.applyParent_configured {p : Port} {c : PortConfig} {s : State} (h : Table s)
    (opens : s.parentCloses p c.parent = false) :
    Table (Machine.applyParent p (s.cfg p) (applyKey p (s.cfg p) (applyCap p (storeConfig p c s)))) := by
  have cut := (h.reconfigured opens).applyCap
  have ports := applyKey_ports p (s.cfg p) (applyCap p (storeConfig p c s))
  have cfg : (applyKey p (s.cfg p) (applyCap p (storeConfig p c s))).cfg p = (applyCap p (storeConfig p c s)).cfg p := by
    rw [State.cfg, State.port, ports, State.cfg, State.port]
  exact cut.applyKey.applyParent (cut.upBut.of_ports ports) fun same => (cut.up (by rw [← cfg]; exact same)).of_ports ports

/-- R85: the shed check covers whatever the new configuration makes of classes, grants and parents. -/
theorem Table.configure_covered {p : Port} {c : PortConfig} {s : State} (h : Table s)
    (opens : s.parentCloses p c.parent = false) : Covered (applyConfig p (s.cfg p) (storeConfig p c s)) :=
  (h.applyParent_configured opens).shedCheck_covered.opportunity

/-! ## A change of mode (R118, R119) -/

theorem powerUpMode_eases (dst : Mode) (s : State) : Eases s (powerUpMode dst s) := by
  unfold powerUpMode
  split
  · exact .refl s
  · split
    · exact (Eases.refl s).opportunity
    · have rails := turnRailsOn_untouched s
      exact Eases.opportunity (.of_ports (fun q => by rw [State.port, rails.ports, State.port]) (by rw [rails.engine]))

theorem enterMode_eases (dst : Mode) (s : State) : Eases s (enterMode dst s) :=
  .of_ports (fun _ => rfl) rfl

/-- R118, R119: what a change of mode makes of the state before the end of its handling. -/
theorem Covered.changesMode {s : State} (h : Covered s) (dst : Mode) (l : List Port) :
    Covered (powerUpMode dst (inOneStep (fun s => forEach l (shedOrder 8 .mode) s) (enterMode dst s))) := by
  have shed := (h.eased (h.table.enterMode dst) (enterMode_eases dst s)).shedAll .mode l
  exact shed.eased (shed.table.powerUpMode dst) (powerUpMode_eases dst _)

/-! ## The end of INIT (R89, R113) -/

theorem coldStartPort_noneGranted {s : State} (h : NoneGranted s) (p : Port) : NoneGranted (coldStartPort p s) := by
  intro q
  by_cases own : q = p
  · subst own
    unfold coldStartPort
    dsimp only
    split
    · exact h q
    · rw [enterWaiting, State.mapEngine_alloc, State.alloc, State.mapPort_port_self]
      rfl
  · rw [coldStartPort_alloc_ne own]
    exact h q

theorem firstEnvelope_noneGranted {s : State} (off : ∀ p, s.alloc p = .off) : NoneGranted (firstEnvelope s) := by
  intro q
  unfold firstEnvelope
  split
  · rw [State.mapEngine_alloc, off]; rfl
  · rw [recompute_off off]; rfl

/-- R89: the cold start enqueues ports, and admits none yet. -/
theorem prepareEngine_noneGranted {s : State} (off : ∀ p, s.alloc p = .off) : NoneGranted (prepareEngine s) := by
  have started := forEach_keeps (I := NoneGranted) (fun p _ hu => coldStartPort_noneGranted hu p) allPorts
    (firstEnvelope_noneGranted off)
  refine started.of_ports (forEach_untouched (fun p u => ?_) _ _).ports
  split
  · exact (postNotice_frame _ u).untouched
  · exact .refl u

/-- R17, R57, R108, R113: loading the profiles leaves every port OFF. -/
theorem AllOff.profilesLoaded {s : State} (h : AllOff s) (x : SystemProfile) :
    AllOff (forEach allPorts Machine.breakCycle
      (Machine.loadSettings x (forEach allPorts Machine.loadPort (loadSelector x s)))) := by
  have loaded := forEach_keeps (I := AllOff) (fun p _ hu => hu.loadPort p) allPorts
    ((loadSelector_untouched x s).allOff h)
  exact forEach_keeps (I := AllOff) (fun p _ hu => hu.breakCycle p) allPorts (loaded.loadSettings x)

theorem raised_ports (s : State) : (raised s).ports = s.ports := by
  have rails := (turnRailsOn_untouched { s with mode := s.targetMode, initByLink := false }).ports
  unfold raised
  dsimp only
  generalize turnRailsOn { s with mode := s.targetMode, initByLink := false } = u at rails
  split
  · exact rails
  · rfl

theorem leaveInit_ports (s : State) : (leaveInit s).ports = s.ports := by
  rw [leaveInit_eq, (postNotice_frame _ _).ports, raised_ports]

/-- R113: the end of INIT, before the pass of its handling. -/
theorem Table.leaveInit_covered {s : State} (h : Table s) (off : ∀ p, s.alloc p = .off) :
    Covered (Machine.leaveInit (Machine.applyProfiles s)) := by
  have loaded := (h.allOff off).profilesLoaded (loadedSystem (tget s.store.slots 8))
  exact NoneGranted.covered ((prepareEngine_noneGranted loaded.off).of_ports (leaveInit_ports _))
    (h.applyProfiles off).leaveInit

/-! ## The admission pass (R75 to R77) -/

/-- What every admission of a pass over entries of the queue keeps, and every bump, the pass keeps. -/
theorem Table.passWalk_keeps {I : State → Prop}
    (admits : ∀ {x u}, Table u → x ∈ u.engine.queue → u.engine.hasSlot = true → u.skips x = false → u.fits x = true →
      I u → I (Machine.admitPort x u))
    (bumps : ∀ {x u}, Table u → I u → I (Machine.bump x u)) (l : List Port) :
    ∀ {s : State}, Table s → l.Nodup → (∀ x ∈ l, x ∈ s.engine.queue) → I s → I (Machine.passWalk l s) := by
  induction l with
  | nil => exact fun _ _ _ hs => hs
  | cons p l ih =>
    intro s table nodup queued hs
    obtain ⟨out, nodup⟩ := List.nodup_cons.1 nodup
    have later : ∀ x ∈ l, x ∈ s.engine.queue := fun x mem => queued x (List.mem_cons_of_mem p mem)
    have own : p ∈ s.engine.queue := queued p List.mem_cons_self
    unfold Machine.passWalk
    split
    · exact ih table nodup later hs
    · next enters =>
      rw [Bool.not_eq_true] at enters
      split
      · next free =>
        split
        · next fits =>
          refine ih (table.admitPort own free enters) nodup (fun x mem => ?_) (admits table own free enters fits hs)
          rw [admitPort_engine, mem_without]
          exact ⟨later x mem, fun e => out (e ▸ mem)⟩
        · exact bumps table hs
      · exact hs

/-- R75: an entry that fits is admitted within the envelope. -/
theorem Covered.admitPort {p : Port} {s : State} (h : Covered s) (queued : p ∈ s.engine.queue)
    (free : s.engine.hasSlot = true) (enters : s.skips p = false) (fits : s.fits p = true) : Covered (admitPort p s) := by
  have room : s.committed + s.need p ≤ s.engine.envelope := by simpa [State.fits] using fits
  refine h.roomy (h.table.admitPort queued free enters) (admitPort_becomes p s).toOnePort (by rw [admitPort_engine]) ?_
  have asked : (s.port p).request ≤ s.need p := Nat.le_add_right _ _
  change s.committed + (s.port p).request ≤ _
  omega

theorem Covered.runOpportunity {s : State} (h : Covered s) : Covered (runOpportunity s) := by
  have pass : Covered (admissionPass s) :=
    Table.passWalk_keeps (I := Covered) (fun _ queued free enters fits hu => hu.admitPort queued free enters fits)
      (fun _ hu => hu.bump _) _ h.table h.table.queueNodup (fun _ => id) h
  refine ⟨h.table.runOpportunity, ?_⟩
  unfold Machine.runOpportunity
  split
  · split
    · exact h.respected
    · exact pass.respected
  · exact h.respected

/-- R64, R74: the end of a handling keeps retained power within the envelope. -/
theorem Covered.finish {s : State} (h : Covered s) (s0 : State) : EnvelopeRespected (finish s0 s) := by
  obtain ⟨ports, -⟩ := finish_ports s0 s
  have engine := finish_engine s0 s
  have passed := h.runOpportunity
  refine (passed.eased (t := Machine.finish s0 s) (h.table.finish s0)
    (.of_ports (fun q => congrArg (tget · q) ports) ?_)).respected
  rw [engine]

end Sys2Proof.Machine
end

section
/-! What the decoder can do with a frame, and which commands of the host reach the ports and the lists (R173, R174). -/

namespace Sys2Proof.Machine

/-! ## The decoder -/

theorem setLink_untouched (l : Link) (s : State) : Untouched s (s.setLink l) := .of_eq rfl rfl rfl rfl

/-- R174: out of INIT a command is carried out, with nothing done to the ports and the lists before it and after it. -/
def CarriesOut (s t : State) : Prop :=
  ∃ (c : Command) (tag : Byte) (pl : List Byte) (u : State), u.mode ≠ .init ∧ Untouched s u ∧ Untouched (carryOut c tag pl u) t

theorem CarriesOut.after {r s t : State} (h : CarriesOut s t) (before : Untouched r s) : CarriesOut r t := by
  obtain ⟨c, tag, pl, u, out, reached, left⟩ := h
  exact ⟨c, tag, pl, u, out, before.trans reached, left⟩

theorem CarriesOut.before {s t u : State} (h : CarriesOut s t) (after : Untouched t u) : CarriesOut s u := by
  obtain ⟨c, tag, pl, v, out, reached, left⟩ := h
  exact ⟨c, tag, pl, v, out, reached, left.trans after⟩

/-- R174: the decoder refuses a frame, or carries out its command. -/
theorem decodeFrame_cases (f : Frame) (s : State) : Untouched s (decodeFrame f s) ∨ CarriesOut s (decodeFrame f s) := by
  unfold decodeFrame decodeListed
  split
  · exact .inl (.of_eq rfl rfl rfl rfl)
  · next out =>
    repeat' split
    case h_2.isFalse.isFalse => exact .inr ⟨_, _, _, s, out, .refl s, setLink_untouched _ _⟩
    all_goals exact .inl (.of_eq rfl rfl rfl rfl)

theorem handGoodFrame_untouched (f : Frame) (s : State) : Untouched s (handGoodFrame f s) := by
  unfold handGoodFrame
  repeat' split
  all_goals exact .of_eq rfl rfl rfl rfl

theorem takeHead_cases (s : State) : Untouched s (takeHead s) ∨ CarriesOut s (takeHead s) := by
  unfold takeHead
  split
  · exact .inl (.refl s)
  · split
    · next f rest _ _ =>
      have alone := setLink_untouched { s.link with commands := [] } s
      have waiting : ∀ u, Untouched u (keepWaiting rest u) := fun u => setLink_untouched _ u
      exact (decodeFrame_cases f _).imp (fun h => (alone.trans h).trans (waiting _))
        fun h => (h.after alone).before (waiting _)
    · exact .inl (.refl s)

/-- R173: a frame that is offered waits, is answered by the decoder alone, or has its command carried out. -/
theorem offerFrame_cases (f : Frame) (s : State) : Untouched s (offerFrame f s) ∨ CarriesOut s (offerFrame f s) := by
  have handed := handGoodFrame_untouched f s
  unfold offerFrame
  repeat' split
  · exact .inl (.refl s)
  · exact (takeHead_cases _).imp handed.trans (CarriesOut.after · handed)
  · exact takeHead_cases s
  · exact .inl handed

/-- R171 to R173: a received character at most hands a frame to the command queue. -/
theorem receiveLinkChar_untouched (x : LinkSamples) (s : State) : Untouched s (receiveLinkChar x s) := by
  have framed : ∀ b u, Untouched u (frameByte b u) := by
    intro b u
    unfold frameByte completeFrame
    dsimp only
    repeat' split
    case isFalse.isTrue.isTrue => exact (setLink_untouched u.link.hunt u).trans (handGoodFrame_untouched _ _)
    all_goals exact setLink_untouched _ u
  have taken : ∀ d u, Untouched u (linkByte d u) := by
    intro d u
    unfold linkByte
    split
    · split
      · exact setLink_untouched _ u
      · exact .refl u
    · exact framed _ u
  unfold receiveLinkChar
  dsimp only
  split
  · exact (setLink_untouched { s.link with charInProgress := false } s).trans (taken _ _)
  · exact .of_eq rfl rfl rfl rfl

/-! ## The commands -/

/-- The commands that the allocation engine and mode control carry out on the ports and the lists. -/
def engineCommands : List Command := [.portConfigure, .portRequest, .portRelease, .portClear, .setEnvelope, .setMode]

/-- R174: no other command reaches them. -/
theorem carryOut_untouched {c : Command} (other : c ∉ engineCommands) (tag : Byte) (pl : List Byte) (s : State) :
    Untouched s (carryOut c tag pl s) := by
  cases c <;> simp only [carryOut]
  case portConfigure | portRequest | portRelease | portClear | setEnvelope | setMode => exact absurd (by decide) other
  case sourceConfigure =>
    unfold doSourceConfigure
    repeat' split
    case h_2.isFalse.isFalse => exact (configureSource_untouched _ pl s).trans (reply_untouched _ _ _ _ _)
    all_goals exact reply_untouched _ _ _ _ s
  case relaySend => exact relaySend_untouched tag pl s
  case relayCancel => exact relayCancel_untouched tag pl s
  case relayFetch | lineReset | linkSet | noticeConfig | noticeFetch | reset | measure | portQuery | profileRead
      | profileWrite | profileProtect =>
    simp only [doRelayFetch, fetchAny, fetchPort, fetchRecord, doLineReset, doLinkSet, doNoticeConfig, doNoticeFetch,
      doReset, doMeasure, doPortQuery, doProfileRead, doProfileWrite, writePayload, writeLive, doProfileProtect,
      protectSession, protectMap]
    repeat' split
    all_goals exact .of_eq rfl rfl rfl rfl
  all_goals exact .of_eq rfl rfl rfl rfl

end Sys2Proof.Machine
end

section
/-! Every step keeps retained power within the envelope (O54): each command is a handling of the engine, or a reset, or
leaves ports, lists and envelope as they are. -/

namespace Sys2Proof.Machine

/-- From a consistent table with retained power within the envelope, so it is afterwards. -/
def Respects (s t : State) : Prop := AllocationConsistent s → EnvelopeRespected s → EnvelopeRespected t

theorem Respects.refl (s : State) : Respects s s := fun _ => id

theorem Untouched.respected {s t : State} (h : Untouched s t) (respected : EnvelopeRespected s) : EnvelopeRespected t := by
  have retained := retained_of_ports h.ports (congrArg Engine.granted h.engine)
  refine respected.imp (fun within => ?_) fun left q listed => ?_
  · rw [retained, h.engine]
    exact within
  · rw [h.engine] at listed
    rw [h.alloc, essential_of_cfg (show t.cfg q = s.cfg q by rw [State.cfg, State.port, h.ports, State.cfg, State.port])]
    exact left q listed

theorem Untouched.respects {s t : State} (h : Untouched s t) : Respects s t := fun _ => h.respected

theorem Respects.after {r s t : State} (h : Respects s t) (before : Untouched r s) : Respects r t :=
  fun consistent respected => h (before.allocKept consistent) (before.respected respected)

theorem Respects.before {s t u : State} (h : Respects s t) (after : Untouched t u) : Respects s u :=
  fun consistent respected => after.respected (h consistent respected)

/-- A command that ends in a reply. -/
theorem Respects.replied {s t : State} (h : Respects s t) (c : Command) (tag : Byte) (r : Result) (fields : List Byte) :
    Respects s (reply c tag r fields t) := h.before (reply_untouched c tag r fields t)

theorem reply_respects (c : Command) (tag : Byte) (r : Result) (fields : List Byte) (s : State) :
    Respects s (reply c tag r fields s) := (Respects.refl s).replied c tag r fields

/-- A handling of the engine. -/
theorem handling_respects (s0 : State) {s t : State} (kept : Covered s → Covered t) : Respects s (finish s0 t) :=
  fun consistent respected => (kept ⟨((tableConsistent_iff s).1 consistent.1).1, respected⟩).finish s0

/-! ## Handlings of the engine -/

theorem takeEvent_respects (e : SelEvent) {f : State → State} (kept : ∀ {s}, Covered s → Covered (f s)) (s : State) :
    Respects s (takeEvent e f s) := by
  unfold takeEvent
  split
  · exact .refl s
  · split
    · next rest _ _ =>
      exact (handling_respects _ kept).after (.of_eq rfl rfl rfl rfl : Untouched s { s with selEvents := rest })
    · exact .refl s

theorem takeReport_respects (p : Port) (rest : List Report) {f : State → State} (kept : ∀ {s}, Covered s → Covered (f s))
    (s : State) : Respects s (takeReport p rest f s) :=
  (handling_respects _ kept).after (.of_eq rfl rfl rfl rfl : Untouched s (s.setReports p rest))

theorem takeRecord_respects (p : Port) (r : AccRecord) (s : State) : Respects s (takeRecord p r s) := by
  unfold takeRecord
  split
  · split
    · exact handling_respects s fun h => h.actOnRecord p r
    · exact .refl s
  · split
    · next rest _ _ =>
      exact (handling_respects _ fun h => h.actOnRecord p r).after
        (.of_eq rfl rfl rfl rfl : Untouched s (s.setRecords p rest))
    · split
      · exact Untouched.respects (.of_eq rfl rfl rfl rfl)
      · exact .refl s

theorem engineSample_respects (ch : SenseChannel) (s : State) : Respects s (engineSample ch s) := by
  unfold engineSample
  split
  · split
    · exact handling_respects s fun h => h.overdrawSample _ _
    · exact .refl s
  · split
    · exact handling_respects s fun h => h.table.recompute_covered
    · exact .refl s

theorem takeSample_respects (ch : SenseChannel) (selectorFirst : Bool) (s : State) :
    Respects s (takeSample ch selectorFirst s) := by
  have selector : ∀ u, Untouched u (selectorPart ch u) := fun u => (selectorPart_frame ch u).untouched
  unfold takeSample
  split
  · exact (engineSample_respects ch _).after (selector s)
  · exact (engineSample_respects ch s).before (selector _)

theorem execGraceExpiry_respects {p : Port} {s t : State} (h : execGraceExpiry p s = .next t) : Respects s t := by
  cases h
  split
  · next expired => exact handling_respects s fun h => h.dropTree (by rw [expired.1]; rfl) _
  · exact .refl s

theorem execRestoreHoldExpiry_respects {s t : State} (h : execRestoreHoldExpiry s = .next t) : Respects s t := by
  cases h
  split
  · exact handling_respects s fun h =>
      h.eased (h.table.mapEngine rfl rfl rfl rfl).opportunity (.of_ports (fun _ => rfl) rfl)
  · exact .refl s

/-! ## The commands of the host -/

theorem configureFor_respects (p : Port) (tag : Byte) (b : List Byte) (s : State) : Respects s (configureFor p tag b s) := by
  unfold configureFor
  dsimp only
  repeat' split
  case isFalse.isFalse.isFalse opens =>
    exact (handling_respects s fun h => h.table.configure_covered (by simpa using opens)).replied _ _ _ _
  all_goals exact reply_respects _ _ _ _ s

theorem requestFor_respects (p : Port) (tag : Byte) (asked : Nat) (s : State) : Respects s (requestFor p tag asked s) := by
  unfold requestFor replyRequest
  dsimp only
  repeat' split
  case isFalse.isFalse.isFalse => exact (handling_respects s fun h => h.acceptRequest p asked .link).replied _ _ _ _
  all_goals exact reply_respects _ _ _ _ s

theorem releaseFor_respects (p : Port) (tag : Byte) (s : State) : Respects s (releaseFor p tag s) := by
  unfold releaseFor
  repeat' split
  case isFalse.isFalse => exact (handling_respects s fun h => h.releaseIfHeld p).replied _ _ _ _
  all_goals exact reply_respects _ _ _ _ s

theorem clearFor_respects (p : Port) (tag : Byte) (s : State) : Respects s (clearFor p tag s) := by
  have cleared : Untouched s (clearFaults p s) := clearFaults_untouched p s
  unfold clearFor
  split
  · exact reply_respects _ _ _ _ s
  · exact ((handling_respects s fun h => h.clearFaulted p).after cleared).replied _ _ _ _

theorem setEnvelope_respects (tag : Byte) (pl : List Byte) (s : State) : Respects s (doSetEnvelope tag pl s) := by
  unfold doSetEnvelope
  split
  · exact reply_respects _ _ _ _ s
  · exact (handling_respects s fun h => h.setEnvelope pl).replied _ _ _ _

theorem setMode_respects (tag : Byte) (pl : List Byte) (s : State) : Respects s (doSetMode tag pl s) := by
  unfold doSetMode replyMode
  repeat' split
  case h_2.isFalse.isFalse => exact (handling_respects s fun h => h.changesMode _ _).replied _ _ _ _
  all_goals exact reply_respects _ _ _ _ s

theorem carryOut_respects (c : Command) (tag : Byte) (pl : List Byte) (s : State) : Respects s (carryOut c tag pl s) := by
  by_cases other : c ∉ engineCommands
  · exact (carryOut_untouched other tag pl s).respects
  · simp only [engineCommands, List.mem_cons, List.not_mem_nil, or_false, Classical.not_not] at other
    rcases other with rfl | rfl | rfl | rfl | rfl | rfl <;> simp only [carryOut]
    · unfold doPortConfigure
      split
      · exact reply_respects _ _ _ _ s
      · exact configureFor_respects _ tag _ s
    · unfold doPortRequest
      split
      · exact reply_respects _ _ _ _ s
      · exact requestFor_respects _ tag _ s
    · unfold doPortRelease
      split
      · exact reply_respects _ _ _ _ s
      · exact releaseFor_respects _ tag s
    · unfold doPortClear
      split
      · exact reply_respects _ _ _ _ s
      · exact clearFor_respects _ tag s
    · exact setEnvelope_respects tag pl s
    · exact setMode_respects tag pl s

theorem offerFrame_respects (f : Frame) (s : State) : Respects s (offerFrame f s) := by
  rcases offerFrame_cases f s with quiet | ⟨c, tag, pl, u, -, reached, left⟩
  · exact quiet.respects
  · exact ((carryOut_respects c tag pl u).after reached).before left

/-! ## Resets, the end of INIT and a microsecond -/

/-- R61, R88: after a reset the granted list is empty. -/
theorem respects_of_empty {s t : State} (empty : t.engine.granted = []) : Respects s t := fun _ _ =>
  .inr fun q mem => by
    rw [empty] at mem
    cases mem

theorem endInit_respects {s : State} (init : s.mode = .init) : Respects s (endInit s) := fun consistent _ => by
  obtain ⟨table, off⟩ := (tableConsistent_iff s).1 consistent.1
  have left := table.leaveInit_covered (off init)
  unfold endInit
  exact left.finish s

theorem execFrameEnd_respects {s t : State} (h : execFrameEnd s = .next t) : Respects s t := by
  cases h
  split
  · exact .refl s
  · split
    · exact respects_of_empty rfl
    · exact (setLink_untouched _ s).respects

/-- A row that writes the link's record, or nothing. -/
theorem setLink_respects_of_cond (b : Prop) [Decidable b] (l : Link) (s : State) :
    Respects s (if b then s.setLink l else s) ∧ Respects s (if b then s else s.setLink l) := by
  split
  · exact ⟨(setLink_untouched l s).respects, .refl s⟩
  · exact ⟨.refl s, (setLink_untouched l s).respects⟩

/-- R93, R101: a microsecond moves timers alone. -/
theorem tick_respects (s : State) : Respects s (tick s) := by
  cases running : s.resetHeld with
  | true =>
    rw [tick, if_pos running]
    exact .refl s
  | false =>
    intro consistent respected
    obtain ⟨table, -⟩ := (tableConsistent_iff s).1 consistent.1
    obtain ⟨ticked, -⟩ := (tableConsistent_iff _).1 (tick_allocKept s consistent).1
    obtain ⟨port, -, engine, -⟩ := tick_parts running
    have alloc : ∀ q, (tick s).alloc q = s.alloc q := fun q => by rw [State.alloc, port]; rfl
    refine Eases.respected ⟨by rw [engine]; rfl, fun {q} stays => ⟨?_, ?_, ?_⟩⟩ table ticked respected
    · rw [Stays, alloc] at stays
      exact stays
    · rw [port]; exact le_rfl
    · rw [State.cfg, port]; rfl

/-! ## The commands one by one -/

/-- R96: every command keeps retained power within the envelope. -/
theorem exec_respects {i : Instr} {s t : State} (h : exec i s = .next t) : Respects s t := by
  cases i with
  | por => cases h; exact respects_of_empty rfl
  | pinReset => cases h; exact respects_of_empty rfl
  | loadingComplete =>
    cases h
    split
    · next loads => exact endInit_respects loads.1
    · exact .refl s
  | lockChange low => cases h; exact Untouched.respects (.of_eq rfl rfl rfl rfl)
  | resetRelease => cases h; exact Untouched.respects (.of_eq rfl rfl rfl rfl)
  | sampleCompletion ch code selectorFirst =>
    cases h
    split
    · exact .refl s
    · exact (takeSample_respects ch selectorFirst _).after (completeSample_untouched ch code _ s)
  | conversionStart ch =>
    cases h
    split
    · exact Untouched.respects (.of_eq rfl rfl rfl rfl)
    · exact .refl s
  | qualifyExpiry x =>
    cases h
    split
    · exact (changeSource_frame x _ s).untouched.respects
    · exact .refl s
  | comparatorAsserts x => cases h; exact (setComparator_untouched x true _ .over s).respects
  | comparatorReleases x => cases h; exact (setComparator_untouched x false _ .qualifying s).respects
  | changeoverEnd => exact (execChangeoverEnd_untouched h).respects
  | changeoverBeginEvent => cases h; exact takeEvent_respects _ Covered.beginHold s
  | changeoverEndEvent => cases h; exact takeEvent_respects _ (fun h => h.table.endHold_covered) s
  | noSourceEvent => cases h; exact takeEvent_respects _ (fun h => h.table.noSource_covered) s
  | graceExpiry p => exact execGraceExpiry_respects h
  | restoreHoldExpiry => exact execRestoreHoldExpiry_respects h
  | powerGood p => exact ((execPowerGood_frame h).untouched (execPowerGood_keepsOpened h)).respects
  | startTimeout p => exact ((execStartTimeout_frame h).untouched (execStartTimeout_keepsOpened h)).respects
  | hardTrip p => exact ((execHardTrip_frame h).untouched (execHardTrip_keepsOpened h)).respects
  | tripComparatorAsserts p =>
    cases h
    exact ((setSwitch_frame p _ s).untouched (setSwitch_keepsOpened p _ s fun opened => opened)).respects
  | tripComparatorReleases p =>
    exact ((execTripComparatorReleases_frame h).untouched (execTripComparatorReleases_keepsOpened h)).respects
  | filteredTrip p => exact ((execFilteredTrip_frame h).untouched (execFilteredTrip_keepsOpened h)).respects
  | coolingExpiry p => exact ((execCoolingExpiry_frame h).untouched (execCoolingExpiry_keepsOpened h)).respects
  | recloseTimeout p => exact ((execRecloseTimeout_frame h).untouched (execRecloseTimeout_keepsOpened h)).respects
  | cleanRun p => exact ((execCleanRun_frame h).untouched (execCleanRun_keepsOpened h)).respects
  | startComplete p =>
    cases h
    split
    · exact takeReport_respects p _ (fun h => h.takeStartComplete p) s
    all_goals exact .refl s
  | startFail p =>
    cases h
    split
    · exact takeReport_respects p _ (fun h => h.takeStartFail p) s
    all_goals exact .refl s
  | trip p =>
    cases h
    split
    · exact takeReport_respects p _ (fun h => h.takeTrip p _) s
    all_goals exact .refl s
  | retryLimit p =>
    cases h
    split
    · exact takeReport_respects p _ (fun h => h.takeOpened p) s
    all_goals exact .refl s
  | announce p typeCode power identity => cases h; exact takeRecord_respects p _ s
  | request p power => cases h; exact takeRecord_respects p _ s
  | characterReceived p x =>
    cases h
    split
    · exact (receiveChar_untouched p x s).respects
    · exact .refl s
  | lineValidStart p => exact (execLineValidStart_frame h).untouched.respects
  | lineGapExpiry p => exact (execLineGapExpiry_frame h).untouched.respects
  | lineBreak p => exact (execLineBreak_frame h).untouched.respects
  | pendingRateInForce p => exact (execPendingRateInForce_frame h).untouched.respects
  | breakEnd p => exact (execBreakEnd_frame h).untouched.respects
  | recordStart p => exact (execRecordStart_frame h).untouched.respects
  | recordSent p => exact (execRecordSent_frame h).untouched.respects
  | collision p => exact (execCollision_frame h).untouched.respects
  | backoffStart p => exact (execBackoffStart_frame h).untouched.respects
  | backoffExpiry p => exact (execBackoffExpiry_frame h).untouched.respects
  | channelWaitExpiry c => exact (execChannelWaitExpiry_frame h).untouched.respects
  | writeComplete =>
    cases h
    repeat' split
    all_goals exact Untouched.respects (.of_eq rfl rfl rfl rfl)
  | protectionWriteComplete =>
    cases h
    repeat' split
    all_goals exact Untouched.respects (.of_eq rfl rfl rfl rfl)
  | linkCharacterReceived x =>
    cases h
    split
    · exact (receiveLinkChar_untouched x s).respects
    · exact .refl s
  | linkValidStart => cases h; exact (setLink_respects_of_cond _ _ s).2
  | linkGapExpiry => cases h; exact (setLink_respects_of_cond _ _ s).1
  | linkBreak => cases h; exact (setLink_respects_of_cond _ _ s).1
  | frameBegin => cases h; exact (setLink_respects_of_cond _ _ s).2
  | receiverRateChange => cases h; exact (setLink_respects_of_cond _ _ s).2
  | frameEnd => exact execFrameEnd_respects h
  | _ => cases h; exact offerFrame_respects _ s

end Sys2Proof.Machine

open Sys2Proof Sys2Proof.Machine

/-- Settles O54: a step is a microsecond or a command. -/
theorem stepKeepsEnvelopeRespected : Obligations.StepKeepsEnvelopeRespected := by
  intro s t consistent respected stepped
  unfold step at stepped
  split at stepped
  · cases stepped
    exact tick_respects s consistent respected
  · next i rest _ =>
    have taken : Untouched s { s with pending := rest } := .of_eq rfl rfl rfl rfl
    exact ((exec_respects stepped).after taken) consistent respected

end

section
/-! The no-source event (R103): the whole granted list leaves in one step, and the pass that follows finds no power. The
statement O20. -/

namespace Sys2Proof.Machine

/-! ## A pass that changes nothing -/

/-- R74: the end of a handling whose pass admits and sheds nothing. -/
theorem finish_of_quiet_pass (s0 : State) {s : State}
    (quiet : runOpportunity s = s.mapEngine fun e => { e with opportunity := false }) :
    (∀ q, (finish s0 s).port q = s.port q ∧ (finish s0 s).switch q = s.switch q) ∧
      (finish s0 s).engine =
        { s.engine with opportunity := false, overcommit := (finish s0 s).engine.overcommit } := by
  obtain ⟨ports, switches, -⟩ := finish_ports s0 s
  have engine := finish_engine s0 s
  rw [quiet] at ports switches engine
  exact ⟨fun q => ⟨congrArg (tget · q) ports, congrArg (tget · q) switches⟩, engine⟩

/-- R77: with an empty granted list there is no victim. -/
theorem bump_of_empty {cand : Port} {s : State} (empty : s.engine.granted = []) : bump cand s = s := by
  have none : s.bumpPool cand = [] := by rw [State.bumpPool, empty]; rfl
  unfold bump
  split
  · rfl
  · split
    · exact takeVictims_idle (.inr none) 8
    · rfl

/-- R75, R102, R103: nothing is admitted while the envelope is 0, since no request of the queue is. -/
theorem Table.passWalk_without_power {s : State} (h : Table s) (empty : s.engine.granted = [])
    (zero : s.engine.envelope = 0) : Machine.admissionPass s = s := by
  refine Table.passWalk_keeps (I := fun u => u = s) (fun {x u} table queued _ _ fits same => ?_)
    (fun _ same => by subst same; exact bump_of_empty empty) _ h h.queueNodup (fun _ => id) rfl
  subst same
  have asked := table.requests (table.queued_of_mem queued)
  have needs : (u.port x).request ≤ u.need x := Nat.le_add_right _ _
  have room : u.committed + u.need x ≤ u.engine.envelope := by simpa [State.fits] using fits
  omega

theorem Table.runOpportunity_without_power {s : State} (h : Table s) (empty : s.engine.granted = [])
    (zero : s.engine.envelope = 0) :
    Machine.runOpportunity s = s.mapEngine fun e => { e with opportunity := false } := by
  cases arisen : s.engine.opportunity with
  | false => exact runOpportunity_idle s (.inr (.inr arisen))
  | true =>
    rw [Machine.runOpportunity, if_pos arisen, h.passWalk_without_power empty zero, ite_self]

/-! ## The whole granted list leaves (R90, R103) -/

theorem dropAll_eq (why : ShedReason) (s : State) :
    dropAll why s = requeue s.engine.granted (forEach s.engine.granted.reverse (dropToShed why) s) := rfl

theorem requeue_port (order : List Port) (q : Port) (s : State) : (requeue order s).port q = s.port q := by
  rw [requeue_eq, State.mapEngine_port]

theorem requeue_switch (order : List Port) (q : Port) (s : State) : (requeue order s).switch q = s.switch q := by
  rw [requeue_eq]
  rfl

/-- R90: each port of the granted list takes the record of a port that enters SHED. -/
theorem dropAll_port {s : State} (why : ShedReason) (nodup : s.engine.granted.Nodup) {p : Port}
    (listed : p ∈ s.engine.granted) : (dropAll why s).port p = shedRecord why (s.port p) := by
  have own := forEach_own (V := fun u => u.port p) (f := dropToShed why) (p := p)
    (fun y u ne => by rw [dropToShed_port, if_neg ne.symm])
    (fun u v same => by rw [dropToShed_port, dropToShed_port, if_pos rfl, if_pos rfl, same])
    (List.nodup_reverse.2 nodup) (List.mem_reverse.2 listed) s
  rw [dropAll_eq, requeue_port, own, dropToShed_port, if_pos rfl]
  rfl

theorem dropAll_other {s : State} (why : ShedReason) {p : Port} (out : p ∉ s.engine.granted) :
    (dropAll why s).port p = s.port p ∧ (dropAll why s).switch p = s.switch p := by
  rw [dropAll_eq, requeue_port, requeue_switch]
  refine forEach_keeps_of_mem (I := fun u => u.port p = s.port p ∧ u.switch p = s.switch p) (fun y mem u hu => ?_) ⟨rfl, rfl⟩
  have ne : p ≠ y := fun e => out (e ▸ List.mem_reverse.1 mem)
  rw [dropToShed_port, if_neg ne, dropToShed_switch_ne why u ne]
  exact hu

/-- R64, R66: held and the numbers of the engine stay. -/
theorem dropAll_engine (why : ShedReason) (s : State) :
    (dropAll why s).engine.held = s.engine.held ∧ (dropAll why s).engine.numbers = s.engine.numbers := by
  rw [dropAll_eq, requeue_eq]
  refine forEach_keeps (I := fun u => u.engine.held = s.engine.held ∧ u.engine.numbers = s.engine.numbers)
    (fun y u hu => ?_) _ ⟨rfl, rfl⟩
  rw [dropToShed_engine]
  exact hu

/-! ## The event (R103) -/

section Event

variable {s : State}

/-- R103: the granted list as the no-source event leaves it. -/
theorem noSource_port (nodup : s.engine.granted.Nodup) {p : Port} (listed : p ∈ s.engine.granted) :
    (noSource s).port p = shedRecord .noSource (s.port p) :=
  dropAll_port (s := s.mapEngine fun e => { e with held := false, envelope := 0 }) .noSource nodup listed

theorem noSource_other {p : Port} (out : p ∉ s.engine.granted) :
    (noSource s).port p = s.port p ∧ (noSource s).switch p = s.switch p :=
  dropAll_other (s := s.mapEngine fun e => { e with held := false, envelope := 0 }) .noSource out

/-- R101, R103: held is no, the envelope is 0, and the restore hold runs from its full time. -/
theorem noSource_engine (s : State) :
    (noSource s).engine.held = false ∧ (noSource s).engine.envelope = 0 ∧
      (noSource s).engine.restoreHold = some (s.engine.restoreHoldTime * 1000) := by
  obtain ⟨held, numbers⟩ := dropAll_engine .noSource (s.mapEngine fun e => { e with held := false, envelope := 0 })
  have envelope := congrArg Prod.fst numbers
  have time := congrArg (fun n => n.2.2.2) numbers
  rw [noSource_eq]
  exact ⟨held, envelope, congrArg (fun n => some (n * 1000)) time⟩

theorem Table.noSource_granted (h : Table s) : (Machine.noSource s).engine.granted = [] :=
  h.noSource_noneGranted.list h.noSource

theorem exec_noSourceEvent {rest : List SelEvent} (head : s.selEvents = .noSource :: rest) (out : s.mode ≠ .init)
    (running : s.resetHeld = false) :
    exec .noSourceEvent s = .next (finish { s with selEvents := rest } (noSource { s with selEvents := rest })) :=
  congrArg Host.Outcome.next (takeEvent_of_head noSource head out running)

end Event

/-- R90, R102: a port that has entered SHED in this way has its place in the queue, but for a request of 0 mW. -/
theorem shedRecord_queued (why : ShedReason) (r : PortRec) :
    (shedRecord why r).alloc.queued = true ↔ r.request ≠ 0 := by
  unfold shedRecord
  split
  · next none => exact iff_of_false nofun (not_not_intro none)
  · next asked => exact iff_of_true rfl asked

end Sys2Proof.Machine

open Sys2Proof Sys2Proof.Machine

/-- Settles O20: the pass changes nothing, so the handling leaves what the drop of the granted list leaves; lists and
switches follow from the table. -/
theorem noSourceShedsEveryGrantedPort : Obligations.NoSourceShedsEveryGrantedPort := by
  intro rest s consistent out running head
  have effect := exec_noSourceEvent head out running
  obtain ⟨table, -⟩ := (tableConsistent_iff s).1 consistent.1
  obtain ⟨ends, -⟩ := (tableConsistent_iff _).1 (exec_allocKept effect consistent).1
  have stored : Table { s with selEvents := rest } := table.of_eq rfl rfl rfl rfl rfl fun _ => id
  generalize hs : ({ s with selEvents := rest } : State) = s0 at effect ends stored
  have port : ∀ q, s0.port q = s.port q := fun q => by rw [← hs]; rfl
  have switch : ∀ q, s0.switch q = s.switch q := fun q => by rw [← hs]; rfl
  have listed : s0.engine.granted = s.engine.granted := by rw [← hs]
  have time : s0.engine.restoreHoldTime = s.engine.restoreHoldTime := by rw [← hs]
  obtain ⟨held, envelope, hold⟩ := noSource_engine s0
  have granted := stored.noSource_granted
  obtain ⟨kept, engine⟩ :=
    finish_of_quiet_pass s0 (stored.noSource.runOpportunity_without_power granted envelope)
  have frame := (noSource_frame s0).toHandlingFrame.trans (finish_frame s0 (noSource s0)).toHandlingFrame
  have empty : (finish s0 (noSource s0)).engine.granted = [] := by rw [engine]; exact granted
  refine ⟨_, effect, ?_, ?_, ?_, empty, ?_, ?_, fun p mem => ?_, fun p notIn => ?_⟩
  · rw [frame.selEvents, ← hs]
  · rw [engine]; exact held
  · rw [engine]; exact envelope
  · rw [finish_overcommit, State.retained, empty]
    exact decide_eq_false (Nat.not_lt_zero _)
  · rw [engine]; exact hold.trans (by rw [time])
  · have record : (finish s0 (noSource s0)).port p = shedRecord .noSource (s.port p) := by
      rw [(kept p).1, noSource_port stored.grantedNodup (listed ▸ mem), port]
    refine ⟨record, ?_, ?_⟩
    · refine ((ends.power p).resolve_left fun stays => ?_).1
      rw [State.alloc, record, shedRecord_out] at stays
      cases stays
    · rw [ends.mem_queue, State.alloc, record, shedRecord_queued]
  · obtain ⟨record, own⟩ := noSource_other (s := s0) (listed ▸ notIn)
    rw [(kept p).1, (kept p).2, record, own, port, switch]
    exact ⟨rfl, rfl⟩

end

section
/-! The shed order by the state of its port (R91), and what it makes of the children (R105, R106): each child is reached
through its parent alone, and once. -/

namespace Sys2Proof.Machine

/-! ## The cases of a shed order (R91) -/

/-- R90, R91: a shed order takes the port out of the granted list at once. -/
def LeavesAtOnce (r : PortRec) : Prop :=
  r.alloc = .starting ∨ r.alloc = .held ∨ (r.alloc = .on ∧ r.config.shedGrace = 0)

/-- R91: a shed order starts a grace. -/
def TakesGrace (r : PortRec) : Prop := r.alloc = .on ∧ r.config.shedGrace ≠ 0

theorem granted_cases {r : PortRec} (h : r.alloc.granted = true) : LeavesAtOnce r ∨ TakesGrace r ∨ r.alloc = .shedding := by
  rcases AllocState.granted_iff.1 h with e | e | e | e
  · exact .inl (.inl e)
  · exact .inl (.inr (.inl e))
  · by_cases none : r.config.shedGrace = 0
    · exact .inl (.inr (.inr ⟨e, none⟩))
    · exact .inr (.inl ⟨e, none⟩)
  · exact .inr (.inr e)

theorem LeavesAtOnce.granted {r : PortRec} (h : LeavesAtOnce r) : r.alloc.granted = true := by
  rcases h with e | e | ⟨e, -⟩ <;> rw [e] <;> rfl

section Cases

variable {why : ShedReason} {p : Port} {s : State}

theorem shedOrder_of_leaves (h : LeavesAtOnce (s.port p)) (n : Nat) : shedOrder (n + 1) why p s = dropTree why p s := by
  unfold shedOrder
  rcases h with e | e | ⟨e, none⟩
  · rw [State.alloc, e]
  · rw [State.alloc, e]
  · rw [State.alloc, e]
    exact if_pos none

theorem shedOrder_of_grace (h : TakesGrace (s.port p)) (n : Nat) :
    shedOrder (n + 1) why p s = forEach (s.childrenOf p) (shedOrder n .dependency) (startGrace why p s) := by
  rw [shedOrder, State.alloc, h.1]
  exact if_neg h.2

theorem shedOrder_of_shedding (h : s.alloc p = .shedding) (n : Nat) :
    shedOrder (n + 1) why p s = if why = .mode then s.mapPort p (fun r => { r with reason := some .mode }) else s := by
  rw [shedOrder, h]

theorem shedOrderRecord_of_leaves {r : PortRec} (h : LeavesAtOnce r) : shedOrderRecord why r = shedRecord why r := by
  unfold shedOrderRecord
  rcases h with e | e | ⟨e, none⟩
  · rw [e]
  · rw [e]
  · rw [e]
    exact if_pos none

theorem shedOrderRecord_of_grace {r : PortRec} (h : TakesGrace r) :
    shedOrderRecord why r =
      { r with alloc := .shedding, reason := some why, grace := some (r.config.shedGrace * 1000) } := by
  rw [shedOrderRecord, h.1]
  exact if_neg h.2

theorem shedOrderRecord_of_shedding {r : PortRec} (h : r.alloc = .shedding) :
    shedOrderRecord why r = if why = .mode then { r with reason := some .mode } else r := by
  rw [shedOrderRecord, h]

theorem shedOrderRecord_of_out {r : PortRec} (h : r.alloc.granted = false) : shedOrderRecord why r = r := by
  unfold shedOrderRecord
  split
  case h_5 | h_6 | h_7 | h_8 => rfl
  all_goals next e => rw [e] at h; cases h

/-- R91: the port is in SHEDDING after the order, or out of the granted list. -/
theorem shedOrderRecord_alloc {r : PortRec} (h : r.alloc.granted = true) :
    ((shedOrderRecord why r).alloc = .shedding ∧ (TakesGrace r ∨ r.alloc = .shedding)) ∨
      ((shedOrderRecord why r).alloc.granted = false ∧ LeavesAtOnce r) := by
  rcases granted_cases h with leaves | grace | shedding
  · rw [shedOrderRecord_of_leaves leaves]
    exact .inr ⟨shedRecord_out why r, leaves⟩
  · rw [shedOrderRecord_of_grace grace]
    exact .inl ⟨rfl, .inl grace⟩
  · rw [shedOrderRecord_of_shedding shedding]
    refine .inl ⟨?_, .inr shedding⟩
    split <;> exact shedding

end Cases

/-! ## What a shed order does not reach (R105, R106) -/

/-- The ports that hang on `p` are closed under children. -/
theorem under_closed {s : State} (acyclic : Acyclic s.parentOf) (p : Port) : ClosedUnder (Under s.parentOf p) s :=
  fun _ _ _ up under => acyclic.under_of_parent up under

theorem outsideAs_under {s : State} (acyclic : Acyclic s.parentOf) (p : Port) : OutsideAs (Under s.parentOf p) s s :=
  ⟨under_closed acyclic p, fun _ _ => ⟨rfl, rfl⟩⟩

/-- R105: a shed order leaves alone what does not hang on its port. -/
theorem shedOrder_outside {p x : Port} {s : State} (acyclic : Acyclic s.parentOf) (out : ¬Under s.parentOf p x) (n : Nat)
    (why : ShedReason) :
    (shedOrder n why p s).port x = s.port x ∧ (shedOrder n why p s).switch x = s.switch x :=
  ((outsideAs_stable p why _ s).shedOrder n (outsideAs_under acyclic p) (.inl rfl) (.inl ⟨rfl, rfl⟩)).2 x out

/-- R106: so does a port that leaves with its dependants. -/
theorem dropChildren_outside {p x : Port} {s : State} (acyclic : Acyclic s.parentOf) (out : ¬Under s.parentOf p x) (n : Nat)
    (why : ShedReason) (granted : (s.alloc p).granted = true) :
    (dropChildren n p (dropToShed why p s)).port x = s.port x := by
  have stable := outsideAs_stable p why (Under s.parentOf p) s
  have dropped := stable.drop (outsideAs_under acyclic p) (.inl rfl) granted (.inl ⟨rfl, rfl⟩)
  exact ((stable.dropChildren n dropped (.inl rfl) (dropToShed_not_on why p s)).2 x out).1

/-- R107: no child of a port hangs on another. -/
theorem not_under_sibling {parent : Port → Option Port} {p q c : Port} (acyclic : Acyclic parent)
    (own : parent q = some p) (sibling : parent c = some p) (ne : q ≠ c) : ¬Under parent c q := by
  obtain ⟨rank, ranks, -⟩ := acyclic.exists_rank
  have below := ranks sibling
  rintro (e | leads)
  · exact ne e
  · obtain ⟨r, up, h⟩ := leadsTo_succ.1 leads
    rw [own] at up
    cases up
    rcases h with rfl | above
    · exact below.false
    · exact below.asymm (ranks.lt_of_leadsTo above)

/-- No port hangs on its child. -/
theorem not_under_child {parent : Port → Option Port} {p c : Port} (acyclic : Acyclic parent) (child : parent c = some p) :
    ¬Under parent c p := by
  obtain ⟨rank, ranks, -⟩ := acyclic.exists_rank
  have below := ranks child
  rintro (rfl | leads)
  · exact below.false
  · exact below.asymm (ranks.lt_of_leadsTo leads)

/-! ## The turn of one child -/

/-- Where the turns of the others leave what a loop's view shows, the view ends as its own turn leaves it. -/
theorem forEach_own_within {α : Type} {I : State → Prop} {V : State → α} {f : Port → State → State} {p : Port}
    {l : List Port} (keeps : ∀ y ∈ l, ∀ u, I u → I (f y u)) (other : ∀ y ∈ l, ∀ u, p ≠ y → I u → V (f y u) = V u)
    (nodup : l.Nodup) (mem : p ∈ l) : ∀ {s : State}, I s → ∃ u, I u ∧ V u = V s ∧ V (forEach l f s) = V (f p u) := by
  induction l with
  | nil => cases mem
  | cons y l ih =>
    intro s hs
    obtain ⟨out, nodup⟩ := List.nodup_cons.1 nodup
    have later : ∀ x ∈ l, x ∈ y :: l := fun x mem => List.mem_cons_of_mem y mem
    by_cases e : p = y
    · subst e
      refine ⟨s, hs, rfl, ?_⟩
      refine (forEach_keeps_of_mem (I := fun u => I u ∧ V u = V (f p s)) (fun x mem u hu => ?_)
        ⟨keeps p List.mem_cons_self s hs, rfl⟩).2
      exact ⟨keeps x (later x mem) u hu.1, (other x (later x mem) u (fun e => out (e ▸ mem)) hu.1).trans hu.2⟩
    · obtain ⟨u, hu, same, ends⟩ := ih (fun x mem => keeps x (later x mem)) (fun x mem => other x (later x mem)) nodup
        ((List.mem_cons.1 mem).resolve_left e) (keeps y List.mem_cons_self s hs)
      exact ⟨u, hu, same.trans (other y List.mem_cons_self s e hs), ends⟩

/-- The state still has the configurations of `s`. -/
def SameCfg (s u : State) : Prop := ∀ x, u.cfg x = s.cfg x

theorem SameCfg.acyclic {s u : State} (h : SameCfg s u) (acyclic : Acyclic s.parentOf) : Acyclic u.parentOf := by
  rw [parentOf_of_cfg h]
  exact acyclic

theorem SameCfg.after {s u v : State} (h : SameCfg s u) (k : ShedFrame u v) : SameCfg s v := fun x =>
  (k.config x).trans (h x)

/-! ## The port itself -/

/-- R90: a port that leaves with its dependants has its record and its switch from the drop. -/
theorem dropChildren_stands (why : ShedReason) (n : Nat) (p : Port) (s : State) :
    ∃ w, w.state = .opened ∧ StandsAs p (shedRecord why (s.port p)) w (dropChildren n p (dropToShed why p s)) :=
  ⟨_, dropToShed_opens why p s,
    (standsAs_stable p _ (shedRecord_out why (s.port p))).dropChildren n p
      ⟨by rw [dropToShed_port, if_pos rfl]; rfl, rfl⟩⟩

theorem dropChildren_port (why : ShedReason) (n : Nat) (p : Port) (s : State) :
    (dropChildren n p (dropToShed why p s)).port p = shedRecord why (s.port p) := by
  obtain ⟨w, -, stands⟩ := dropChildren_stands why n p s
  exact stands.1

/-- R91: the record of a port after a shed order on it. -/
theorem shedOrder_port {s : State} (acyclic : Acyclic s.parentOf) (n : Nat) (why : ShedReason) (p : Port) :
    (shedOrder (n + 1) why p s).port p = shedOrderRecord why (s.port p) := by
  cases granted : (s.alloc p).granted with
  | false => rw [shedOrder_of_out granted, shedOrderRecord_of_out granted]
  | true =>
    rcases granted_cases granted with leaves | grace | shedding
    · rw [shedOrder_of_leaves leaves, shedOrderRecord_of_leaves leaves]
      exact dropChildren_port why 8 p s
    · rw [shedOrder_of_grace grace, shedOrderRecord_of_grace grace]
      refine (forEach_keeps_of_mem (I := fun u => SameCfg s u ∧ u.port p = (startGrace why p s).port p)
        (fun c mem u hu => ?_) ⟨fun x => startGrace_cfg why p x s, rfl⟩).2.trans (by rw [startGrace_port, if_pos rfl])
      obtain ⟨cfg, port⟩ := hu
      refine ⟨cfg.after (shedOrder_frame n .dependency c u), ?_⟩
      refine (shedOrder_outside (cfg.acyclic acyclic) (not_under_child (cfg.acyclic acyclic) ?_) n _).1.trans port
      rw [parentOf_of_cfg cfg]
      exact (mem_childrenOf.1 mem).2
    · rw [shedOrder_of_shedding shedding, shedOrderRecord_of_shedding shedding]
      split
      · exact State.mapPort_port_self s p _
      · rfl

/-! ## Its children -/

theorem childrenOf_nodup {s : State} (nodup : s.engine.granted.Nodup) (p : Port) : (s.childrenOf p).Nodup := nodup.filter _

/-- R105: a child of a port that takes its grace is shed with reason DEPENDENCY by its own state. -/
theorem shedOrder_graced_child {why : ShedReason} {p q : Port} {s : State} (acyclic : Acyclic s.parentOf)
    (nodup : s.engine.granted.Nodup) (grace : TakesGrace (s.port p)) (listed : q ∈ s.engine.granted)
    (child : s.parentOf q = some p) (n : Nat) :
    (shedOrder (n + 2) why p s).port q = shedOrderRecord .dependency (s.port q) := by
  have ne : q ≠ p := fun e => not_under_child acyclic child (.inl e.symm)
  obtain ⟨u, cfg, same, ends⟩ := forEach_own_within (I := SameCfg s) (V := fun u => u.port q) (p := q)
    (f := shedOrder (n + 1) .dependency) (l := s.childrenOf p) (s := startGrace why p s)
    (fun c _ u cfg => cfg.after (shedOrder_frame _ .dependency c u))
    (fun c mem u other cfg => (shedOrder_outside (cfg.acyclic acyclic) (by
      rw [parentOf_of_cfg cfg]
      exact not_under_sibling acyclic child (mem_childrenOf.1 mem).2 other) _ _).1)
    (childrenOf_nodup nodup p) (mem_childrenOf.2 ⟨listed, child⟩) (fun x => startGrace_cfg why p x s)
  rw [startGrace_port, if_neg ne] at same
  rw [shedOrder_of_grace grace, ends, shedOrder_port (cfg.acyclic acyclic), same]

/-- R106: a child of a port that leaves enters SHED, with its own reason where it is in SHEDDING. -/
theorem dropTree_child {why : ShedReason} {p q : Port} {s : State} (acyclic : Acyclic s.parentOf)
    (nodup : s.engine.granted.Nodup) (listed : q ∈ s.engine.granted) (granted : (s.alloc q).granted = true)
    (child : s.parentOf q = some p) :
    (dropTree why p s).port q = shedRecord (childReason (s.port q)) (s.port q) := by
  have ne : q ≠ p := fun e => not_under_child acyclic child (.inl e.symm)
  have parents : SameCfg s (dropToShed why p s) := fun x => dropToShed_cfg why p x s
  have lists := dropToShed_granted why p s
  have turn (c : Port) (u : State) : ShedFrame u
      (if (u.alloc c).granted then dropChildren 7 c (dropToShed (childReason (u.port c)) c u) else u) := by
    split
    · exact (dropToShed_frame _ c u).trans (dropChildren_frame 7 c _)
    · exact .refl u
  obtain ⟨u, -, same, ends⟩ := forEach_own_within (I := SameCfg s) (V := fun u => u.port q) (p := q)
    (f := fun c u => if (u.alloc c).granted then dropChildren 7 c (dropToShed (childReason (u.port c)) c u) else u)
    (l := (dropToShed why p s).childrenOf p) (s := dropToShed why p s)
    (fun c _ u cfg => cfg.after (turn c u))
    (fun c mem u other cfg => by
      split
      · next leaves =>
        refine dropChildren_outside (cfg.acyclic acyclic) ?_ 7 _ leaves
        have sibling := (mem_childrenOf.1 mem).2
        rw [parentOf_of_cfg parents] at sibling
        rw [parentOf_of_cfg cfg]
        exact not_under_sibling acyclic child sibling other
      · rfl)
    (childrenOf_nodup (by rw [lists]; exact without_nodup p nodup) p)
    (mem_childrenOf.2 ⟨by rw [lists]; exact mem_without.2 ⟨listed, ne⟩, by rw [parentOf_of_cfg parents]; exact child⟩) parents
  rw [dropToShed_port, if_neg ne] at same
  refine ends.trans ?_
  rw [if_pos (by rw [State.alloc, same]; exact granted), dropChildren_port, same]

end Sys2Proof.Machine
end

section
/-! The shed order as one step (R90, R91, R105, R106), the end of a grace (R93) and of the restore hold (R101): the
statement O21. -/

namespace Sys2Proof.Machine

/-! ## The shed order as one step -/

theorem shed_port_eq (why : ShedReason) (p q : Port) (s : State) :
    (shed why p s).port q = (shedOrder 8 why p s).port q := requeue_port _ q _

theorem shed_switch_eq (why : ShedReason) (p q : Port) (s : State) :
    (shed why p s).switch q = (shedOrder 8 why p s).switch q := requeue_switch _ q _

/-- R91, R101: a shed order neither starts nor stops the restore hold. -/
theorem restoreHold_stable (root : Port) (why : ShedReason) (k : Option Nat) :
    StepStable root why (fun _ => True) (fun s => s.engine.restoreHold = k) where
  child _ _ _ _ := trivial
  drop h _ _ _ := by rw [dropToShed_engine]; exact h
  grace h _ _ _ _ := h
  modeReason h _ _ _ := h

theorem shed_restoreHold (why : ShedReason) (p : Port) (s : State) :
    (shed why p s).engine.restoreHold = s.engine.restoreHold :=
  (restoreHold_stable p why s.engine.restoreHold).shed id rfl

theorem shed_envelope (why : ShedReason) (p : Port) (s : State) :
    (shed why p s).engine.envelope = s.engine.envelope :=
  congrArg Prod.fst ((numbers_stable s.engine.numbers).shed why p (s := s) rfl)

section Order

variable {s : State}

/-- R105: what does not hang on the port is left alone. -/
theorem shed_outside {p q : Port} (acyclic : Acyclic s.parentOf) (out : ¬Under s.parentOf p q) (why : ShedReason) :
    (shed why p s).port q = s.port q ∧ (shed why p s).switch q = s.switch q := by
  rw [shed_port_eq, shed_switch_eq]
  exact shedOrder_outside acyclic out 8 why

/-- R91: the record of the port. -/
theorem shed_port (acyclic : Acyclic s.parentOf) (why : ShedReason) (p : Port) :
    (shed why p s).port p = shedOrderRecord why (s.port p) := by
  rw [shed_port_eq, shedOrder_port acyclic]

/-- R105: the record of a child of a port that takes its grace. -/
theorem shed_graced_child {why : ShedReason} {p q : Port} (acyclic : Acyclic s.parentOf) (nodup : s.engine.granted.Nodup)
    (grace : TakesGrace (s.port p)) (listed : q ∈ s.engine.granted) (child : s.parentOf q = some p) :
    (shed why p s).port q = shedOrderRecord .dependency (s.port q) := by
  rw [shed_port_eq, shedOrder_graced_child acyclic nodup grace listed child 6]

/-- R106: the record of a child of a port that leaves. -/
theorem Table.shed_leaving_child {why : ShedReason} {p q : Port} (h : Table s) (leaves : LeavesAtOnce (s.port p))
    (listed : q ∈ s.engine.granted) (child : s.parentOf q = some p) :
    (Machine.shed why p s).port q = shedRecord (childReason (s.port q)) (s.port q) := by
  rw [shed_port_eq, shedOrder_of_leaves leaves 7]
  exact dropTree_child h.acyclic h.grantedNodup listed ((h.granted q).1 listed) child

/-- R92: a step in which no port enters SHED gives no port a place in the queue. -/
theorem Table.requeue_granted (h : Table s) : Machine.requeue s.engine.granted s = s := by
  refine forEach_keeps_of_mem (I := fun u => u = s) (fun x mem u same => ?_) rfl
  subst same
  refine if_neg fun entered => ?_
  have granted := (h.granted x).1 (List.mem_reverse.1 mem)
  rw [entered.1] at granted
  cases granted

/-- R91: a shed order on a port outside the granted list has no effect. -/
theorem Table.shed_of_out {p : Port} (h : Table s) (out : (s.alloc p).granted = false) (why : ShedReason) :
    Machine.shed why p s = s := by
  rw [Machine.shed, inOneStep, shedOrder_of_out out, h.requeue_granted]

/-- R91: a port in SHEDDING after the order has started its grace there, or was in SHEDDING before. -/
theorem Table.stays_of_shedding {p : Port} {why : ShedReason} (h : Table s)
    (shedding : (Machine.shed why p s).alloc p = .shedding) : TakesGrace (s.port p) ∨ s.alloc p = .shedding := by
  rw [State.alloc, shed_port h.acyclic] at shedding
  cases granted : (s.alloc p).granted with
  | false => exact .inr (by rw [shedOrderRecord_of_out granted] at shedding; exact shedding)
  | true =>
    refine (shedOrderRecord_alloc (why := why) granted).elim And.right fun ⟨gone, _⟩ => ?_
    rw [shedding] at gone
    cases gone

/-- R90, R91: a port of the granted list that is not in SHEDDING after the order has left at once. -/
theorem Table.leaves_of_not_shedding {p : Port} {why : ShedReason} (h : Table s) (granted : (s.alloc p).granted = true)
    (gone : (Machine.shed why p s).alloc p ≠ .shedding) :
    ((Machine.shed why p s).alloc p).granted = false ∧ LeavesAtOnce (s.port p) := by
  rw [State.alloc, shed_port h.acyclic] at gone ⊢
  exact (shedOrderRecord_alloc granted).resolve_left fun stays => gone stays.1

/-- R91: a port in SHEDDING after the order has kept its switch. -/
theorem Table.shed_switch_of_shedding {p : Port} {why : ShedReason} (h : Table s)
    (stays : TakesGrace (s.port p) ∨ s.alloc p = .shedding) : (Machine.shed why p s).switch p = s.switch p := by
  rcases stays with ⟨on, grace⟩ | shedding
  · exact (h.shed_graced on grace why).2
  · rw [shed_switch_eq, shedOrder_of_shedding shedding]
    split <;> rfl

/-- A port outside the granted list has its switch OPEN. -/
theorem Table.opened_of_out {p : Port} (h : Table s) (out : (s.alloc p).granted = false) :
    (s.switch p).state = .opened ∧ p ∉ s.engine.granted := by
  refine ⟨((h.power p).resolve_left (by rw [out]; nofun)).1, fun mem => ?_⟩
  rw [(h.granted p).1 mem] at out
  cases out

end Order

/-! ## The end of a grace (R93) -/

section Grace

variable {p : Port} {s : State}

/-- With a request above 0 mW the record `r` is in SHED, or the pass has taken it on to STARTING, with the request and the
origin of `was`. -/
structure GraceEnded (was r : PortRec) : Prop where
  grace : r.grace = none
  request : r.request = was.request
  origin : r.origin = was.origin
  alloc : r.alloc = .shed ∨ r.alloc = .starting

theorem GraceEnded.of_drop {was r : PortRec} (asked : was.request ≠ 0) (request : r.request = was.request)
    (origin : r.origin = was.origin) (why : ShedReason) : GraceEnded was (PortRec.drop why r) := by
  rw [PortRec.drop, if_neg (request ▸ asked)]
  exact ⟨rfl, request, origin, .inl rfl⟩

theorem graceEnded_stable (p : Port) {was : PortRec} (asked : was.request ≠ 0) :
    PassStable (fun s => GraceEnded was (s.port p)) where
  drop {why x s} _ h := by
    rw [dropToShed_port]
    split
    · next own => exact .of_drop asked (own ▸ h.request) (own ▸ h.origin) why
    · exact h
  enqueue _ h := h
  grace {why x s} on h := by
    have ne : p ≠ x := fun own => by
      rw [← own] at on
      rcases h.alloc with e | e <;> rw [State.alloc, e] at on <;> cases on
    rw [startGrace_port, if_neg ne]
    exact h
  modeReason {x s} shedding h := by
    have ne : p ≠ x := fun own => by
      rw [← own] at shedding
      rcases h.alloc with e | e <;> rw [State.alloc, e] at shedding <;> cases shedding
    rw [State.mapPort_port_ne _ _ ne]
    exact h
  hold h := h
  mark h := h
  admitPort {x s} _ h := by
    rw [admitPort_port]
    split
    · next own => exact ⟨own ▸ h.grace, own ▸ h.request, own ▸ h.origin, .inr rfl⟩
    · exact h

/-- R93: in SHED, or at once on to STARTING. -/
theorem finish_graceEnded (s0 : State) (why : ShedReason) (asked : (s.port p).request ≠ 0) :
    GraceEnded (s.port p) ((finish s0 (inOneStep (dropTree why p) s)).port p) := by
  have stable := graceEnded_stable p asked
  have dropped : GraceEnded (s.port p) ((dropToShed why p s).port p) := by
    rw [dropToShed_port, if_pos rfl]
    exact .of_drop asked rfl rfl why
  obtain ⟨u, ended, ports, -⟩ := stable.finish s0 (stable.requeue s.engine.granted (stable.dropChildren 8 p dropped))
  have port : (finish s0 (inOneStep (dropTree why p) s)).port p = u.port p := congrArg (tget · p) ports
  rw [port]
  exact ended

/-- R102: a port with a request of 0 mW goes to OFF, and the pass does not meet it (log entry 23). -/
theorem finish_released_of_no_request (s0 : State) (why : ShedReason) (none : (s.port p).request = 0)
    (out : p ∉ s.engine.queue) :
    Released p (shedRecord why (s.port p)) (finish s0 (inOneStep (dropTree why p) s)) := by
  have stable := released_stable p (shedRecord why (s.port p))
  have dropped : Released p (shedRecord why (s.port p)) (dropToShed why p s) :=
    { port := by rw [dropToShed_port, if_pos rfl]; rfl
      off := by rw [shedRecord, if_pos none]
      opened := dropToShed_opens why p s
      notGranted := by rw [dropToShed_granted]; exact fun mem => (mem_without.1 mem).2 rfl
      notQueued := by rw [dropToShed_queue]; exact out }
  exact (stable.requeue _ (stable.dropChildren 8 p dropped)).finish s0

/-- Shedding puts no port in the granted list. -/
theorem notGranted_stable (p : Port) : ShedStable (fun s => p ∉ s.engine.granted) where
  drop {why x s} _ h := by
    rw [dropToShed_granted]
    exact fun mem => h (mem_without.1 mem).1
  enqueue _ h := h
  grace _ h := h
  modeReason _ h := h
  hold h := h
  mark h := h

/-- R74, R93: while held is yes no pass runs, and the port is in SHED, or in OFF with a request of 0 mW. -/
theorem finish_dropTree_of_held (s0 : State) (why : ShedReason) (shedding : s.alloc p = .shedding)
    (held : s.engine.held = true) :
    let t := finish s0 (inOneStep (dropTree why p) s)
    t.port p = shedRecord why (s.port p) ∧ (t.switch p).state = .opened ∧ p ∉ t.engine.granted := by
  have granted : (s.alloc p).granted = true := by rw [shedding]; rfl
  have stillHeld : (inOneStep (dropTree why p) s).engine.held = true :=
    (held_stable true).requeue _ ((held_stable true).dropTree granted held)
  obtain ⟨kept, engine⟩ := finish_of_quiet_pass s0 (runOpportunity_idle _ (.inl stillHeld))
  obtain ⟨w, opened, stands⟩ := dropChildren_stands why 8 p s
  obtain ⟨port, switch⟩ : StandsAs p _ w (inOneStep (dropTree why p) s) :=
    (standsAs_stable p w (shedRecord_out why (s.port p))).requeue _ stands
  have out : p ∉ (inOneStep (dropTree why p) s).engine.granted :=
    (notGranted_stable p).requeue _ ((notGranted_stable p).dropChildren 8 p
      (by rw [dropToShed_granted]; exact fun mem => (mem_without.1 mem).2 rfl))
  refine ⟨by rw [(kept p).1, port], by rw [(kept p).2, switch, opened], ?_⟩
  rw [engine]
  exact out

/-- R93, R102: what the end of a grace keeps of its port, whatever the request. -/
theorem finish_dropTree_keeps (s0 : State) (why : ShedReason) (out : p ∉ s.engine.queue) :
    let t := finish s0 (inOneStep (dropTree why p) s)
    (t.port p).grace = none ∧ (t.port p).request = (s.port p).request := by
  by_cases none : (s.port p).request = 0
  · dsimp only
    rw [(finish_released_of_no_request s0 why none out).port]
    exact ⟨(drop_empties why _).2.1, (drop_keeps why _).2.1⟩
  · have ended := finish_graceEnded s0 why none
    exact ⟨ended.grace, ended.request⟩

theorem exec_graceExpiry_of_expired (shedding : s.alloc p = .shedding) (expired : (s.port p).grace = some 0) :
    exec (.graceExpiry p) s = .next (finish s (inOneStep (dropTree ((s.port p).reason.getD .envelope) p) s)) :=
  congrArg Host.Outcome.next (if_pos ⟨shedding, expired⟩)

theorem exec_graceExpiry_of_running (other : s.alloc p ≠ .shedding ∨ (s.port p).grace ≠ some 0) :
    exec (.graceExpiry p) s = .next s :=
  congrArg Host.Outcome.next (if_neg fun expired => other.elim (· expired.1) (· expired.2))

end Grace

end Sys2Proof.Machine

open Sys2Proof Sys2Proof.Machine

/-- Settles O21: the port by the cases of a shed order, its children by their own turn alone, what does not hang on it by
the parents' having no cycle; after a grace, the port itself through the pass that follows. -/
theorem shedOrderAndEngineTimers : Obligations.ShedOrderAndEngineTimers := by
  refine ⟨fun why p s consistent => ?_, fun p s => ⟨fun shedding expired out => ?_, exec_graceExpiry_of_running, fun ended => ?_,
    fun running => ?_⟩⟩
  · obtain ⟨table, -⟩ := (tableConsistent_iff s).1 consistent
    have after := table.shed why p
    have stays := table.stays_of_shedding (why := why) (p := p)
    have leaves := table.leaves_of_not_shedding (why := why) (p := p)
    refine ⟨shed_port table.acyclic why p, (table.shed_of_out · why), fun shedding => ?_, fun granted gone => ?_,
      fun other shedding q listed child => ?_, fun granted gone q listed child => ?_, fun q ne leads => ?_,
      shed_envelope why p s, shed_restoreHold why p s⟩
    · exact ⟨table.shed_switch_of_shedding (stays shedding), (after.granted p).2 (by rw [shedding]; rfl)⟩
    · exact after.opened_of_out (leaves granted gone).1
    · exact shed_graced_child table.acyclic table.grantedNodup ((stays shedding).resolve_right other) listed child
    · have record := table.shed_leaving_child (why := why) (leaves granted gone).2 listed child
      refine ⟨(after.opened_of_out ?_).1, record⟩
      rw [State.alloc, record]
      exact shedRecord_out _ _
    · exact shed_outside table.acyclic (not_or.2 ⟨ne, by rw [leads]; nofun⟩) why
  · obtain ⟨grace, request⟩ := finish_dropTree_keeps s ((s.port p).reason.getD .envelope) out
    refine ⟨_, exec_graceExpiry_of_expired shedding expired, grace, request, fun asked => ?_, ?_⟩
    · have ended := finish_graceEnded s ((s.port p).reason.getD .envelope) asked
      exact ⟨ended.alloc, ended.origin⟩
    · rintro (none | ⟨held, -⟩)
      · have off := finish_released_of_no_request s ((s.port p).reason.getD .envelope) none out
        exact ⟨off.port, off.opened, off.notGranted⟩
      · exact finish_dropTree_of_held s _ shedding held
  · exact congrArg Host.Outcome.next (if_pos ended)
  · exact congrArg Host.Outcome.next (if_neg running)

end

section
/-! Rails and lines (O58), first part: what the operations of a line keep of its receiver and transmitter (R126, R135). -/

namespace Sys2Proof.Machine

/-! ## One line -/

/-- R126, R135: the receiver and the transmitter of a line are OFF together, and then no gap runs. -/
def LineRec.Paired (l : LineRec) : Prop := (l.rx = .off ↔ l.tx = .off) ∧ (l.tx = .off → l.gap = none)

/-- What an operation that turns no line on keeps of one line. -/
structure LineRec.Kept (l m : LineRec) : Prop where
  paired : l.Paired → m.Paired
  off : l.tx = .off → m.tx = .off

namespace LineRec

theorem Kept.refl (l : LineRec) : l.Kept l := ⟨id, id⟩

theorem Kept.trans {l m n : LineRec} (h : l.Kept m) (k : m.Kept n) : l.Kept n := ⟨k.paired ∘ h.paired, k.off ∘ h.off⟩

/-- An operation that moves neither the receiver nor the transmitter, and starts no gap. -/
theorem Kept.of_same {l m : LineRec} (rx : m.rx = l.rx) (tx : m.tx = l.tx) (gap : l.gap = none → m.gap = none) :
    l.Kept m := by
  refine ⟨fun ⟨both, quiet⟩ => ⟨by rw [rx, tx]; exact both, fun off => gap (quiet ?_)⟩,
    fun off => by rw [tx, off]⟩
  rw [← tx]
  exact off

/-- An operation of a transmitter that is not OFF, to a state other than OFF. -/
theorem Kept.of_driven {l m : LineRec} (on : l.tx ≠ .off) (tx : m.tx ≠ .off) (rx : l.rx ≠ .off → m.rx ≠ .off) :
    l.Kept m :=
  ⟨fun ⟨both, _⟩ => ⟨iff_of_false (rx fun off => on (both.1 off)) tx, fun off => absurd off tx⟩,
    fun off => absurd off on⟩

/-- An operation of a receiver that is not OFF, to a state other than OFF. -/
theorem Kept.of_heard {l m : LineRec} (on : l.rx ≠ .off) (rx : m.rx ≠ .off) (tx : m.tx = l.tx) : l.Kept m := by
  refine ⟨fun ⟨both, _⟩ => ?_, fun off => by rw [tx, off]⟩
  have driven : m.tx ≠ .off := fun off => on (both.2 (by rw [← tx, off]))
  exact ⟨iff_of_false rx driven, fun off => absurd off driven⟩

theorem paired_off (l : LineRec) : l.off.Paired := ⟨iff_of_true rfl rfl, fun _ => rfl⟩

/-- R130: a receiver that listens is not OFF. -/
theorem rx_ne_off_of_listens {l : LineRec} (h : l.listens = true) : l.rx ≠ .off := fun off => by
  simp [listens, off] at h

/-- R126 to R129: a character leaves the transmitter as it is, and a receiver that is on, on. -/
theorem take_rx_tx (d : Byte) (mark stop noise : Bool) {l : LineRec} (on : l.rx ≠ .off) :
    (l.take d mark stop noise).1.rx ≠ .off ∧ (l.take d mark stop noise).1.tx = l.tx := by
  have completed : ∀ b, (l.completeRecord b d).1.rx ≠ .off ∧ (l.completeRecord b d).1.tx = l.tx := fun b => by
    unfold completeRecord
    repeat' split
    all_goals exact ⟨nofun, rfl⟩
  have extended : ∀ b, (l.extend b d noise).1.rx ≠ .off ∧ (l.extend b d noise).1.tx = l.tx := fun b => by
    unfold extend
    repeat' split
    case h_2.isFalse => exact completed _
    all_goals exact ⟨nofun, rfl⟩
  unfold take
  repeat' split
  case h_1 off => exact absurd off on
  case h_3.isTrue.isFalse => exact extended _
  case h_2.isTrue.isFalse => exact ⟨on, rfl⟩
  case h_2.isFalse => exact ⟨on, rfl⟩
  all_goals exact ⟨nofun, rfl⟩

theorem kept_receive (x : LineSamples) {l : LineRec} (on : l.rx ≠ .off) : l.Kept (l.receive x).1 := by
  obtain ⟨rx, tx⟩ := take_rx_tx (dataByte x.data) (voteLevel x.mark) (voteLevel x.stop) (charNoise x)
    (l := { l with charInProgress := false, noiseSeen := l.noiseSeen || charNoise x }) on
  exact .of_heard on rx tx

theorem kept_queueState (r : StateRecord) (l : LineRec) : l.Kept (l.queueState r) := by
  unfold queueState
  repeat' split
  all_goals exact .of_same rfl rfl id

theorem choose_same (l : LineRec) : l.choose.1.rx = l.rx ∧ l.choose.1.tx = l.tx ∧ l.choose.1.gap = l.gap := by
  unfold choose chooseInternal
  repeat' split
  all_goals exact ⟨rfl, rfl, rfl⟩

/-- A microsecond moves the timers of a line alone. -/
theorem tickLine_parts (edge : Option Nat) (l : LineRec) :
    (tickLine edge l).rx = l.rx ∧ (tickLine edge l).tx = l.tx ∧
      (tickLine edge l).gap = tickDown (lineUnits l.rate) l.gap := by
  unfold tickLine passIdle
  dsimp only
  repeat' split
  all_goals exact ⟨rfl, rfl, rfl⟩

theorem kept_tickLine (edge : Option Nat) (l : LineRec) : l.Kept (tickLine edge l) := by
  obtain ⟨rx, tx, gap⟩ := tickLine_parts edge l
  exact .of_same rx tx fun still => by rw [gap, still]; rfl

end LineRec

end Sys2Proof.Machine
end

section
/-! Rails and lines (O58), second part: the operations of the lines and the send channels keep the mode, the rails and
what RAILS AND LINES says of each line (R115, R116, R126). -/

namespace Sys2Proof.Machine

/-- An operation that leaves the mode and the rails, and turns a line on only where the lines are on. -/
structure PowerKept (s t : State) : Prop where
  mode : t.mode = s.mode
  rails : t.rails = s.rails
  linesOn : t.linesOn = s.linesOn
  paired : ∀ p, (s.line p).Paired → (t.line p).Paired
  off : ∀ p, s.linesOn = true ∨ ((s.line p).tx = .off → (t.line p).tx = .off)

namespace PowerKept

theorem of_kept {s t : State} (mode : t.mode = s.mode) (rails : t.rails = s.rails) (linesOn : t.linesOn = s.linesOn)
    (kept : ∀ p, (s.line p).Kept (t.line p)) : PowerKept s t :=
  ⟨mode, rails, linesOn, fun p => (kept p).paired, fun p => .inr (kept p).off⟩

theorem of_eq {s t : State} (mode : t.mode = s.mode) (rails : t.rails = s.rails) (linesOn : t.linesOn = s.linesOn)
    (lines : t.lines = s.lines) : PowerKept s t :=
  .of_kept mode rails linesOn fun p => by rw [State.line, State.line, lines]; exact .refl _

theorem refl (s : State) : PowerKept s s := .of_eq rfl rfl rfl rfl

theorem trans {s t u : State} (h : PowerKept s t) (k : PowerKept t u) : PowerKept s u where
  mode := k.mode.trans h.mode
  rails := k.rails.trans h.rails
  linesOn := k.linesOn.trans h.linesOn
  paired p := k.paired p ∘ h.paired p
  off p := (h.off p).elim .inl fun first => (k.off p).imp (fun on => h.linesOn ▸ on) fun second => second ∘ first

theorem after {s t u : State} (k : PowerKept t u) (h : PowerKept s t) : PowerKept s u := h.trans k

/-- An operation that writes one line. -/
theorem of_line {p : Port} {l : LineRec} {s t : State} (lines : t.lines = (s.setLine p l).lines)
    (kept : (s.line p).Kept l) (mode : t.mode = s.mode) (rails : t.rails = s.rails) (linesOn : t.linesOn = s.linesOn) :
    PowerKept s t := .of_kept mode rails linesOn fun q => by
  have written : t.line q = (s.setLine p l).line q := congrArg (tget · q) lines
  rw [written, State.setLine_line]
  split
  · next own => rw [own]; exact kept
  · exact .refl _

theorem setLine {p : Port} {l : LineRec} {s : State} (kept : (s.line p).Kept l) : PowerKept s (s.setLine p l) :=
  .of_line rfl kept rfl rfl rfl

theorem forEach {α : Type} {f : α → State → State} (kept : ∀ x s, PowerKept s (f x s)) (l : List α) (s : State) :
    PowerKept s (forEach l f s) := forEach_rel .refl .trans kept l s

end PowerKept

theorem EngineFrame.powerKept {s t : State} (h : EngineFrame s t) : PowerKept s t :=
  .of_eq h.mode h.rails h.linesOn h.lines

theorem SelectorFrame.powerKept {s t : State} (h : SelectorFrame s t) : PowerKept s t :=
  .of_eq h.mode h.rails h.linesOn h.lines

/-! ## Send channels (R132, R148, R150, R153) -/

theorem joinLine_powerKept (c : SendNo) (p : Port) (s : State) : PowerKept s (joinLine c p s) :=
  .setLine (.of_same rfl rfl id)

theorem leaveLine_powerKept (c : SendNo) (p : Port) (s : State) : PowerKept s (leaveLine c p s) :=
  .setLine (.of_same rfl rfl id)

theorem endSend_powerKept (c : SendNo) (x : Send) (s : State) : PowerKept s (endSend c x s) := .of_eq rfl rfl rfl rfl

theorem reachNext_powerKept (c : SendNo) (l : List Port) :
    ∀ (x : Send) (s : State), PowerKept s (reachNext c x l s) := by
  induction l with
  | nil => exact fun x s => endSend_powerKept c x s
  | cons p l ih =>
    intro x s
    unfold reachNext
    split
    · exact (.of_eq rfl rfl rfl rfl : PowerKept s (s.setChannel c _)).trans (joinLine_powerKept c p _)
    · exact ih _ s

theorem recordOutcome_powerKept (c : SendNo) (o : SendOutcome) (s : State) : PowerKept s (recordOutcome c o s) := by
  unfold recordOutcome
  split
  · exact .refl s
  · dsimp only
    split
    · exact endSend_powerKept c _ s
    · exact reachNext_powerKept c _ _ s

theorem reportItem_powerKept (i : Option LineItem) (o : SendOutcome) (s : State) : PowerKept s (reportItem i o s) := by
  unfold reportItem
  split
  · exact recordOutcome_powerKept _ o s
  all_goals exact .refl s

/-! ## The transmitter and the receiver (R126 to R133) -/

theorem queueStateRecord_powerKept (p : Port) (s : State) : PowerKept s (queueStateRecord p s) := by
  unfold queueStateRecord
  split
  · exact .setLine (LineRec.kept_queueState _ _)
  · exact .refl s

theorem holdLow_powerKept (p : Port) (s : State) : PowerKept s (holdLow p s) :=
  .of_line rfl (.of_same rfl rfl id) rfl rfl rfl

theorem countIdle_powerKept (p : Port) (bound : Nat) (s : State) : PowerKept s (countIdle p bound s) :=
  .of_line rfl (.of_same rfl rfl id) rfl rfl rfl

theorem tellStarted_powerKept (c : Option SendNo) (s : State) : PowerKept s (tellStarted c s) := by
  unfold tellStarted sendStarted
  repeat' split
  all_goals exact .of_eq rfl rfl rfl rfl

theorem startRecord_powerKept {p : Port} {s : State} (driven : (s.line p).tx ≠ .off) : PowerKept s (startRecord p s) := by
  have rx := (s.line p).choose_same.1
  exact (tellStarted_powerKept _ _).after (.setLine (.of_driven driven nofun (by rw [← rx]; exact id)))

theorem collide_powerKept {p : Port} {s : State} (driven : (s.line p).tx ≠ .off) : PowerKept s (collide p s) := by
  unfold collide
  dsimp only
  split
  · exact (reportItem_powerKept _ _ _).after ((holdLow_powerKept p _).after (.setLine (.of_driven driven nofun id)))
  · exact (holdLow_powerKept p _).after (.setLine (.of_driven driven nofun id))

theorem applyLineEffect_powerKept (p : Port) (e : LineEffect) (s : State) : PowerKept s (applyLineEffect p e s) := by
  cases e with
  | none => exact .refl s
  | handOver r => exact .of_eq rfl rfl rfl rfl
  | deposit body noise =>
    simp only [applyLineEffect, poolArrive]
    repeat' split
    all_goals exact .of_eq rfl rfl rfl rfl

theorem receiveChar_powerKept {p : Port} {s : State} (on : (s.line p).rx ≠ .off) (x : LineSamples) :
    PowerKept s (receiveChar p x s) := by
  have idle : ∀ u, PowerKept u (idleAfterChar p x u) := fun u => by
    unfold idleAfterChar
    split
    · exact countIdle_powerKept p _ u
    · exact holdLow_powerKept p u
  exact ((PowerKept.setLine (LineRec.kept_receive x on)).trans (idle _)).trans (applyLineEffect_powerKept p _ _)

/-! ## Turn-on and turn-off orders, the rate, and LINE_RESET (R123, R134 to R136) -/

/-- R134: a line is turned on only where the lines are on. -/
theorem turnOnLine_powerKept (p : Port) {s : State} (on : s.linesOn = true) : PowerKept s (turnOnLine p s) := by
  unfold turnOnLine
  split
  · exact .refl s
  · refine (queueStateRecord_powerKept p _).after ⟨rfl, rfl, rfl, fun q paired => ?_, fun q => .inl on⟩
    rw [State.setLine_line]
    split
    · exact ⟨iff_of_false nofun nofun, nofun⟩
    · exact paired

theorem turnOffLine_powerKept (p : Port) (s : State) : PowerKept s (turnOffLine p s) := by
  have counted : ∀ l u, PowerKept u (countChoice l u) := fun l u => by
    unfold countChoice
    split <;> exact .of_eq rfl rfl rfl rfl
  unfold turnOffLine
  split
  · exact ((PowerKept.setLine ⟨fun _ => LineRec.paired_off _, fun _ => rfl⟩).trans (counted _ _)).trans
      (.forEach (fun c => recordOutcome_powerKept c .lineOff) _ _)
  · exact .refl s

theorem setLineRate_powerKept (p : Port) (r : LineRate) (s : State) : PowerKept s (setLineRate p r s) := by
  unfold setLineRate
  split <;> exact .setLine (.of_same rfl rfl id)

theorem applyLineConfig_powerKept (p : Port) (c : PortConfig) (s : State) : PowerKept s (applyLineConfig p c s) := by
  have rate := setLineRate_powerKept p c.lineRate s
  unfold applyLineConfig
  dsimp only
  repeat' split
  · next on _ => exact rate.trans (turnOnLine_powerKept p on)
  · exact rate.trans (turnOffLine_powerKept p _)
  · exact rate

/-- R136: LINE_RESET breaks off what a line that is on does. -/
theorem doLineReset_powerKept (tag : Byte) (pl : List Byte) (s : State) : PowerKept s (doLineReset tag pl s) := by
  unfold doLineReset
  repeat' split
  case h_2.isTrue on =>
    have driven : ∀ {l : LineRec}, l.isOn = true → l.tx ≠ .off := fun h off => by simp [LineRec.isOn, off] at h
    exact .of_line rfl (.of_driven (driven on) nofun nofun) rfl rfl rfl
  all_goals exact .of_eq rfl rfl rfl rfl

/-! ## The events of a line -/

theorem execCharacterReceived_powerKept {p : Port} {x : LineSamples} {s t : State}
    (h : execCharacterReceived p x s = .next t) : PowerKept s t := by
  cases h
  split
  · next heard => exact receiveChar_powerKept (LineRec.rx_ne_off_of_listens (Bool.and_eq_true_iff.1 heard).1) x
  · exact .refl s

theorem execLineValidStart_powerKept {p : Port} {s t : State} (h : execLineValidStart p s = .next t) : PowerKept s t := by
  cases h
  split
  · exact .setLine (.of_same rfl rfl fun _ => rfl)
  · exact .refl s

theorem execLineGapExpiry_powerKept {p : Port} {s t : State} (h : execLineGapExpiry p s = .next t) : PowerKept s t := by
  cases h
  split
  · next expired =>
    refine .setLine ⟨fun paired => ?_, id⟩
    have driven : (s.line p).tx ≠ .off := fun off => by
      rw [paired.2 off] at expired
      cases expired
    exact ⟨iff_of_false nofun driven, fun off => absurd off driven⟩
  · exact .refl s

theorem execLineBreak_powerKept {p : Port} {s t : State} (h : execLineBreak p s = .next t) : PowerKept s t := by
  cases h
  split
  · next heard =>
    exact (holdLow_powerKept p _).after (.setLine (.of_heard (LineRec.rx_ne_off_of_listens heard) nofun rfl))
  · exact .refl s

theorem execPendingRateInForce_powerKept {p : Port} {s t : State} (h : execPendingRateInForce p s = .next t) :
    PowerKept s t := by
  cases h
  split
  · exact .refl s
  · split
    · exact .setLine (.of_same rfl rfl id)
    · exact .refl s

theorem execBreakEnd_powerKept {p : Port} {s t : State} (h : execBreakEnd p s = .next t) : PowerKept s t := by
  cases h
  split
  · next ends => exact (holdLow_powerKept p _).after (.setLine (.of_driven (by rw [ends.1]; nofun) nofun id))
  · exact .refl s

theorem execRecordStart_powerKept {p : Port} {s t : State} (h : execRecordStart p s = .next t) : PowerKept s t := by
  cases h
  split
  · next starts => exact startRecord_powerKept fun off => by simp [LineRec.mayStart, off] at starts
  · exact .refl s

theorem execRecordSent_powerKept {p : Port} {s t : State} (h : execRecordSent p s = .next t) : PowerKept s t := by
  cases h
  split
  · next sending =>
    exact (reportItem_powerKept _ _ _).after
      ((countIdle_powerKept p _ _).after (.setLine (.of_driven (by rw [sending]; nofun) nofun id)))
  · exact .refl s

theorem execCollision_powerKept {p : Port} {s t : State} (h : execCollision p s = .next t) : PowerKept s t := by
  cases h
  split
  · next sending => exact collide_powerKept (by rw [sending]; nofun)
  · exact .refl s

theorem execBackoffStart_powerKept {p : Port} {s t : State} (h : execBackoffStart p s = .next t) : PowerKept s t := by
  cases h
  split
  · exact .setLine (.of_same rfl rfl id)
  · exact .refl s

theorem execBackoffExpiry_powerKept {p : Port} {s t : State} (h : execBackoffExpiry p s = .next t) : PowerKept s t := by
  cases h
  split
  · next ends => exact .setLine (.of_driven (by rw [ends.1]; nofun) nofun id)
  · exact .refl s

theorem execChannelWaitExpiry_powerKept {c : SendNo} {s t : State} (h : execChannelWaitExpiry c s = .next t) :
    PowerKept s t := by
  cases h
  split
  · exact .refl s
  · split
    · exact (leaveLine_powerKept c _ s).trans (recordOutcome_powerKept c _ _)
    all_goals exact .refl s

theorem tick_powerKept (s : State) : PowerKept s (tick s) := by
  cases held : s.resetHeld with
  | true =>
    rw [tick, if_pos held]
    exact .refl s
  | false =>
    have same : (tick s).mode = s.mode ∧ (tick s).rails = s.rails ∧ (tick s).linesOn = s.linesOn := by
      simp [tick, held]
    refine .of_kept same.1 same.2.1 same.2.2 fun p => ?_
    rw [tick_line p s held]
    exact LineRec.kept_tickLine _ _

end Sys2Proof.Machine
end

section
/-! Rails and lines (O58), third part: the handlings, the changes of mode, the end of INIT and the commands. -/

namespace Sys2Proof.Machine

/-! ## The invariant in two parts -/

/-- R115, R126: the rails and the lines agree, whatever the mode. -/
structure LinesAgree (s : State) : Prop where
  together : s.rails = s.linesOn
  off : ∀ p, s.linesOn = true ∨ (s.line p).tx = .off
  paired : ∀ p, (s.line p).Paired

/-- R112, R115, R118: the rails agree with the mode. -/
structure ModeAgrees (s : State) : Prop where
  init : s.mode = .init → s.rails = false
  on : s.mode = .run ∨ s.mode = .economy → s.rails = true

theorem railsAndLines_iff (s : State) : RailsAndLines s ↔ LinesAgree s ∧ ModeAgrees s :=
  ⟨fun ⟨together, init, on, off, paired⟩ => ⟨⟨together, off, paired⟩, ⟨init, on⟩⟩,
    fun ⟨lines, mode⟩ => ⟨lines.together, mode.init, mode.on, lines.off, lines.paired⟩⟩

/-- In STANDBY the rails are on or off. -/
theorem ModeAgrees.of_standby {s : State} (h : s.mode = .standby) : ModeAgrees s := by
  constructor <;> simp [h]

namespace PowerKept

theorem linesAgree {s t : State} (h : PowerKept s t) (lines : LinesAgree s) : LinesAgree t where
  together := by rw [h.rails, h.linesOn, lines.together]
  off p := by
    rw [h.linesOn]
    exact (lines.off p).elim .inl fun off => (h.off p).imp_right fun kept => kept off
  paired p := h.paired p (lines.paired p)

theorem modeAgrees {s t : State} (h : PowerKept s t) (mode : ModeAgrees s) : ModeAgrees t where
  init init := by rw [h.rails]; exact mode.init (h.mode ▸ init)
  on on := by rw [h.rails]; exact mode.on (h.mode ▸ on)

theorem railsAndLines {s t : State} (h : PowerKept s t) (agree : RailsAndLines s) : RailsAndLines t := by
  rw [railsAndLines_iff] at agree ⊢
  exact ⟨h.linesAgree agree.1, h.modeAgrees agree.2⟩

end PowerKept

/-! ## The rails turned off and on (R115, R116) -/

theorem turnRailsOff_linesAgree {s : State} (h : LinesAgree s) : LinesAgree (turnRailsOff s) := by
  have kept := PowerKept.forEach turnOffLine_powerKept allPorts s
  have off : ∀ p, ((forEach allPorts turnOffLine s).line p).tx = .off := fun p =>
    forEach_reaches (I := fun _ => True) (J := fun u => (u.line p).tx = .off) (fun _ _ _ => trivial)
      (fun u _ => by rw [turnOffLine_tx, if_pos rfl])
      (fun q u off => by
        rw [turnOffLine_tx]
        split
        · rfl
        · exact off)
      (mem_allPorts p) trivial
  unfold turnRailsOff
  generalize forEach allPorts turnOffLine s = u at kept off ⊢
  exact ⟨rfl, fun p => .inr (off p), fun p => kept.paired p (h.paired p)⟩

/-- R115: with the rails on, the lines may be on or off. -/
theorem turnRailsOn_linesAgree {s : State} (h : LinesAgree s) : LinesAgree (turnRailsOn s) := by
  have raised : LinesAgree { s with rails := true, linesOn := true } := ⟨rfl, fun _ => .inl rfl, h.paired⟩
  refine (forEach_keeps (I := fun u => u.linesOn = true ∧ LinesAgree u) (fun p u ⟨on, lines⟩ => ?_) allPorts
    ⟨rfl, raised⟩).2
  split
  · have kept := turnOnLine_powerKept p on
    exact ⟨kept.linesOn.trans on, kept.linesAgree lines⟩
  · exact ⟨on, lines⟩

theorem turnRailsOn_rails (s : State) : (turnRailsOn s).rails = true := by
  refine forEach_keeps (I := fun u => u.rails = true) (fun p u on => ?_) allPorts rfl
  split
  · exact (turnOnLine_frame p u).rails.trans on
  · exact on

/-! ## The end of a handling (R64, R98, R116) -/

theorem announceChanges_powerKept (s0 s : State) : PowerKept s (announceChanges s0 s) := by
  refine .forEach (fun p u => ?_) _ s
  split
  · exact (queueStateRecord_powerKept p _).after (postNotice_frame _ u).powerKept
  · exact .refl u

theorem windDown_linesAgree {s : State} (h : LinesAgree s) : LinesAgree (windDown s) := by
  unfold windDown
  split
  · exact (postNotice_frame _ _).powerKept.linesAgree (turnRailsOff_linesAgree h)
  · exact h

/-- R116: the rails go off in STANDBY alone. -/
theorem windDown_modeAgrees {s : State} (h : ModeAgrees s) : ModeAgrees (windDown s) := by
  by_cases winds : s.mode = .standby
  · exact .of_standby ((windDown_frame s).mode.trans winds)
  · rw [windDown, if_neg fun h => winds h.1]
    exact h

theorem beforeWindDown_powerKept (s0 s : State) :
    PowerKept s (announceChanges s0 (updateOvercommit (runOpportunity s))) :=
  ((runOpportunity_frame s).trans (updateOvercommit_frame _)).powerKept.trans (announceChanges_powerKept s0 _)

theorem finish_linesAgree (s0 : State) {s : State} (h : LinesAgree s) : LinesAgree (finish s0 s) :=
  windDown_linesAgree ((beforeWindDown_powerKept s0 s).linesAgree h)

theorem finish_modeAgrees (s0 : State) {s : State} (h : ModeAgrees s) : ModeAgrees (finish s0 s) :=
  windDown_modeAgrees ((beforeWindDown_powerKept s0 s).modeAgrees h)

theorem finish_railsAndLines (s0 : State) {s : State} (h : RailsAndLines s) : RailsAndLines (finish s0 s) := by
  rw [railsAndLines_iff] at h ⊢
  exact ⟨finish_linesAgree s0 h.1, finish_modeAgrees s0 h.2⟩

/-- A handling of the engine: an operation of it, and its end. -/
theorem EngineFrame.handled {s t : State} (k : EngineFrame s t) (s0 : State) (h : RailsAndLines s) :
    RailsAndLines (finish s0 t) := finish_railsAndLines s0 (k.powerKept.railsAndLines h)

/-! ## SET_MODE (R118) -/

theorem powerUpMode_linesAgree (dst : Mode) {s : State} (h : LinesAgree s) : LinesAgree (powerUpMode dst s) := by
  unfold powerUpMode
  repeat' split
  · exact h
  · exact (opportunity_frame s).powerKept.linesAgree h
  · exact (opportunity_frame _).powerKept.linesAgree (turnRailsOn_linesAgree h)

theorem powerUpMode_rails {dst : Mode} (h : dst ≠ .standby) (s : State) : (powerUpMode dst s).rails = true := by
  unfold powerUpMode
  rw [if_neg h]
  split
  · next on => exact (opportunity_frame s).rails.trans on
  · exact (opportunity_frame _).rails.trans (turnRailsOn_rails s)

theorem changeMode_railsAndLines {dst : Mode} (target : dst ≠ .init) {s : State} (h : RailsAndLines s) :
    RailsAndLines (changeMode dst s) := by
  obtain ⟨lines, -⟩ := (railsAndLines_iff s).1 h
  have entered : LinesAgree (enterMode dst s) :=
    (postNotice_frame _ _).powerKept.linesAgree
      (⟨lines.together, lines.off, lines.paired⟩ : LinesAgree { s with mode := dst })
  have shed := (modeShed_frame (s.modeAffected dst).reverse (enterMode dst s)).powerKept
  have mode := (powerUpMode_frame dst _).mode.trans (shed.mode.trans (enterMode_mode dst s))
  refine (railsAndLines_iff _).2
    ⟨finish_linesAgree s (powerUpMode_linesAgree dst (shed.linesAgree entered)), finish_modeAgrees s ?_⟩
  by_cases standby : dst = .standby
  · exact .of_standby (mode.trans standby)
  · exact ⟨fun init => absurd (mode.symm.trans init) target, fun _ => powerUpMode_rails standby _⟩

/-! ## The end of INIT (R113) -/

theorem coldStartPort_frame (p : Port) (s : State) : EngineFrame s (coldStartPort p s) := by
  unfold coldStartPort
  dsimp only
  split
  · exact .refl s
  · exact (mapPort_frame p _ s).trans ((mapPort_frame p _ _).trans (mapEngine_frame _ _))

theorem firstEnvelope_frame (s : State) : EngineFrame s (firstEnvelope s) := by
  unfold firstEnvelope
  split
  · exact mapEngine_frame _ s
  · exact (recompute_frame s).toEngineFrame

theorem prepareEngine_frame (s : State) : EngineFrame s (prepareEngine s) := by
  refine ((firstEnvelope_frame s).trans (forEach_rel .refl .trans coldStartPort_frame allPorts _)).trans
    (forEach_rel .refl .trans (fun p u => ?_) allPorts _)
  split
  · exact (postNotice_frame _ u).toEngineFrame
  · exact .refl u

theorem breakCycle_frame (p : Port) (s : State) : EngineFrame s (breakCycle p s) := by
  unfold breakCycle
  split
  · exact mapPort_frame p _ s
  · exact .refl s

theorem chooseGain_powerKept (p : Port) (s : State) : PowerKept s (chooseGain p s) := by
  rw [chooseGain_only]
  exact .of_eq rfl rfl rfl rfl

theorem loadPort_powerKept (p : Port) (s : State) : PowerKept s (loadPort p s) :=
  ((storeSwitch_frame p _ s).powerKept.trans (chooseGain_powerKept p _)).trans (setLineRate_powerKept p _ _)

theorem loadSelector_powerKept (x : SystemProfile) (s : State) : PowerKept s (loadSelector x s) := by
  have asserted : ∀ i u, PowerKept u (firstOver i u) := fun i u => by
    unfold firstOver
    split
    · exact (changeSource_frame i _ u).powerKept
    · exact .refl u
  unfold loadSelector
  split
  · have stored : PowerKept s { s with sel := { s.sel with settings := x.settings } } := .of_eq rfl rfl rfl rfl
    exact ((stored.trans (.forEach (fun i u => (setSource_frame i _ u).powerKept) _ _)).trans
      (.forEach (fun i u => (applyEnable_frame i _ u).powerKept) _ _)).trans (evaluate_frame _).powerKept
  · have stored : PowerKept s { s with sel := { s.sel with settings := x.settings, loaded := true } } :=
      .of_eq rfl rfl rfl rfl
    exact ((stored.trans (.forEach (fun i u => (setSource_frame i _ u).powerKept) _ _)).trans
      (.forEach asserted _ _)).trans (evaluate_frame _).powerKept

theorem loadSettings_powerKept (x : SystemProfile) (s : State) : PowerKept s (loadSettings x s) :=
  .of_eq rfl rfl rfl rfl

theorem applyProfiles_powerKept (s : State) : PowerKept s (applyProfiles s) := by
  have loaded := (loadSelector_powerKept (loadedSystem (tget s.store.slots 8)) s).trans
    (.forEach loadPort_powerKept allPorts _)
  exact ((loaded.trans (loadSettings_powerKept _ _)).trans
    (.forEach (fun p u => (breakCycle_frame p u).powerKept) allPorts _)).trans (prepareEngine_frame _).powerKept

theorem raised_linesAgree {s : State} (h : LinesAgree s) : LinesAgree (raised s) := by
  have left : LinesAgree { s with mode := s.targetMode, initByLink := false } := ⟨h.together, h.off, h.paired⟩
  unfold raised
  dsimp only
  split
  · exact (opportunity_frame _).powerKept.linesAgree (turnRailsOn_linesAgree left)
  · exact left

/-- R113: the target of the end of INIT is RUN or STANDBY. -/
theorem State.targetMode_cases (s : State) : s.targetMode = .run ∨ s.targetMode = .standby := by
  unfold State.targetMode
  repeat' split
  · exact .inr rfl
  · exact .inr rfl
  · exact .inl rfl

theorem raised_modeAgrees (s : State) : ModeAgrees (raised s) := by
  have mode := raised_mode s
  rcases s.targetMode_cases with run | standby
  · have on : (raised s).rails = true := by
      unfold raised
      rw [if_pos run]
      exact (opportunity_frame _).rails.trans (turnRailsOn_rails _)
    exact ⟨fun init => absurd (mode.symm.trans init) s.targetMode_ne_init, fun _ => on⟩
  · exact .of_standby (mode.trans standby)

theorem endInit_railsAndLines {s : State} (h : RailsAndLines s) : RailsAndLines (endInit s) := by
  have lines := (applyProfiles_powerKept s).linesAgree ((railsAndLines_iff s).1 h).1
  have agree : RailsAndLines (raised (applyProfiles s)) :=
    (railsAndLines_iff _).2 ⟨raised_linesAgree lines, raised_modeAgrees _⟩
  unfold endInit
  rw [leaveInit_eq]
  exact finish_railsAndLines s ((postNotice_frame _ _).powerKept.railsAndLines agree)

/-! ## The resets (R112, R138, R183) -/

/-- A reset in INIT: rails and lines off. -/
theorem railsAndLines_of_reset {s : State} (mode : s.mode = .init) (rails : s.rails = false) (linesOn : s.linesOn = false)
    (line : ∀ p, ∃ r, s.line p = resetLine r) : RailsAndLines s := by
  refine ⟨rails.trans linesOn.symm, fun _ => rails, by simp [mode], fun p => .inr ?_, fun p => ?_⟩
  all_goals obtain ⟨r, reset⟩ := line p; rw [reset]
  · rfl
  · exact ⟨iff_of_true rfl rfl, fun _ => rfl⟩

theorem hardReset_railsAndLines (lock : Bool) (s : State) : RailsAndLines (hardReset lock s) :=
  railsAndLines_of_reset rfl rfl rfl fun p => ⟨.d16, tget_replicate _ p⟩

theorem linkReset_railsAndLines (s : State) : RailsAndLines (linkReset s) :=
  railsAndLines_of_reset rfl rfl rfl fun p => ⟨(s.line p).rate, tget_map _ _ p⟩

end Sys2Proof.Machine
end

section
/-! Rails and lines (O58), fourth part: the decoder, the commands one by one, and a microsecond. -/

namespace Sys2Proof.Machine

/-! ## What the decoder keeps (R173, R174) -/

section Decoder

variable {I : State → Prop} (linked : ∀ (l : Link) {s : State}, I s → I (s.setLink l))

include linked

theorem handGoodFrame_keeps (f : Frame) {s : State} (h : I s) : I (handGoodFrame f s) := by
  unfold handGoodFrame
  repeat' split
  · exact linked _ h
  · exact linked _ h
  · exact h

/-- R171 to R173: a received character writes the link's record alone. -/
theorem receiveLinkChar_keeps (x : LinkSamples) {s : State} (h : I s) : I (receiveLinkChar x s) := by
  have framed : ∀ b {u : State}, I u → I (frameByte b u) := by
    intro b u hu
    unfold frameByte completeFrame
    dsimp only
    repeat' split
    case isFalse.isTrue.isTrue => exact handGoodFrame_keeps linked _ (linked _ hu)
    all_goals exact linked _ hu
  have taken : ∀ d {u : State}, I u → I (linkByte d u) := by
    intro d u hu
    unfold linkByte
    repeat' split
    · exact linked _ hu
    · exact hu
    · exact framed _ hu
  unfold receiveLinkChar
  dsimp only
  split
  · exact taken _ (linked _ h)
  · exact linked _ (linked _ h)

variable (carried : ∀ (c : Command) (tag : Byte) (pl : List Byte) {s : State}, I s → I (carryOut c tag pl s))

include carried

/-- R174: an invariant that a write of the link's record and every command carried out keep, the decoder keeps. -/
theorem decodeFrame_keeps (f : Frame) {s : State} (h : I s) : I (decodeFrame f s) := by
  unfold decodeFrame decodeListed
  repeat' split
  case h_2.isFalse.isFalse => exact linked _ (carried _ _ _ h)
  all_goals exact linked _ (linked _ h)

theorem takeHead_keeps {s : State} (h : I s) : I (takeHead s) := by
  unfold takeHead
  repeat' split
  · exact h
  · exact linked _ (decodeFrame_keeps linked carried _ (linked _ h))
  · exact h

theorem offerFrame_keeps (f : Frame) {s : State} (h : I s) : I (offerFrame f s) := by
  have handed := handGoodFrame_keeps linked f h
  unfold offerFrame
  repeat' split
  · exact h
  · exact takeHead_keeps linked carried handed
  · exact takeHead_keeps linked carried h
  · exact handed

end Decoder

theorem setLink_railsAndLines (l : Link) {s : State} (h : RailsAndLines s) : RailsAndLines (s.setLink l) := h

/-! ## The commands of the host -/

/-- A command that ends in a reply. -/
theorem reply_railsAndLines (c : Command) (tag : Byte) (r : Result) (fields : List Byte) {s : State}
    (h : RailsAndLines s) : RailsAndLines (reply c tag r fields s) := h

theorem storeConfig_powerKept (p : Port) (c : PortConfig) (s : State) : PowerKept s (storeConfig p c s) := by
  have lines := ((storeSwitch_frame p c s).powerKept.trans (chooseGain_powerKept p _)).trans
    (applyLineConfig_powerKept p c _)
  rw [storeConfig_eq, applyDisable_only]
  exact lines.trans (.of_eq rfl rfl rfl rfl)

theorem configureSource_powerKept (x : Source) (pl : List Byte) (s : State) : PowerKept s (configureSource x pl s) := by
  have stored : ∀ c g, PowerKept s (storeSourceSettings x c g s) := fun c _ =>
    (setSource_frame x (loadSourceNumbers c (s.source x)) s).powerKept.trans (.of_eq rfl rfl rfl rfl)
  exact ((stored _ _).trans (applyEnable_frame x _ _).powerKept).trans (evaluate_frame _).powerKept

section Handlings

variable {s : State} (h : RailsAndLines s)

include h

theorem doPortConfigure_railsAndLines (tag : Byte) (pl : List Byte) : RailsAndLines (doPortConfigure tag pl s) := by
  unfold doPortConfigure configureFor
  dsimp only
  repeat' split
  case h_2.isFalse.isFalse.isFalse =>
    exact reply_railsAndLines _ _ _ _
      ((applyConfig_frame _ _ _).handled s ((storeConfig_powerKept _ _ s).railsAndLines h))
  all_goals exact reply_railsAndLines _ _ _ _ h

theorem doPortRequest_railsAndLines (tag : Byte) (pl : List Byte) : RailsAndLines (doPortRequest tag pl s) := by
  unfold doPortRequest requestFor replyRequest
  dsimp only
  repeat' split
  case h_2.isFalse.isFalse.isFalse => exact reply_railsAndLines _ _ _ _ ((acceptRequest_frame _ _ _ s).handled s h)
  all_goals exact reply_railsAndLines _ _ _ _ h

theorem doPortRelease_railsAndLines (tag : Byte) (pl : List Byte) : RailsAndLines (doPortRelease tag pl s) := by
  unfold doPortRelease releaseFor
  repeat' split
  case h_2.isFalse.isFalse => exact reply_railsAndLines _ _ _ _ ((releaseIfHeld_frame _ s).handled s h)
  all_goals exact reply_railsAndLines _ _ _ _ h

theorem doPortClear_railsAndLines (tag : Byte) (pl : List Byte) : RailsAndLines (doPortClear tag pl s) := by
  unfold doPortClear clearFor
  repeat' split
  case h_2.isFalse =>
    exact reply_railsAndLines _ _ _ _
      (((clearFaults_frame _ s).toEngineFrame.trans (clearFaulted_frame _ _)).handled s h)
  all_goals exact reply_railsAndLines _ _ _ _ h

theorem doSetEnvelope_railsAndLines (tag : Byte) (pl : List Byte) : RailsAndLines (doSetEnvelope tag pl s) := by
  unfold doSetEnvelope
  split
  · exact reply_railsAndLines _ _ _ _ h
  · exact reply_railsAndLines _ _ _ _
      (((mapEngine_frame _ s).trans (recomputeUnlessHeld_frame _).toEngineFrame).handled s h)

theorem doSetMode_railsAndLines (tag : Byte) (pl : List Byte) : RailsAndLines (doSetMode tag pl s) := by
  unfold doSetMode replyMode
  repeat' split
  case h_2.isFalse.isFalse target _ _ =>
    exact reply_railsAndLines _ _ _ _ (changeMode_railsAndLines (targetMode_ne_init target) h)
  all_goals exact reply_railsAndLines _ _ _ _ h

theorem doSourceConfigure_railsAndLines (tag : Byte) (pl : List Byte) : RailsAndLines (doSourceConfigure tag pl s) := by
  unfold doSourceConfigure
  repeat' split
  case h_2.isFalse.isFalse x _ _ _ => exact reply_railsAndLines _ _ _ _ ((configureSource_powerKept x pl s).railsAndLines h)
  all_goals exact reply_railsAndLines _ _ _ _ h

theorem doRelaySend_railsAndLines (tag : Byte) (pl : List Byte) : RailsAndLines (doRelaySend tag pl s) := by
  unfold doRelaySend
  split
  · exact h
  · exact h
  · exact (reachNext_powerKept _ _ _ _).railsAndLines (setLink_railsAndLines _ h)

theorem doRelayCancel_railsAndLines (tag : Byte) (pl : List Byte) : RailsAndLines (doRelayCancel tag pl s) := by
  have cancelled : ∀ c x, RailsAndLines (cancelSend tag c x s) := fun c x => by
    unfold cancelSend
    split
    · exact reply_railsAndLines _ _ _ _
        (((leaveLine_powerKept c x.position s).trans (endSend_powerKept c _ _)).railsAndLines h)
    · exact h
  unfold doRelayCancel
  repeat' split
  · exact h
  · exact h
  · exact cancelled _ _

theorem doPortQuery_railsAndLines (tag : Byte) (pl : List Byte) : RailsAndLines (doPortQuery tag pl s) := by
  unfold doPortQuery
  split
  · exact h
  · next p _ =>
    have read : (s.line p).Kept (s.line p).statusRead := .of_same rfl rfl id
    exact reply_railsAndLines _ _ _ _ ((PowerKept.setLine read).railsAndLines h)

/-- R174: the commands of the link, the sense unit, the relay pool and the profile store have no part in it. -/
theorem carryOut_railsAndLines (c : Command) (tag : Byte) (pl : List Byte) : RailsAndLines (carryOut c tag pl s) := by
  cases c <;> simp only [carryOut]
  case portConfigure => exact doPortConfigure_railsAndLines h tag pl
  case portRequest => exact doPortRequest_railsAndLines h tag pl
  case portRelease => exact doPortRelease_railsAndLines h tag pl
  case portClear => exact doPortClear_railsAndLines h tag pl
  case setEnvelope => exact doSetEnvelope_railsAndLines h tag pl
  case setMode => exact doSetMode_railsAndLines h tag pl
  case sourceConfigure => exact doSourceConfigure_railsAndLines h tag pl
  case relaySend => exact doRelaySend_railsAndLines h tag pl
  case relayCancel => exact doRelayCancel_railsAndLines h tag pl
  case lineReset => exact (doLineReset_powerKept tag pl s).railsAndLines h
  case portQuery => exact doPortQuery_railsAndLines h tag pl
  case relayFetch | linkSet | noticeConfig | noticeFetch | reset | measure | profileRead | profileWrite | profileProtect =>
    simp only [doRelayFetch, fetchAny, fetchPort, fetchRecord, doLinkSet, doNoticeConfig, doNoticeFetch,
      doReset, doMeasure, doProfileRead, doProfileWrite, writePayload, writeLive, doProfileProtect, protectSession,
      protectMap]
    repeat' split
    all_goals exact h
  all_goals exact h

theorem offerFrame_railsAndLines (f : Frame) : RailsAndLines (offerFrame f s) :=
  offerFrame_keeps (I := RailsAndLines) setLink_railsAndLines
    (fun c tag pl {_} agree => carryOut_railsAndLines agree c tag pl) f h

/-! ## Handlings of the engine -/

theorem takeEvent_railsAndLines (e : SelEvent) {f : State → State} (frame : ∀ s, EngineFrame s (f s)) :
    RailsAndLines (takeEvent e f s) := by
  unfold takeEvent
  repeat' split
  · exact h
  · next rest _ _ => exact (frame _).handled _ h
  · exact h

theorem takeReport_railsAndLines (p : Port) (rest : List Report) {f : State → State} (frame : ∀ s, EngineFrame s (f s)) :
    RailsAndLines (takeReport p rest f s) :=
  (frame _).handled (s.setReports p rest) h

theorem takeRecord_railsAndLines (p : Port) (r : AccRecord) : RailsAndLines (takeRecord p r s) := by
  unfold takeRecord
  repeat' split
  · exact (actOnRecord_frame p r s).handled s h
  · exact h
  · exact (actOnRecord_frame p r _).handled _ h
  · exact h
  · exact h

theorem engineSample_railsAndLines (ch : SenseChannel) : RailsAndLines (engineSample ch s) := by
  unfold engineSample
  repeat' split
  · exact (overdrawSample_frame _ _ s).handled s h
  · exact h
  · exact (recompute_frame s).toEngineFrame.handled s h
  · exact h

end Handlings

theorem completeSample_powerKept (ch : SenseChannel) (code : BitVec 12) (g : Option Gain) (s : State) :
    PowerKept s (completeSample ch code g s) := by
  have recorded : PowerKept s (recordSample ch code g s) := .of_eq rfl rfl rfl rfl
  rw [completeSample_eq]
  refine recorded.trans ?_
  unfold rechooseGain
  repeat' split
  · exact .refl _
  · exact chooseGain_powerKept _ _
  · exact .refl _

theorem execSampleCompletion_railsAndLines {ch : SenseChannel} {code : BitVec 12} {selectorFirst : Bool} {s t : State}
    (stepped : execSampleCompletion ch code selectorFirst s = .next t) (h : RailsAndLines s) : RailsAndLines t := by
  have selector : ∀ {u}, RailsAndLines u → RailsAndLines (selectorPart ch u) := fun hu =>
    (selectorPart_frame ch _).powerKept.railsAndLines hu
  cases stepped
  split
  · exact h
  · have sampled := fun g => (completeSample_powerKept ch code g s).railsAndLines h
    unfold takeSample
    split
    · exact engineSample_railsAndLines (selector (sampled _)) ch
    · exact selector (engineSample_railsAndLines (sampled _) ch)

theorem execGraceExpiry_railsAndLines {p : Port} {s t : State} (stepped : execGraceExpiry p s = .next t)
    (h : RailsAndLines s) : RailsAndLines t := by
  cases stepped
  split
  · exact (inOneStep_frame (dropTree_frame _ p) s).toEngineFrame.handled s h
  · exact h

theorem execRestoreHoldExpiry_railsAndLines {s t : State} (stepped : execRestoreHoldExpiry s = .next t)
    (h : RailsAndLines s) : RailsAndLines t := by
  cases stepped
  split
  · exact ((mapEngine_frame _ s).trans (opportunity_frame _).toEngineFrame).handled s h
  · exact h

/-! ## The selector -/

/-- R13: the end of a changeover leaves the rails and the lines. -/
theorem finishChangeover_powerKept (t : Source) (s : State) : PowerKept s (finishChangeover t s) := by
  have reclosed : ∀ u, PowerKept u (dueReclose u) := fun u => (dueReclose_frame u).toEngineFrame.powerKept
  have driven : PowerKept s (((driveSel t true s).setActive (some t)).setChangeover none) :=
    (((driveSel_frame t true s).trans (setActive_frame _ _)).trans (setChangeover_frame _ _)).powerKept
  have left : PowerKept s ((s.setActive none).setChangeover none) :=
    ((setActive_frame none s).trans (setChangeover_frame none _)).powerKept
  unfold finishChangeover
  repeat' split
  · rw [closeChangeover_eq]
    exact ((driven.trans (reclosed _)).trans
      (((sendEvent_frame _ _).trans (postSourceState_frame t _)).trans (postActive_frame _ _)).powerKept).trans
      (evaluate_frame _).powerKept
  · exact (setChangeover_frame _ s).powerKept
  · exact (left.trans (reclosed _)).trans ((sendEvent_frame _ _).trans (postActive_frame _ _)).powerKept

theorem execChangeoverEnd_powerKept {s t : State} (h : execChangeoverEnd s = .next t) : PowerKept s t := by
  cases h
  repeat' split
  · exact .refl s
  · exact finishChangeover_powerKept _ s
  · exact .refl s

/-- R3: a comparator level taken, and the move it brings about. -/
theorem setComparator_powerKept (x : Source) (b : Bool) (moves : Prop) [Decidable moves] (st : SourceState) (s : State) :
    PowerKept s
      (if moves then changeSource x st (s.setSource x { s.source x with comparator := b })
        else s.setSource x { s.source x with comparator := b }) := by
  have level := setSource_frame x { s.source x with comparator := b } s
  split
  · exact (level.trans (changeSource_frame x st _)).powerKept
  · exact level.powerKept

theorem execFrameEnd_railsAndLines {s t : State} (stepped : execFrameEnd s = .next t) (h : RailsAndLines s) :
    RailsAndLines t := by
  cases stepped
  repeat' split
  · exact h
  · exact linkReset_railsAndLines s
  · exact h

/-- R112, R115, R116, R126: every command keeps the rails and the lines with the mode. -/
theorem exec_railsAndLines {i : Instr} {s t : State} (stepped : exec i s = .next t) (h : RailsAndLines s) :
    RailsAndLines t := by
  have switched : SwitchFrame s t → RailsAndLines t := fun frame => frame.toEngineFrame.powerKept.railsAndLines h
  have powered : PowerKept s t → RailsAndLines t := fun kept => kept.railsAndLines h
  cases i with
  | por => cases stepped; exact hardReset_railsAndLines _ s
  | pinReset => cases stepped; exact hardReset_railsAndLines _ s
  | loadingComplete =>
    cases stepped
    split
    · exact endInit_railsAndLines h
    · exact h
  | sampleCompletion ch code selectorFirst => exact execSampleCompletion_railsAndLines stepped h
  | qualifyExpiry x =>
    cases stepped
    split
    · exact (changeSource_frame x _ s).powerKept.railsAndLines h
    · exact h
  | comparatorAsserts x => cases stepped; exact (setComparator_powerKept x true _ .over s).railsAndLines h
  | comparatorReleases x => cases stepped; exact (setComparator_powerKept x false _ .qualifying s).railsAndLines h
  | changeoverEnd => exact powered (execChangeoverEnd_powerKept stepped)
  | changeoverBeginEvent => cases stepped; exact takeEvent_railsAndLines h _ beginHold_frame
  | changeoverEndEvent => cases stepped; exact takeEvent_railsAndLines h _ endHold_frame
  | noSourceEvent => cases stepped; exact takeEvent_railsAndLines h _ noSource_frame
  | graceExpiry p => exact execGraceExpiry_railsAndLines stepped h
  | restoreHoldExpiry => exact execRestoreHoldExpiry_railsAndLines stepped h
  | powerGood p => exact switched (execPowerGood_frame stepped)
  | startTimeout p => exact switched (execStartTimeout_frame stepped)
  | hardTrip p => exact switched (execHardTrip_frame stepped)
  | tripComparatorAsserts p => cases stepped; exact h
  | tripComparatorReleases p => exact switched (execTripComparatorReleases_frame stepped)
  | filteredTrip p => exact switched (execFilteredTrip_frame stepped)
  | coolingExpiry p => exact switched (execCoolingExpiry_frame stepped)
  | recloseTimeout p => exact switched (execRecloseTimeout_frame stepped)
  | cleanRun p => exact switched (execCleanRun_frame stepped)
  | startComplete p =>
    cases stepped
    split
    · exact takeReport_railsAndLines h p _ (takeStartComplete_frame p)
    all_goals exact h
  | startFail p =>
    cases stepped
    split
    · exact takeReport_railsAndLines h p _ (takeStartFail_frame p)
    all_goals exact h
  | trip p =>
    cases stepped
    split
    · exact takeReport_railsAndLines h p _ (takeTrip_frame p _)
    all_goals exact h
  | retryLimit p =>
    cases stepped
    split
    · exact takeReport_railsAndLines h p _ (takeOpened_frame p)
    all_goals exact h
  | announce p typeCode power identity => cases stepped; exact takeRecord_railsAndLines h p _
  | request p power => cases stepped; exact takeRecord_railsAndLines h p _
  | characterReceived p x => exact powered (execCharacterReceived_powerKept stepped)
  | lineValidStart p => exact powered (execLineValidStart_powerKept stepped)
  | lineGapExpiry p => exact powered (execLineGapExpiry_powerKept stepped)
  | lineBreak p => exact powered (execLineBreak_powerKept stepped)
  | pendingRateInForce p => exact powered (execPendingRateInForce_powerKept stepped)
  | breakEnd p => exact powered (execBreakEnd_powerKept stepped)
  | recordStart p => exact powered (execRecordStart_powerKept stepped)
  | recordSent p => exact powered (execRecordSent_powerKept stepped)
  | collision p => exact powered (execCollision_powerKept stepped)
  | backoffStart p => exact powered (execBackoffStart_powerKept stepped)
  | backoffExpiry p => exact powered (execBackoffExpiry_powerKept stepped)
  | channelWaitExpiry c => exact powered (execChannelWaitExpiry_powerKept stepped)
  | linkCharacterReceived x =>
    cases stepped
    split
    · exact receiveLinkChar_keeps (I := RailsAndLines) setLink_railsAndLines x h
    · exact h
  | frameEnd => exact execFrameEnd_railsAndLines stepped h
  | lockChange | resetRelease | conversionStart | writeComplete | protectionWriteComplete | linkValidStart | linkGapExpiry
      | linkBreak | frameBegin | receiverRateChange =>
    cases stepped
    repeat' split
    all_goals exact h
  | _ => cases stepped; exact offerFrame_railsAndLines h _

end Sys2Proof.Machine

open Sys2Proof Sys2Proof.Machine

/-- Settles O58: a step is a microsecond, which moves the timers of the lines alone, or a command. -/
theorem stepKeepsRailsAndLines : Obligations.StepKeepsRailsAndLines := by
  intro s t agree stepped
  unfold step at stepped
  split at stepped
  · cases stepped
    exact (tick_powerKept s).railsAndLines agree
  · exact exec_railsAndLines stepped agree

end

section
/-! What the link does with a command frame before its owner sees it (O48; R112, R121, R173, R174, R182, R185). -/

namespace Sys2Proof.Machine

/-- A command row offers its frame to the decoder. -/
theorem exec_of_frame {i : Instr} {f : Frame} (row : i.frame = some f) (s : State) : exec i s = .next (offerFrame f s) := by
  cases i <;> cases row <;> rfl

/-- R174, R185: a reply formed by the decoder, after which prepared is no. -/
def decoderRefusal (f : Frame) (r : Result) (s : State) : State := setPrepared false (decoderReply f.type f.tag r s)

/-! ## The decoder's checks (R112, R121, R174) -/

theorem decodeFrame_init {s : State} (init : s.mode = .init) (f : Frame) : decodeFrame f s = decoderRefusal f .busy s := by
  rw [decodeFrame, if_pos init]
  rfl

theorem decodeFrame_unknown {f : Frame} {s : State} (out : s.mode ≠ .init) (unlisted : commandOfType f.type = none) :
    decodeFrame f s = decoderRefusal f .unknown s := by
  simp only [decodeFrame, if_neg out, unlisted]
  rfl

theorem decodeFrame_listed {f : Frame} {c : Command} {s : State} (out : s.mode ≠ .init)
    (listed : commandOfType f.type = some c) : decodeFrame f s = decodeListed c f s := by
  simp only [decodeFrame, if_neg out, listed]

theorem decodeListed_badLength {f : Frame} {c : Command} (length : lengthMatches c f.payload = false) (s : State) :
    decodeListed c f s = decoderRefusal f .badLength s := by
  rw [decodeListed, if_pos length]
  rfl

theorem decodeListed_standby {f : Frame} {c : Command} {s : State} (length : lengthMatches c f.payload = true)
    (standby : s.mode = .standby) (lines : c.needsLines = true) :
    decodeListed c f s = setPrepared false (reply c f.tag .mode [] s) := by
  rw [decodeListed, if_neg (by simp [length]), if_pos ⟨standby, lines⟩]

theorem decodeListed_carried {f : Frame} {c : Command} {s : State} (length : lengthMatches c f.payload = true)
    (out : s.mode ≠ .standby) :
    decodeListed c f s = setPrepared (c == .resetPrepare) (carryOut c f.tag f.payload s) := by
  rw [decodeListed, if_neg (by simp [length]), if_neg fun refused => out refused.1]

theorem type_of_commandOfType {x : Byte} {c : Command} (h : commandOfType x = some c) : c.type = x := by
  simpa using List.find?_some h

theorem needsLines_of_type (c : Command) : c.type = 0x40 ∨ c.type = 0x43 → c.needsLines = true := by
  cases c <;> decide

/-- R121: the commands refused MODE are those of types 0x40 and 0x43, whose replies have no fields. -/
theorem decodeListed_mode {f : Frame} {c : Command} {s : State} (listed : commandOfType f.type = some c)
    (lines : f.type = 0x40 ∨ f.type = 0x43) (length : lengthMatches c f.payload = true) (standby : s.mode = .standby) :
    decodeListed c f s = decoderRefusal f .mode s := by
  have type := type_of_commandOfType listed
  have fields : decoderFields f.type = [] := by rcases lines with e | e <;> rw [e] <;> rfl
  rw [decodeListed_standby length standby (needsLines_of_type c (type ▸ lines)), decoderRefusal, reply,
    decoderReply, fields, type]

/-! ## The command queue (R173, R174, R182) -/

theorem handGoodFrame_room {f : Frame} {s : State} (room : s.link.commands.length < Config.commandSlots) :
    handGoodFrame f s = s.setLink { s.link with commands := s.link.commands ++ [f] } := by
  rw [handGoodFrame, if_pos room]

theorem handGoodFrame_busy {f : Frame} {s : State} (full : Config.commandSlots ≤ s.link.commands.length)
    (place : s.link.hasPlace = true) :
    handGoodFrame f s = decoderReply f.type f.tag .busy s := by
  rw [handGoodFrame, if_neg (Nat.not_lt.2 full), if_pos place]

theorem handGoodFrame_dropped {f : Frame} {s : State} (full : Config.commandSlots ≤ s.link.commands.length)
    (place : s.link.hasPlace = false) : handGoodFrame f s = s := by
  rw [handGoodFrame, if_neg (Nat.not_lt.2 full), if_neg (by simp [place])]

theorem takeHead_unready {s : State} (busy : s.link.ready = false) : takeHead s = s := by
  unfold takeHead
  split
  · rfl
  · rw [if_neg (by simp [busy])]

theorem ready_eq_false {l : Link} (busy : l.hasPlace = false ∨ l.resetPending = true) : l.ready = false := by
  rcases busy with place | pending
  · simp [Link.ready, place]
  · simp [Link.ready, pending]

/-- R173: a frame that the decoder cannot take yet waits. -/
theorem offerFrame_waits {f : Frame} {s : State} (held : s.resetHeld = false) (empty : s.link.commands = [])
    (busy : s.link.ready = false) : offerFrame f s = s.setLink { s.link with commands := [f] } := by
  have handed : handGoodFrame f s = s.setLink { s.link with commands := [f] } := by
    rw [handGoodFrame_room (by rw [empty]; decide), empty]
    rfl
  have left := takeHead_unready (s := s.setLink { s.link with commands := [f] }) busy
  simp only [offerFrame, held, Bool.false_eq_true, if_false, empty, handed, left]

theorem offerFrame_head_unready {f : Frame} {rest : List Frame} {s : State} (held : s.resetHeld = false)
    (head : s.link.commands = f :: rest) (busy : s.link.ready = false) : offerFrame f s = s := by
  simp only [offerFrame, held, Bool.false_eq_true, if_false, head, if_true, takeHead_unready busy]

/-- R173: a frame that arrives behind others is handed to the queue. -/
theorem offerFrame_behind {f h : Frame} {rest : List Frame} {s : State} (held : s.resetHeld = false)
    (head : s.link.commands = h :: rest) (other : h ≠ f) : offerFrame f s = handGoodFrame f s := by
  simp only [offerFrame, held, Bool.false_eq_true, if_false, head, if_neg other]

end Sys2Proof.Machine

open Sys2Proof Sys2Proof.Machine

/-- Settles O48: a frame alone meets the decoder's checks in their order; one with others ahead, or that the decoder
cannot take, goes through the command queue. -/
theorem decoderRefusesOrWaits : Obligations.DecoderRefusesOrWaits := by
  intro i f s row held
  rw [exec_of_frame row]
  refine ⟨fun empty place pending => ?_, fun empty busy => ?_, fun rest head => ⟨fun place pending => ?_, fun busy => ?_⟩,
    fun h rest head other => ?_⟩
  · rw [offerFrame_alone f s held empty (by simp [Link.ready, place, pending])]
    refine ⟨fun init => ?_, fun type tag pl unknown out unlisted => ?_, fun c out listed length => ?_,
      fun standby lines ⟨c, listed, length⟩ => ?_⟩
    · rw [decodeFrame_init init]
      rfl
    · subst unknown
      cases row
      rw [exec_of_frame rfl, offerFrame_alone _ s held empty (by simp [Link.ready, place, pending]),
        decodeFrame_unknown out unlisted]
      rfl
    · rw [decodeFrame_listed out listed, decodeListed_badLength length]
      rfl
    · rw [decodeFrame_listed (by simp [standby]) listed, decodeListed_mode listed lines length standby]
      rfl
  · rw [offerFrame_waits held empty (ready_eq_false busy)]
    rfl
  · have ready : s.link.ready = true := by simp [Link.ready, place, pending]
    have alone := offerFrame_alone f (s.setLink { s.link with commands := [] }) held rfl ready
    refine ⟨_, exec_of_frame row _, ?_, ?_⟩
    · exact (congrArg (fun t => t.link.commands) alone).trans (decodeFrame_commands f _)
    · rw [offerFrame_head f rest s held head ready]
      rfl
  · rw [offerFrame_head_unready held head (ready_eq_false busy)]
  · rw [offerFrame_behind held head other]
    refine ⟨fun room => ?_, fun full place => ?_, fun full place => ?_⟩
    · rw [handGoodFrame_room room]
      rfl
    · rw [handGoodFrame_busy full place]
      rfl
    · rw [handGoodFrame_dropped full place]

end

section
/-! LINE_RESET, the turn-on and turn-off orders of a line, and the queueing of a STATE record (O36; R109, R110, R121, R131,
R134 to R136). -/

namespace Sys2Proof.Machine

/-! ## The state of a line -/

theorem LineRec.isOn_of_ne {l : LineRec} (on : l.tx ≠ .off) : l.isOn = true := by simp [isOn, on]

theorem LineRec.isOn_of_off {l : LineRec} (off : l.tx = .off) : l.isOn = false := by simp [isOn, off]

theorem State.setLine_setLine (p : Port) (l m : LineRec) (s : State) : (s.setLine p l).setLine p m = s.setLine p m := by
  simp only [State.setLine, tput_tput]

/-! ## LINE_RESET (R121, R136) -/

/-- R121, R174: in STANDBY a free decoder refuses a command that needs the lines. -/
theorem offerCommand_standby {c : Command} {tag : Byte} {pl : List Byte} {s : State} (free : DecoderFree s)
    (length : lengthMatches c pl = true) (lines : c.needsLines = true) (standby : s.mode = .standby) :
    offerCommand c tag pl s = answered c tag .mode [] s := by
  obtain ⟨held, out, empty, place, pending⟩ := free
  rw [offerCommand, offerFrame_alone _ s held empty (by simp [Link.ready, place, pending]),
    decodeFrame_listed out (commandOfType_type c), decodeListed_standby length standby lines]
  rfl

/-- R174, R175, R182: outside STANDBY a command goes to its owner, whether it needs the lines or not. -/
theorem offerCommand_answered_of_mode {c : Command} {tag : Byte} {pl fields : List Byte} {r : Result} {s t : State}
    (free : DecoderFree s) (length : lengthMatches c pl = true) (mode : s.mode ≠ .standby)
    (other : (c == .resetPrepare) = false) (carried : carryOut c tag pl s = reply c tag r fields t) :
    offerCommand c tag pl s = answered c tag r fields t := by
  obtain ⟨held, out, empty, place, pending⟩ := free
  rw [offerCommand, offerFrame_alone _ s held empty (by simp [Link.ready, place, pending]),
    decodeFrame_listed out (commandOfType_type c), decodeListed_carried length mode, other, carried]
  rfl

theorem doLineReset_off {p : Port} {tag : Byte} {pl : List Byte} {s : State} (port : byteAt pl 0 = p.val)
    (off : (s.line p).tx = .off) : doLineReset tag pl s = reply .lineReset tag .conflict [] s := by
  simp only [doLineReset, port, portOfCode_val, LineRec.isOn_of_off off, Bool.false_eq_true, if_false]

theorem doLineReset_on {p : Port} {tag : Byte} {pl : List Byte} {s : State} (port : byteAt pl 0 = p.val)
    (on : (s.line p).tx ≠ .off) :
    doLineReset tag pl s = reply .lineReset tag .ok [] (s.setLine p (s.line p).reset) := by
  simp only [doLineReset, port, portOfCode_val, LineRec.isOn_of_ne on, if_true]

/-! ## STATE records (R109, R131) -/

theorem queueStateRecord_off {p : Port} {s : State} (off : (s.line p).tx = .off) : queueStateRecord p s = s := by
  rw [queueStateRecord, LineRec.isOn_of_off off]
  rfl

theorem queueStateRecord_on {p : Port} {s : State} (on : (s.line p).tx ≠ .off) :
    queueStateRecord p s = s.setLine p ((s.line p).queueState (stateRecord (s.port p))) := by
  rw [queueStateRecord, LineRec.isOn_of_ne on]
  rfl

/-- R131: a STATE record stands as pending where no other one waits as the current item. -/
theorem LineRec.queueState_pending {l : LineRec} (r : StateRecord)
    (started : ∀ q, l.current = some (.internal q) → l.tx = .sending) :
    l.queueState r = { l with pendingInternal := some r } := by
  unfold queueState
  split
  · next q current => rw [if_pos (started q current)]
  · rfl
  · rfl

theorem LineRec.queueState_replaces {l : LineRec} (r : StateRecord) {q : StateRecord}
    (current : l.current = some (.internal q)) (waiting : l.tx ≠ .sending) :
    l.queueState r = { l with current := some (.internal r), pendingInternal := none, collisions := 0 } := by
  simp only [queueState, current, if_neg waiting]

/-! ## Turn-on and turn-off orders (R110, R134, R135) -/

theorem turnOnLine_on {p : Port} {s : State} (on : (s.line p).tx ≠ .off) : turnOnLine p s = s := by
  rw [turnOnLine, if_pos (LineRec.isOn_of_ne on)]

/-- R110, R134: a line that is OFF goes to a break, with the STATE record of its port queued. -/
theorem turnOnLine_off {p : Port} {s : State} (off : (s.line p).tx = .off) :
    turnOnLine p s =
      s.setLine p
        (LineRec.queueState (stateRecord (s.port p)) { (s.line p).driveBreak with rx := .hunt }) := by
  have driven : ((s.setLine p { (s.line p).driveBreak with rx := .hunt }).line p).tx ≠ .off := by
    rw [State.setLine_line_self]
    nofun
  rw [turnOnLine, LineRec.isOn_of_off off, if_neg Bool.false_ne_true, queueStateRecord_on driven, State.setLine_setLine,
    State.setLine_line_self]
  rfl

theorem turnOffLine_off {p : Port} {s : State} (off : (s.line p).tx = .off) : turnOffLine p s = s := by
  rw [turnOffLine, LineRec.isOn_of_off off]
  rfl

/-- R132: every number of a tie names an order of the same channels. -/
theorem permute_perm {α : Type} (k : Nat) (l : List α) : (permute k l).Perm l := by
  induction l generalizing k with
  | nil => exact .refl _
  | cons x l ih =>
    have rest := ih (k / (l.length + 1))
    have room : k % (l.length + 1) ≤ (permute (k / (l.length + 1)) l).length := by
      rw [rest.length_eq]
      exact Nat.lt_succ_iff.1 (Nat.mod_lt _ l.length.succ_pos)
    exact (List.perm_insertIdx x _ room).trans (rest.cons x)

theorem inSomeOrder_perm (l : List SendNo) (s : State) : (inSomeOrder l s).Perm l := by
  unfold inSomeOrder
  split
  · exact permute_perm _ l
  · exact .refl l

/-- R132: a tie moves the counter of choices alone. -/
theorem countChoice_eq (l : List SendNo) (s : State) :
    countChoice l s = { s with choices := s.choices + if 2 ≤ l.length then 1 else 0 } := by
  unfold countChoice
  split <;> rfl

/-- R135: a turn-off order of a line that is on. -/
theorem turnOffLine_on {p : Port} {s : State} (on : (s.line p).tx ≠ .off) :
    turnOffLine p s =
      forEach (inSomeOrder (s.line p).channelsHeld s) (fun c => recordOutcome c .lineOff)
        { s.setLine p (s.line p).off with
          choices := s.choices + if 2 ≤ (s.line p).channelsHeld.length then 1 else 0 } := by
  have counted := countChoice_eq (s.line p).channelsHeld (s.setLine p (s.line p).off)
  rw [turnOffLine, if_pos (LineRec.isOn_of_ne on)]
  dsimp only
  rw [counted]
  rfl

/-- R132, R148: no channel joins a line that is OFF. -/
theorem reachNext_line_of_off {q : Port} (c : SendNo) (l : List Port) :
    ∀ (x : Send) {s : State}, (s.line q).tx = .off → (reachNext c x l s).line q = s.line q := by
  induction l with
  | nil => exact fun _ _ _ => rfl
  | cons p l ih =>
    intro x s off
    unfold reachNext
    split
    · next on =>
      have other : q ≠ p := fun own => by
        rw [← own, LineRec.isOn_of_off off] at on
        cases on
      exact State.setLine_line_ne _ _ other
    · exact ih _ off

theorem recordOutcome_line_of_off {q : Port} {s : State} (c : SendNo) (o : SendOutcome) (off : (s.line q).tx = .off) :
    (recordOutcome c o s).line q = s.line q := by
  unfold recordOutcome
  split
  · rfl
  · dsimp only
    split
    · rfl
    · exact reachNext_line_of_off c _ _ off

theorem turnOffLine_line {p : Port} {s : State} (on : (s.line p).tx ≠ .off) :
    (turnOffLine p s).line p = (s.line p).off := by
  rw [turnOffLine_on on]
  refine forEach_keeps (I := fun u => u.line p = (s.line p).off) (fun c u off => ?_) _ (State.setLine_line_self _ _ _)
  rw [recordOutcome_line_of_off c .lineOff (by rw [off]; rfl), off]

end Sys2Proof.Machine

open Sys2Proof Sys2Proof.Machine

/-- Settles O36: each order by the state of its line. -/
theorem lineOrdersTakeEffect : Obligations.LineOrdersTakeEffect := by
  refine ⟨fun tag pl p s free single port => ?_, fun p s => ?_⟩
  · have length : lengthMatches .lineReset pl = true := by simp [lengthMatches, single]
    refine ⟨fun standby => ?_, fun mode off => ?_, fun mode on => ?_⟩
    · exact congrArg _ (offerCommand_standby free length rfl standby)
    · exact congrArg _ (offerCommand_answered_of_mode free length mode rfl (doLineReset_off port off))
    · exact congrArg _ (offerCommand_answered_of_mode free length mode rfl (doLineReset_on port on))
  · refine ⟨turnOnLine_on, fun off current => ?_, queueStateRecord_off, fun on started => ?_,
      fun q on waiting current => ?_, turnOffLine_off, fun on => ?_⟩
    · have idle : ∀ q, (s.line p).current ≠ some (.internal q) := fun q internal => by
        rw [current] at internal
        cases internal
      exact (turnOnLine_off off).trans
        (congrArg (s.setLine p) (LineRec.queueState_pending _ fun q internal => absurd internal (idle q)))
    · exact (queueStateRecord_on on).trans (congrArg (s.setLine p) (LineRec.queueState_pending _ started))
    · exact (queueStateRecord_on on).trans (congrArg (s.setLine p) (LineRec.queueState_replaces _ current waiting))
    · refine ⟨_, _, (inSomeOrder_perm _ s).trans (.of_eq ?_), turnOffLine_on on, turnOffLine_line on⟩
      unfold LineRec.channelsHeld itemChannel
      cases (s.line p).setAside <;> rfl

end

section
/-! SET_MODE (O31; R116 to R120): a target equal to the mode, a refused one, and an accepted change of mode as one
handling. -/

namespace Sys2Proof.Machine

/-! ## The ports that a change of mode tests (R119, R120) -/

theorem closure_nil (s : State) (f : Port → Bool) (l : List Port) (n : Nat) : closure s f l n [] = [] := by
  induction n with
  | zero => rfl
  | succ n ih =>
    have none : l.filter (fun q => ([] : List Port).contains q || (f q && s.parentIn [] q)) = [] := by
      refine List.filter_eq_nil_iff.2 fun q _ => ?_
      unfold State.parentIn
      split <;> simp
    rw [closure, none, ih]

/-- R119: a target equal to the mode affects no port. -/
theorem modeTested_self (s : State) : s.modeTested s.mode = [] := by
  have none : s.modeAffected s.mode = [] := by
    unfold State.modeAffected
    cases s.mode <;> rfl
  rw [State.modeTested, none, closure_nil]
  rfl

/-- R119: the ports of the granted list that a change of mode sheds. -/
theorem mem_modeAffected {p : Port} {dst : Mode} {s : State} (listed : p ∈ s.engine.granted) (out : s.mode ≠ .init)
    (left : s.mode ≠ .standby) (changes : dst ≠ s.mode)
    (forbidden : dst = .standby ∨ (dst = .economy ∧ s.essential p = false)) : p ∈ s.modeAffected dst := by
  rcases forbidden with rfl | ⟨rfl, other⟩
  · cases mode : s.mode with
    | init => exact absurd mode out
    | standby => exact absurd mode left
    | run => simpa [State.modeAffected, mode] using listed
    | economy => simpa [State.modeAffected, mode] using listed
  · cases mode : s.mode with
    | init => exact absurd mode out
    | standby => exact absurd mode left
    | run => simpa [State.modeAffected, mode] using ⟨listed, other⟩
    | economy => exact absurd mode.symm changes

theorem modeForbids_of_target {dst : Mode} {essential : Bool}
    (forbidden : dst = .standby ∨ (dst = .economy ∧ essential = false)) : modeForbids dst essential = true := by
  rcases forbidden with rfl | ⟨rfl, rfl⟩ <;> rfl

/-! ## A port that a change of mode has shed (R91, R102, R119) -/

/-- The record of a port that a change of mode has shed or has put in grace. -/
def PortRec.ModeShed (r : PortRec) : Prop :=
  r.alloc = .shed ∨ (r.alloc = .shedding ∧ r.reason = some .mode) ∨ (r.alloc = .off ∧ r.request = 0)

theorem PortRec.modeShed_drop (why : ShedReason) (r : PortRec) : (r.drop why).ModeShed := by
  unfold drop
  split
  · next empty => exact .inr (.inr ⟨rfl, empty⟩)
  · exact .inl rfl

/-- Shedding leaves a port that is MODE-shed so. -/
theorem modeShed_stable (p : Port) : ShedStable (fun s => (s.port p).ModeShed) where
  drop {why x s} _ h := by
    rw [dropToShed_port]
    split
    · exact PortRec.modeShed_drop why _
    · exact h
  enqueue _ h := h
  grace {why x s} on h := by
    rw [startGrace_port]
    split
    · next own =>
      rw [State.alloc, ← own] at on
      rw [PortRec.ModeShed, on] at h
      simp at h
    · exact h
  modeReason {x s} shedding h := by
    rw [State.mapPort_port]
    split
    · exact .inr (.inl ⟨shedding, rfl⟩)
    · exact h
  hold h := h
  mark h := h

/-- A port of the granted list whose shed order is still to come, or one that is MODE-shed. -/
def OrderedOrShed (p : Port) (s : State) : Prop := (s.alloc p).granted = true ∨ (s.port p).ModeShed

theorem orderedOrShed_stable (p : Port) : ShedStable (OrderedOrShed p) where
  drop {why x s} granted h := by
    rcases h with first | shed
    · by_cases own : p = x
      · subst own
        right
        rw [dropToShed_port, if_pos rfl]
        exact PortRec.modeShed_drop why _
      · left
        rw [State.alloc, dropToShed_port, if_neg own]
        exact first
    · exact .inr ((modeShed_stable p).drop granted shed)
  enqueue _ h := h
  grace {why x s} on h := by
    rcases h with first | shed
    · left
      rw [State.alloc, startGrace_port]
      split
      · rfl
      · exact first
    · exact .inr ((modeShed_stable p).grace on shed)
  modeReason {x s} shedding h := by
    rcases h with first | shed
    · left
      rw [State.alloc, State.mapPort_port]
      split
      · next own => rw [← own]; exact first
      · exact first
    · exact .inr ((modeShed_stable p).modeReason shedding shed)
  hold h := h
  mark h := h

/-- R91: the MODE shed order of a port of the granted list. -/
theorem shedOrder_modeShed {p : Port} {s : State} (h : OrderedOrShed p s) : ((shedOrder 8 .mode p s).port p).ModeShed := by
  have dropped : ((dropTree .mode p s).port p).ModeShed :=
    (modeShed_stable p).dropChildren 8 p (by rw [dropToShed_port, if_pos rfl]; exact PortRec.modeShed_drop .mode _)
  have shed : (s.alloc p).granted = false → (s.port p).ModeShed := fun out => h.resolve_left (by simp [out])
  unfold shedOrder
  split
  · next on =>
    split
    · exact dropped
    · refine forEach_keeps (I := fun u => (u.port p).ModeShed) (fun q u => (modeShed_stable p).shedOrder 7 .dependency q) _ ?_
      rw [startGrace_port, if_pos rfl]
      exact .inr (.inl ⟨rfl, rfl⟩)
  · exact dropped
  · exact dropped
  · next shedding =>
    rw [if_pos rfl, State.mapPort_port_self]
    exact .inr (.inl ⟨shedding, rfl⟩)
  all_goals next out => exact shed (by rw [out]; rfl)

/-- R75: the admission pass skips a port that the mode forbids. -/
theorem skips_of_forbidden {p : Port} {s : State} (forbidden : modeForbids s.mode (s.essential p) = true) :
    s.skips p = true := by simp [State.skips, forbidden]

/-- A port that is MODE-shed stays so through an admission pass of a mode that forbids it. -/
theorem forbiddenShed_stable (p : Port) :
    PassStable (fun s => (s.port p).ModeShed ∧ modeForbids s.mode (s.essential p) = true) := by
  have forbidden {s t : State} (frame : ShedFrame s t) (h : modeForbids s.mode (s.essential p) = true) :
      modeForbids t.mode (t.essential p) = true := by
    rw [frame.mode, essential_of_cfg (frame.config p)]
    exact h
  have reason (x : Port) (s : State) : ShedFrame s (s.mapPort x (fun r => { r with reason := some .mode })) :=
    ⟨mapPort_frame _ _ s, mapPort_keep _ _ s fun _ => ⟨rfl, rfl, .inl rfl, rfl, rfl⟩⟩
  exact {
    drop := fun {why x s} granted h => ⟨(modeShed_stable p).drop granted h.1, forbidden (dropToShed_frame why x s) h.2⟩
    enqueue := fun _ h => h
    grace := fun {why x s} on h => ⟨(modeShed_stable p).grace on h.1, forbidden (startGrace_frame why x s) h.2⟩
    modeReason := fun {x s} shedding h => ⟨(modeShed_stable p).modeReason shedding h.1, forbidden (reason x s) h.2⟩
    hold := fun h => h
    mark := fun h => h
    admitPort := fun {x s} enters h => by
      refine ⟨?_, forbidden (admitPort_frame x s) h.2⟩
      have other : p ≠ x := fun own => by
        rw [← own, skips_of_forbidden h.2] at enters
        cases enters
      rw [admitPort_port, if_neg other]
      exact h.1 }

/-! ## An accepted change of mode (R116, R118, R119) -/

/-- The state of a change of mode before the end of its handling. -/
def modeEntered (dst : Mode) (s : State) : State :=
  powerUpMode dst (inOneStep (fun u => forEach (s.modeAffected dst).reverse (shedOrder 8 .mode) u) (enterMode dst s))

theorem changeMode_eq (dst : Mode) (s : State) : changeMode dst s = finish s (modeEntered dst s) := rfl

theorem enterMode_frame (dst : Mode) (s : State) : FinishFrame { s with mode := dst } (enterMode dst s) :=
  (postNotice_frame (.mode dst (railsAfter dst s) .setMode) { s with mode := dst }).toSwitchFrame.toShedFrame.toFinishFrame

/-- What a change of mode keeps, but for the mode itself. -/
theorem modeEntered_frame (dst : Mode) (s : State) : FinishFrame { s with mode := dst } (modeEntered dst s) :=
  ((enterMode_frame dst s).trans (modeShed_frame _ (enterMode dst s)).toFinishFrame).trans (powerUpMode_frame dst _)

theorem changeMode_frame (dst : Mode) (s : State) : FinishFrame { s with mode := dst } (changeMode dst s) :=
  (modeEntered_frame dst s).trans (finish_frame s _)

/-- R118: powering up leaves the ports as they are. -/
theorem powerUpMode_ports (dst : Mode) (s : State) : (powerUpMode dst s).ports = s.ports := by
  have raised := (turnRailsOn_untouched s).ports
  unfold powerUpMode
  generalize turnRailsOn s = u at raised ⊢
  repeat' split
  · rfl
  · rfl
  · exact raised

theorem modeEntered_modeShed {p : Port} {dst : Mode} {s : State} (affected : p ∈ s.modeAffected dst)
    (granted : (s.alloc p).granted = true) : ((modeEntered dst s).port p).ModeShed := by
  have ordered : ((forEach (s.modeAffected dst).reverse (shedOrder 8 .mode) (enterMode dst s)).port p).ModeShed :=
    forEach_reaches (I := OrderedOrShed p) (J := fun u => (u.port p).ModeShed)
      (fun x u => (orderedOrShed_stable p).shedOrder 8 .mode x) (fun u => shedOrder_modeShed)
      (fun x u => (modeShed_stable p).shedOrder 8 .mode x) (List.mem_reverse.2 affected) (.inl granted)
  have requeued := (modeShed_stable p).requeue (enterMode dst s).engine.granted ordered
  rw [modeEntered, State.port, powerUpMode_ports]
  exact requeued

/-- R119: a port that the new mode forbids is shed, or in grace with reason MODE. -/
theorem changeMode_modeShed {p : Port} {dst : Mode} {s : State} (affected : p ∈ s.modeAffected dst)
    (granted : (s.alloc p).granted = true) (forbidden : modeForbids dst (s.essential p) = true) :
    ((changeMode dst s).port p).ModeShed := by
  have frame := modeEntered_frame dst s
  have essential : (modeEntered dst s).essential p = s.essential p := essential_of_cfg (frame.config p)
  have kept : modeForbids (modeEntered dst s).mode ((modeEntered dst s).essential p) = true := by
    rw [frame.mode, essential]
    exact forbidden
  obtain ⟨u, ⟨shed, -⟩, ports, -⟩ :=
    (forbiddenShed_stable p).finish s ⟨modeEntered_modeShed affected granted, kept⟩
  rw [changeMode_eq, State.port, ports]
  exact shed

/-- R116: outside STANDBY, or with the rails off, there is no wind-down. -/
theorem finish_of_no_windDown (s0 : State) {s : State} (none : ¬(s.mode = .standby ∧ s.rails = true)) :
    finish s0 s = announceChanges s0 (updateOvercommit (runOpportunity s)) := by
  have kept := beforeWindDown_powerKept s0 s
  unfold finish
  generalize announceChanges s0 (updateOvercommit (runOpportunity s)) = u at kept ⊢
  exact if_neg fun h => none ⟨kept.mode ▸ h.1, kept.rails ▸ h.2.1⟩

theorem finish_rails_of_mode (s0 : State) {s : State} (mode : s.mode ≠ .standby) : (finish s0 s).rails = s.rails := by
  rw [finish_of_no_windDown s0 fun h => mode h.1]
  exact (beforeWindDown_powerKept s0 s).rails

theorem changeMode_rails {dst : Mode} (up : dst ≠ .standby) (s : State) : (changeMode dst s).rails = true := by
  rw [changeMode_eq, finish_rails_of_mode s (by rw [(modeEntered_frame dst s).mode]; exact up)]
  exact powerUpMode_rails up _

theorem changeMode_rails_of_empty {dst : Mode} {s : State} (standby : dst = .standby)
    (empty : (changeMode dst s).engine.granted = []) : (changeMode dst s).rails = false := by
  rw [changeMode_eq] at empty ⊢
  exact finish_rails ((finish_frame s _).mode.trans ((modeEntered_frame dst s).mode.trans standby)) empty

/-! ## The command (R117) -/

theorem doSetMode_protected {dst : Mode} {tag : Byte} {pl : List Byte} {s : State}
    (target : targetModeOfCode (byteAt pl 0) = some dst) (enforced : s.enforced = true)
    (tested : (s.modeTested dst).any s.protectedPort = true) : doSetMode tag pl s = replyMode tag .protected_ s := by
  simp only [doSetMode, target, if_pos (And.intro enforced tested)]

theorem doSetMode_same {tag : Byte} {pl : List Byte} {s : State}
    (target : targetModeOfCode (byteAt pl 0) = some s.mode) : doSetMode tag pl s = replyMode tag .ok s := by
  simp [doSetMode, target, modeTested_self]

theorem doSetMode_changes {dst : Mode} {tag : Byte} {pl : List Byte} {s : State}
    (target : targetModeOfCode (byteAt pl 0) = some dst) (changes : dst ≠ s.mode)
    (open_ : s.enforced = false ∨ (s.modeTested dst).any s.protectedPort = false) :
    doSetMode tag pl s = replyMode tag .ok (changeMode dst s) := by
  have free : ¬(s.enforced = true ∧ (s.modeTested dst).any s.protectedPort = true) := by
    rcases open_ with e | e <;> simp [e]
  simp only [doSetMode, target, if_neg free, if_neg changes]

end Sys2Proof.Machine

open Sys2Proof Sys2Proof.Machine

/-- Settles O31: the three outcomes of SET_MODE; an accepted change is one handling, in which each affected port meets
its own MODE shed order and the admission pass skips it. -/
theorem setModeShedsAndPowers : Obligations.SetModeShedsAndPowers := by
  intro tag pl dst s free single target
  have answer {r : Result} {t : State} (carried : doSetMode tag pl s = replyMode tag r t) :
      exec (.setMode tag pl) s = .next (answered .setMode tag r (modeFields t) t) :=
    congrArg _ (offerCommand_answered (c := .setMode) free (by simp [lengthMatches, single]) rfl rfl carried)
  refine ⟨fun same => ?_, fun enforced tested => answer (doSetMode_protected target enforced tested),
    fun changes open_ consistent => ?_⟩
  · subst same
    exact answer (doSetMode_same target)
  · have frame := changeMode_frame dst s
    have carried := answer (doSetMode_changes target changes open_)
    rw [modeFields, frame.mode] at carried
    refine ⟨changeMode dst s, carried, frame.mode, fun up => changeMode_rails up s,
      changeMode_rails_of_empty, fun left p listed forbidden => ?_, frame.sel, frame.sense, frame.pool, frame.store,
      frame.config⟩
    obtain ⟨table, -⟩ := (tableConsistent_iff s).1 consistent.1
    have shed := changeMode_modeShed (mem_modeAffected listed free.2.1 left changes forbidden) ((table.granted p).1 listed)
      (modeForbids_of_target forbidden)
    have request : ((changeMode dst s).port p).request = (s.port p).request := frame.request p
    rwa [PortRec.ModeShed, request] at shed

end

section
/-! The end of INIT (O7), first part: the cycles of parents that the walk of R108 breaks. It takes the ports in ascending
order, so the port of each cycle that loses its parent is the first of it. -/

namespace Sys2Proof.Machine

/-! ## Ancestors -/

/-- The port `n` parents above, as an iteration. -/
theorem iterate_parent (parent : Port → Option Port) (n : Nat) (q : Port) :
    (fun o : Option Port => o.bind parent)^[n] (some q) = ancestor parent n q := by
  have above : ∀ o, (fun o : Option Port => o.bind parent)^[n] o = o.bind (ancestor parent n) := by
    induction n with
    | zero => exact fun o => (Option.bind_fun_some o).symm
    | succ n ih =>
      intro o
      rw [Function.iterate_succ_apply, ih, Option.bind_assoc]
      rfl
  exact above (some q)

/-- Fewer parents reach fewer ancestors. -/
theorem ancestor_of_sub {parent other : Port → Option Port}
    (sub : ∀ p q, other p = some q → parent p = some q) {m : Nat} :
    ∀ {p q}, ancestor other m p = some q → ancestor parent m p = some q := by
  induction m with
  | zero => exact id
  | succ m ih =>
    intro p q h
    rw [ancestor, Option.bind_eq_some_iff] at h ⊢
    obtain ⟨r, up, h⟩ := h
    exact ⟨r, sub p r up, ih h⟩

theorem ancestor_succ (parent : Port → Option Port) (m : Nat) (p : Port) :
    ancestor parent (m + 1) p = (ancestor parent m p).bind parent := by
  rw [ancestor_add]
  congr 1
  funext q
  exact Option.bind_fun_some _

/-- Chains that meet the same parents reach the same ancestors. -/
theorem ancestor_congr {parent other : Port → Option Port} {p : Port}
    (same : ∀ m q, ancestor parent m p = some q → other q = parent q) (m : Nat) :
    ancestor other m p = ancestor parent m p := by
  induction m with
  | zero => rfl
  | succ m ih =>
    rw [ancestor_succ, ancestor_succ, ih]
    cases reached : ancestor parent m p with
    | none => rfl
    | some q => exact same m q reached

theorem ancestor_of_leadsTo {parent : Port → Option Port} {t : Port} {n : Nat} :
    ∀ {p}, leadsTo parent t n p = true → ∃ k, ancestor parent (k + 1) p = some t := by
  induction n with
  | zero => nofun
  | succ n ih =>
    intro p h
    obtain ⟨q, up, rfl | h⟩ := leadsTo_succ.1 h
    · exact ⟨0, by simp [ancestor, up]⟩
    · obtain ⟨k, reached⟩ := ih h
      exact ⟨k + 1, by rw [ancestor, up]; exact reached⟩

/-! ## Going around a cycle -/

theorem ancestor_rounds {parent : Port → Option Port} {p : Port} {n : Nat} (around : ancestor parent n p = some p)
    (j : Nat) :
    ancestor parent (j * n) p = some p := by
  induction j with
  | zero => rw [Nat.zero_mul]; rfl
  | succ j ih => rw [Nat.succ_mul, ancestor_add, ih, Option.bind_some, around]

/-- Every chain that starts on a cycle comes back to its start. -/
theorem ancestor_returns {parent : Port → Option Port} {p : Port} {n : Nat} (around : ancestor parent (n + 1) p = some p)
    (m : Nat) : ∃ q, ancestor parent m p = some q ∧ ancestor parent (m * n) q = some p := by
  have rounds := ancestor_rounds around m
  rw [Nat.mul_succ, Nat.add_comm, ancestor_add, Option.bind_eq_some_iff] at rounds
  exact rounds

/-- A cycle is at most eight ports long. -/
theorem leadsTo_of_cycle {parent : Port → Option Port} {p : Port} (cycle : ∃ n, ancestor parent (n + 1) p = some p) :
    leadsTo parent p 8 p = true := by
  classical
  obtain ⟨n, around, least⟩ : ∃ n, ancestor parent (n + 1) p = some p ∧ ∀ k < n, ancestor parent (k + 1) p ≠ some p :=
    ⟨Nat.find cycle, Nat.find_spec cycle, fun k lt => Nat.find_min cycle lt⟩
  have reached : ∀ i : Fin (n + 1), ∃ q, ancestor parent i p = some q := fun i =>
    (ancestor_returns around i).imp fun q h => h.1
  choose f hf using reached
  have injective : Function.Injective f := by
    intro i j same
    by_contra ne
    wlog lt : i < j generalizing i j
    · exact this same.symm (Ne.symm ne) (by omega)
    have rest := ancestor_add parent j (n + 1 - j) p
    rw [Nat.add_sub_of_le (by omega), around, hf, Option.bind_some, ← same] at rest
    have shorter := ancestor_add parent i (n + 1 - j) p
    rw [hf, Option.bind_some, ← rest] at shorter
    obtain ⟨k, hk⟩ : ∃ k, (i : Nat) + (n + 1 - j) = k + 1 := ⟨i + (n - j), by omega⟩
    rw [hk] at shorter
    exact least k (by omega) shorter
  have bound := Fintype.card_le_of_injective f injective
  rw [Fintype.card_fin, Fintype.card_fin] at bound
  exact leadsTo_of_le bound (leadsTo_of_ancestor around)

/-- R108: the port is on a cycle of parents, and the first port of it. -/
def FirstOfCycle (parent : Port → Option Port) (p : Port) : Prop :=
  (∃ n, ancestor parent (n + 1) p = some p) ∧ ∀ m q, ancestor parent m p = some q → p ≤ q

/-- Every cycle has a first port. -/
theorem exists_firstOfCycle {parent : Port → Option Port} {p : Port} {n : Nat}
    (around : ancestor parent (n + 1) p = some p) :
    ∃ m r, ancestor parent m p = some r ∧ FirstOfCycle parent r ∧ r ≤ p := by
  obtain ⟨r, ⟨m, reached⟩, least⟩ :=
    WellFounded.has_min (wellFounded_lt (α := Port)) {q | ∃ m, ancestor parent m p = some q} ⟨p, 0, rfl⟩
  have back : ∀ k q, ancestor parent k p = some q → r ≤ q := fun k q h => not_lt.1 (least q ⟨k, h⟩)
  refine ⟨m, r, reached, ⟨?_, fun k q h => back (m + k) q (by rw [ancestor_add, reached]; exact h)⟩, back 0 p rfl⟩
  obtain ⟨q, same, returns⟩ := ancestor_returns around m
  rw [reached, Option.some.injEq] at same
  subst same
  cases m with
  | zero =>
    cases reached
    exact ⟨n, around⟩
  | succ m =>
    refine ⟨(m + 1) * n + m, ?_⟩
    rw [Nat.add_assoc, ancestor_add, returns]
    exact reached

/-! ## The walk of R108 -/

/-- The first ports of the cycles have lost their parents, but for those of `l`, which the walk has still to meet. -/
structure CutSoFar (parent : Port → Option Port) (l : List Port) (s : State) : Prop where
  sorted : l.Pairwise (· < ·)
  before : ∀ x ∉ l, ∀ y ∈ l, x < y
  cut : ∀ x ∉ l, FirstOfCycle parent x → s.parentOf x = none
  kept : ∀ x, x ∈ l ∨ ¬FirstOfCycle parent x → s.parentOf x = parent x

namespace CutSoFar

variable {parent : Port → Option Port} {p : Port} {l : List Port} {s : State}

theorem sub (h : CutSoFar parent l s) (x y : Port) (up : s.parentOf x = some y) : parent x = some y := by
  by_cases stays : x ∈ l ∨ ¬FirstOfCycle parent x
  · rw [← h.kept x stays]
    exact up
  · obtain ⟨out, first⟩ := not_or.1 stays
    rw [h.cut x out (not_not.1 first)] at up
    cases up

/-- R108: the walk finds a cycle at the ports that are the first of one. -/
theorem leadsTo_iff (h : CutSoFar parent (p :: l) s) : leadsTo s.parentOf p 8 p = true ↔ FirstOfCycle parent p := by
  constructor
  · intro cycle
    obtain ⟨n, around⟩ := ancestor_of_leadsTo cycle
    obtain ⟨m, r, reached, first, le⟩ := exists_firstOfCycle (ancestor_of_sub h.sub around)
    obtain rfl | lt := le.eq_or_lt
    · exact first
    -- the first port of the cycle has been cut, but the chain of live parents passes it
    exfalso
    have out : r ∉ p :: l := fun mem => by
      rcases List.mem_cons.1 mem with rfl | later
      · exact lt.false
      · exact (lt.trans (List.rel_of_pairwise_cons h.sorted later)).false
    obtain ⟨q, here, -⟩ := ancestor_returns around m
    obtain ⟨next, above, -⟩ := ancestor_returns around (m + 1)
    have same := ancestor_of_sub h.sub here
    rw [reached, Option.some.injEq] at same
    rw [ancestor_succ, here, ← same, Option.bind_some, h.cut r out first] at above
    cases above
  · rintro ⟨⟨n, around⟩, least⟩
    refine leadsTo_of_cycle ⟨n, ?_⟩
    rw [ancestor_congr fun m q reached => h.kept q (.inl ?_)]
    · exact around
    · by_contra out
      exact ((h.before q out p List.mem_cons_self).trans_le (least m q reached)).false

theorem breakCycle (h : CutSoFar parent (p :: l) s) : CutSoFar parent l (breakCycle p s) := by
  obtain ⟨first, sorted⟩ := List.pairwise_cons.1 h.sorted
  have own : p ∉ l := fun mem => (first p mem).false
  refine ⟨sorted, fun x out y mem => ?_, fun x out starts => ?_, fun x stays => ?_⟩
  · by_cases e : x = p
    · exact e ▸ first y mem
    · exact h.before x (List.not_mem_cons_of_ne_of_not_mem e out) y (List.mem_cons_of_mem p mem)
  · rw [breakCycle_parentOf]
    by_cases e : x = p
    · rw [if_pos ⟨e, h.leadsTo_iff.2 (e ▸ starts)⟩]
    · rw [if_neg fun c => e c.1]
      exact h.cut x (List.not_mem_cons_of_ne_of_not_mem e out) starts
  · have kept := h.kept x (stays.imp_left (List.mem_cons_of_mem p))
    rw [breakCycle_parentOf, if_neg fun c => ?_]
    · exact kept
    · obtain ⟨rfl, cycle⟩ := c
      exact stays.elim own fun none => none (h.leadsTo_iff.1 cycle)

end CutSoFar

/-- R108: after the walk the first port of each cycle has lost its parent, and no other port has. -/
theorem breakCycles_parentOf (s : State) (p : Port) :
    (FirstOfCycle s.parentOf p → (forEach allPorts breakCycle s).parentOf p = none) ∧
      (¬FirstOfCycle s.parentOf p → (forEach allPorts breakCycle s).parentOf p = s.parentOf p) := by
  have start : CutSoFar s.parentOf allPorts s :=
    ⟨by decide, fun x out => absurd (mem_allPorts x) out, fun x out => absurd (mem_allPorts x) out, fun _ _ => rfl⟩
  have done := forEach_consumes (I := CutSoFar s.parentOf) (f := breakCycle) (fun _ _ _ h => h.breakCycle) start
  exact ⟨done.cut p List.not_mem_nil, fun other => done.kept p (.inr other)⟩

/-- A port with another parent. -/
def PortRec.withParent (parent : Option Port) (r : PortRec) : PortRec :=
  { r with config := { r.config with parent := parent } }

theorem breakCycle_port (y p : Port) (s : State) :
    (breakCycle y s).port p = (s.port p).withParent ((breakCycle y s).parentOf p) := by
  unfold breakCycle
  split
  · simp only [State.parentOf, State.cfg, State.mapPort_port]
    split
    · next own => rw [own]; rfl
    · rfl
  · rfl

/-- R108: the walk changes no more of a port than its parent. -/
theorem breakCycles_port (s : State) (p : Port) :
    (forEach allPorts breakCycle s).port p = (s.port p).withParent ((forEach allPorts breakCycle s).parentOf p) :=
  forEach_keeps (I := fun u => u.port p = (s.port p).withParent (u.parentOf p))
    (fun y u same => by rw [breakCycle_port, same]; rfl) allPorts rfl

end Sys2Proof.Machine
end

section
/-! The end of INIT (O7), second part: what the loaded profiles make of the selector, the ports and the lines (R17, R18,
R57, R108, R114, R138, R158). -/

namespace Sys2Proof.Machine

/-! ## The selector (R17, R18) -/

theorem firstOver_frame (i : Source) (s : State) : SelectorFrame s (firstOver i s) := by
  unfold firstOver
  split
  · exact changeSource_frame i _ s
  · exact .refl s

theorem loadSelectorAgain_frame (x : SystemProfile) (s : State) :
    SelectorFrame { s with sel := { s.sel with settings := x.settings } } (loadSelectorAgain x s) :=
  ((forEach_rel .refl .trans (fun i u => setSource_frame i (loadSourceNumbers (x.source i) (u.source i)) u) _ _).trans
    (forEach_rel .refl .trans (fun i u => applyEnable_frame i (x.source i).enable u) _ _)).trans (evaluate_frame _)

theorem loadSelectorFirst_frame (x : SystemProfile) (s : State) :
    SelectorFrame { s with sel := { s.sel with settings := x.settings, loaded := true } } (loadSelectorFirst x s) :=
  ((forEach_rel .refl .trans (fun i u => setSource_frame i (firstSource (x.source i) (u.source i)) u) _ _).trans
    (forEach_rel .refl .trans firstOver_frame _ _)).trans (evaluate_frame _)

/-- R17, R18: the selector takes its settings and is loaded; nothing but the selector, its events and the notices is
touched beside that. -/
theorem loadSelector_frame (x : SystemProfile) (s : State) :
    SelectorFrame { s with sel := { s.sel with settings := x.settings, loaded := true } } (loadSelector x s) := by
  unfold loadSelector
  split
  · next loaded =>
    have same : { s with sel := { s.sel with settings := x.settings, loaded := true } } =
        { s with sel := { s.sel with settings := x.settings } } := by rw [← loaded]
    rw [same]
    exact loadSelectorAgain_frame x s
  · exact loadSelectorFirst_frame x s

theorem firstOver_config (i y : Source) (s : State) : ((firstOver i s).source y).config = (s.source y).config := by
  unfold firstOver
  split
  · exact changeSource_config i y _ s
  · rfl

/-- R17 steps 1 and 2: each source takes its configuration. -/
theorem loadSelectorFirst_config (x : SystemProfile) (y : Source) (s : State) :
    ((loadSelectorFirst x s).source y).config = x.source y := by
  unfold loadSelectorFirst
  dsimp only
  rw [evaluate_config]
  refine forEach_keeps (I := fun u => (u.source y).config = x.source y) (fun i u h => by rw [firstOver_config]; exact h) _ ?_
  refine forEach_reaches (I := fun _ => True) (J := fun u => (u.source y).config = x.source y) (fun _ _ _ => trivial)
    (fun u _ => by rw [State.setSource_source_self]; rfl) (fun i u h => ?_) (mem_allSources y) trivial
  rw [State.setSource_source]
  split
  · next own => rw [own]; rfl
  · exact h

/-- R18: each source takes its numbers, then its enable. -/
theorem loadSelectorAgain_config (x : SystemProfile) (y : Source) (s : State) :
    ((loadSelectorAgain x s).source y).config = x.source y := by
  unfold loadSelectorAgain
  dsimp only
  rw [evaluate_config]
  refine forEach_reaches (I := fun u => ∃ e, (u.source y).config = { x.source y with enable := e })
    (J := fun u => (u.source y).config = x.source y) (fun i u ⟨e, h⟩ => ?_) (fun u ⟨e, h⟩ => ?_) (fun i u h => ?_)
    (mem_allSources y) ?_
  · by_cases own : y = i
    · subst own
      exact ⟨(x.source y).enable, by rw [applyEnable_config_self, h]⟩
    · exact ⟨e, (applyEnable_other own _ u).1.trans h⟩
  · rw [applyEnable_config_self, h]
  · by_cases own : y = i
    · subst own
      rw [applyEnable_config_self, h]
    · exact (applyEnable_other own _ u).1.trans h
  · refine forEach_reaches (I := fun _ => True) (J := fun u => ∃ e, (u.source y).config = { x.source y with enable := e })
      (fun _ _ _ => trivial) (fun u _ => ⟨_, by rw [State.setSource_source_self]; rfl⟩) (fun i u h => ?_)
      (mem_allSources y) trivial
    rw [State.setSource_source]
    split
    · next own => exact ⟨_, by rw [own]; rfl⟩
    · exact h

theorem loadSelector_config (x : SystemProfile) (y : Source) (s : State) :
    ((loadSelector x s).source y).config = x.source y := by
  unfold loadSelector
  split
  · exact loadSelectorAgain_config x y s
  · exact loadSelectorFirst_config x y s

/-! ## The ports and the lines (R57, R138) -/

/-- What a port that takes its profile leaves: the mode, the rails, the selector, the store and the engine. -/
structure LoadFrame (s t : State) : Prop where
  mode : t.mode = s.mode
  initByLink : t.initByLink = s.initByLink
  rails : t.rails = s.rails
  linesOn : t.linesOn = s.linesOn
  sel : t.sel = s.sel
  store : t.store = s.store
  engine : t.engine = s.engine

theorem LoadFrame.refl (s : State) : LoadFrame s s := ⟨rfl, rfl, rfl, rfl, rfl, rfl, rfl⟩

theorem LoadFrame.trans {s t u : State} (h : LoadFrame s t) (k : LoadFrame t u) : LoadFrame s u :=
  ⟨k.mode.trans h.mode, k.initByLink.trans h.initByLink, k.rails.trans h.rails, k.linesOn.trans h.linesOn,
    k.sel.trans h.sel, k.store.trans h.store, k.engine.trans h.engine⟩

theorem LineFrame.loadFrame {s t : State} (h : LineFrame s t) : LoadFrame s t :=
  ⟨h.mode, h.initByLink, h.rails, h.linesOn, h.sel, h.store, h.engine⟩

theorem EngineFrame.loadFrame {s t : State} (h : EngineFrame s t) (engine : t.engine = s.engine) : LoadFrame s t :=
  ⟨h.mode, h.initByLink, h.rails, h.linesOn, h.sel, h.store, engine⟩

theorem chooseGain_loadFrame (p : Port) (s : State) : LoadFrame s (chooseGain p s) := by
  rw [chooseGain_only]
  exact ⟨rfl, rfl, rfl, rfl, rfl, rfl, rfl⟩

theorem loadPort_loadFrame (p : Port) (s : State) : LoadFrame s (loadPort p s) :=
  (((storeSwitch_frame p _ s).loadFrame (storeSwitch_engine p _ s)).trans (chooseGain_loadFrame p _)).trans
    (setLineRate_frame p _ _).loadFrame

theorem breakCycle_engine (p : Port) (s : State) : (breakCycle p s).engine = s.engine := by
  unfold breakCycle
  split <;> rfl

/-- The configuration that the slot of a port gives. -/
def State.loadedCfg (s : State) (p : Port) : PortConfig := loadedPort p (tget s.store.slots (portSlot p))

theorem setLineRate_of_off {p : Port} {s : State} (off : (s.line p).tx = .off) (r : LineRate) :
    setLineRate p r s = s.setLine p { s.line p with rate := r, pendingRate := none } := by
  rw [setLineRate, LineRec.isOn_of_off off]
  rfl

theorem setLineRate_line_ne {p q : Port} (h : q ≠ p) (r : LineRate) (s : State) : (setLineRate p r s).line q = s.line q :=
  State.setLine_line_ne _ _ h

theorem chooseGain_line (p q : Port) (s : State) : (chooseGain p s).line q = s.line q := by
  rw [chooseGain_only]
  rfl

theorem chooseGain_port (p q : Port) (s : State) : (chooseGain p s).port q = s.port q := by
  rw [chooseGain_only]
  rfl

theorem storeSwitch_line (p q : Port) (c : PortConfig) (s : State) : (storeSwitch p c s).line q = s.line q :=
  congrArg (tget · q) (storeSwitch_frame p c s).lines

theorem loadPort_eq (p : Port) (s : State) :
    loadPort p s = setLineRate p (s.loadedCfg p).lineRate (chooseGain p (storeSwitch p (s.loadedCfg p) s)) := rfl

theorem loadPort_port (p q : Port) (s : State) :
    (loadPort p s).port q = if q = p then { s.port p with config := s.loadedCfg p } else s.port q := by
  have rate : ∀ r u, (setLineRate p r u).port q = u.port q := fun _ _ => rfl
  rw [loadPort_eq, rate, chooseGain_port, storeSwitch_port]

theorem loadPort_line_ne {p q : Port} (h : q ≠ p) (s : State) : (loadPort p s).line q = s.line q := by
  rw [loadPort_eq, setLineRate_line_ne h, chooseGain_line, storeSwitch_line]

theorem loadPort_line_self {p : Port} {s : State} (off : (s.line p).tx = .off) :
    (loadPort p s).line p = { s.line p with rate := (s.loadedCfg p).lineRate, pendingRate := none } := by
  rw [loadPort_eq, setLineRate_of_off (by rw [chooseGain_line, storeSwitch_line]; exact off), State.setLine_line_self,
    chooseGain_line, storeSwitch_line]

theorem loadedCfg_of_store {s t : State} (h : t.store = s.store) (p : Port) : t.loadedCfg p = s.loadedCfg p := by
  rw [State.loadedCfg, h, State.loadedCfg]

/-- R57: each port takes the configuration of its slot. -/
theorem loadPorts_port (s : State) (p : Port) :
    (forEach allPorts loadPort s).port p = { s.port p with config := s.loadedCfg p } := by
  have frame := fun y u => (loadPort_loadFrame y u).store
  have own := forEach_own (V := fun u => (u.port p, u.store)) (f := loadPort) (p := p)
    (fun y u ne => by rw [loadPort_port, if_neg ne.symm, frame])
    (fun u v same => by
      obtain ⟨port, store⟩ := Prod.mk.inj same
      rw [loadPort_port, loadPort_port, if_pos rfl, if_pos rfl, port, loadedCfg_of_store store, frame, frame, store])
    (by decide) (mem_allPorts p) s
  rw [(Prod.mk.inj own).1, loadPort_port, if_pos rfl]

/-- R138: a line that is OFF stays so and takes the rate of its port's slot. -/
theorem loadPorts_line {s : State} {p : Port} (off : (s.line p).tx = .off) :
    ((forEach allPorts loadPort s).line p).tx = .off ∧
      ((forEach allPorts loadPort s).line p).rate = (s.loadedCfg p).lineRate := by
  refine forEach_reaches (I := fun u => (u.line p).tx = .off ∧ u.store = s.store)
    (J := fun u => ((u.line p).tx = .off ∧ (u.line p).rate = (s.loadedCfg p).lineRate) ∧ u.store = s.store)
    (fun y u ⟨off, store⟩ => ?_) (fun u ⟨off, store⟩ => ?_) (fun y u ⟨⟨off, rate⟩, store⟩ => ?_) (mem_allPorts p)
    ⟨off, rfl⟩ |>.1
  all_goals refine ⟨?_, (loadPort_loadFrame _ u).store.trans store⟩
  · by_cases own : p = y
    · subst own; rw [loadPort_line_self off]; exact off
    · rw [loadPort_line_ne own]; exact off
  · rw [loadPort_line_self off]
    exact ⟨off, by rw [loadedCfg_of_store store]⟩
  · by_cases own : p = y
    · subst own
      rw [loadPort_line_self off]
      exact ⟨off, by rw [loadedCfg_of_store store]⟩
    · rw [loadPort_line_ne own]; exact ⟨off, rate⟩

/-! ## All profiles -/

/-- The system profile that slot 8 gives. -/
def State.loadedProfile (s : State) : SystemProfile := loadedSystem (tget s.store.slots 8)

/-- The parents as the slots give them. -/
def State.loadedParent (s : State) (p : Port) : Option Port := (s.loadedCfg p).parent

/-- R113 step 1: the state with all profiles taken and the cycles broken, before the engine prepares itself. -/
def profilesLoaded (s : State) : State :=
  forEach allPorts breakCycle
    (loadSettings s.loadedProfile (forEach allPorts loadPort (loadSelector s.loadedProfile s)))

theorem applyProfiles_eq (s : State) : applyProfiles s = prepareEngine (profilesLoaded s) := rfl

theorem portsLoaded_frame (s : State) :
    LoadFrame (loadSelector s.loadedProfile s) (forEach allPorts loadPort (loadSelector s.loadedProfile s)) :=
  forEach_rel .refl .trans loadPort_loadFrame _ _

theorem cyclesBroken_frame (s : State) :
    EngineFrame s (forEach allPorts breakCycle s) ∧ (forEach allPorts breakCycle s).engine = s.engine :=
  ⟨forEach_rel .refl .trans breakCycle_frame _ _,
    forEach_keeps (I := fun u => u.engine = s.engine) (fun p u same => (breakCycle_engine p u).trans same) _ rfl⟩

/-- What the loaded profiles make of a state in which every line is OFF. -/
structure Loaded (s t : State) : Prop where
  mode : t.mode = s.mode
  initByLink : t.initByLink = s.initByLink
  rails : t.rails = s.rails
  linesOn : t.linesOn = s.linesOn
  powerUp : t.powerUp = s.loadedProfile.powerUp
  store : t.store = { s.store with coldStart := loadedColdStarts s }
  engine :
    t.engine =
      { s.engine with
        bodyReserve := s.loadedProfile.bodyReserve
        restoreMargin := s.loadedProfile.restoreMargin
        restoreHoldTime := s.loadedProfile.restoreHoldTime }
  loaded : t.sel.loaded = true
  settings : t.sel.settings = s.loadedProfile.settings
  config : ∀ x, (t.source x).config = s.loadedProfile.source x
  port : ∀ p, t.port p = ({ s.port p with config := s.loadedCfg p } : PortRec).withParent (t.parentOf p)
  cut : ∀ p, FirstOfCycle s.loadedParent p → t.parentOf p = none
  kept : ∀ p, ¬FirstOfCycle s.loadedParent p → t.parentOf p = s.loadedParent p
  line : ∀ p, (t.line p).tx = .off ∧ (t.line p).rate = (s.loadedCfg p).lineRate

theorem source_of_sel {s t : State} (h : t.sel = s.sel) (x : Source) : t.source x = s.source x := by
  cases x <;> simp only [State.source, h]

/-- R57, R108, R113: the profiles loaded with every line OFF. -/
theorem profilesLoaded_loaded {s : State} (off : ∀ p, (s.line p).tx = .off) : Loaded s (profilesLoaded s) := by
  have selector := loadSelector_frame s.loadedProfile s
  have config := fun x => loadSelector_config s.loadedProfile x s
  have frame := portsLoaded_frame s
  have slots : ∀ p, (loadSelector s.loadedProfile s).loadedCfg p = s.loadedCfg p := loadedCfg_of_store selector.store
  have quiet : ∀ p, ((loadSelector s.loadedProfile s).line p).tx = .off := fun p => by
    rw [State.line, selector.lines]
    exact off p
  have line := fun p => loadPorts_line (quiet p)
  have port : ∀ p, (forEach allPorts loadPort (loadSelector s.loadedProfile s)).port p =
      { s.port p with config := s.loadedCfg p } := fun p => by
    have same : (loadSelector s.loadedProfile s).port p = s.port p := congrArg (tget · p) selector.ports
    rw [loadPorts_port, slots, same]
  unfold profilesLoaded
  generalize forEach allPorts loadPort (loadSelector s.loadedProfile s) = u at frame line port ⊢
  generalize loadSelector s.loadedProfile s = v at selector config frame slots line
  obtain ⟨broken, engine⟩ := cyclesBroken_frame (loadSettings s.loadedProfile u)
  have left := breakCycles_port (loadSettings s.loadedProfile u)
  have walked := breakCycles_parentOf (loadSettings s.loadedProfile u)
  have parent : (loadSettings s.loadedProfile u).parentOf = s.loadedParent :=
    funext fun p => congrArg (fun r : PortRec => r.config.parent) (port p)
  rw [parent] at walked
  generalize forEach allPorts breakCycle (loadSettings s.loadedProfile u) = t at broken engine left walked ⊢
  have store : u.store = s.store := frame.store.trans selector.store
  have sel : t.sel = v.sel := broken.sel.trans frame.sel
  exact {
    mode := broken.mode.trans (frame.mode.trans selector.mode)
    initByLink := broken.initByLink.trans (frame.initByLink.trans selector.initByLink)
    rails := broken.rails.trans (frame.rails.trans selector.rails)
    linesOn := broken.linesOn.trans (frame.linesOn.trans selector.linesOn)
    powerUp := broken.powerUp
    store := by rw [broken.store, loadSettings, loadedColdStarts, store, loadedColdStarts]
    engine := by rw [engine, loadSettings, frame.engine, selector.engine]
    loaded := by rw [sel]; exact selector.loaded
    settings := by rw [sel]; exact selector.settings
    config := fun x => by rw [source_of_sel sel]; exact config x
    port := fun p => by rw [← port p]; exact left p
    cut := fun p => (walked p).1
    kept := fun p => (walked p).2
    line := fun p => by
      rw [State.line, broken.lines, ← slots p]
      exact line p }

end Sys2Proof.Machine
end

section
/-! The end of INIT (O7), third part: the engine prepares itself (R89). With an empty granted list the first recomputation
moves no port; each port with a cold-start request then enters the queue. -/

namespace Sys2Proof.Machine

/-! ## The first envelope (R89 step 1) -/

/-- R67: with an empty granted list a recomputation stores the envelope alone. -/
theorem recompute_of_empty {s : State} (empty : s.engine.granted = []) :
    recompute s = storeEnvelope s ∨ recompute s = opportunity (storeEnvelope s) := by
  have listed : (storeEnvelope s).engine.granted = [] := empty
  have unshed : shedCheck 8 (storeEnvelope s) = storeEnvelope s :=
    shedCheck_idle (.inr (by rw [State.victims, listed]; rfl)) 8
  have order : (storeEnvelope s).cancelOrder = [] := by
    rw [State.cancelOrder, listed]
    rfl
  unfold recompute afterRecompute
  dsimp only
  rw [unshed, order]
  split
  · exact .inr rfl
  · exact .inl rfl

/-- What the first envelope leaves with an empty granted list. -/
structure FirstEnvelope (s t : State) : Prop where
  port : ∀ q, t.port q = s.port q
  queue : t.engine.queue = s.engine.queue
  granted : t.engine.granted = s.engine.granted
  reserve : t.engine.bodyReserve = s.engine.bodyReserve
  margin : t.engine.restoreMargin = s.engine.restoreMargin
  holdTime : t.engine.restoreHoldTime = s.engine.restoreHoldTime
  held : s.sel.changeover.isSome = true → t.engine.held = true ∧ t.engine.envelope = s.engine.envelope
  envelope : s.sel.changeover = none → t.engine.envelope = s.newEnvelope

theorem firstEnvelope_parts {s : State} (empty : s.engine.granted = []) : FirstEnvelope s (firstEnvelope s) := by
  unfold firstEnvelope
  split
  · next changing =>
    refine ⟨fun _ => rfl, rfl, rfl, rfl, rfl, rfl, fun _ => ⟨rfl, rfl⟩, fun none => ?_⟩
    rw [State.changeoverFlag, none] at changing
    cases changing
  · next idle =>
    have stored : FirstEnvelope s (storeEnvelope s) :=
      ⟨fun _ => rfl, rfl, rfl, rfl, rfl, rfl, fun changing => absurd changing idle, fun _ => rfl⟩
    rcases recompute_of_empty empty with same | same
    · rw [same]; exact stored
    · rw [same]; exact { stored with }

/-! ## Cold starts (R89 step 2) -/

/-- The record of a port that waits with its cold-start request, cut to its cap. -/
def PortRec.coldWaiting (asked : Nat) (r : PortRec) : PortRec :=
  { r.asks (cutTo r.config.cap asked) (overCap r.config.cap asked) .profile with alloc := .waiting }

/-- R102: a request that the cap cuts to 0 mW leaves its port OFF. -/
theorem coldStartPort_none {p : Port} {s : State} (none : min (tget s.store.coldStart p) (s.cfg p).cap = 0) :
    coldStartPort p s = s := by
  rw [coldStartPort]
  exact if_pos none

/-- R60, R89: a port that waits enters the queue behind every entry of its key. -/
theorem coldStartPort_waits {p : Port} {s : State} (asks : min (tget s.store.coldStart p) (s.cfg p).cap ≠ 0) :
    coldStartPort p s =
      (s.mapPort p (PortRec.coldWaiting (tget s.store.coldStart p))).mapEngine
        (fun e => { e with queue := insertAfter s.key p e.queue }) := by
  have key : (s.mapPort p (fun r =>
      r.asks (cutTo (s.cfg p).cap (tget s.store.coldStart p)) (overCap r.config.cap (tget s.store.coldStart p))
        .profile)).key =
        s.key :=
    (mapPort_becomes p _ s rfl).key
  have waits : coldStartPort p s =
      enterWaiting p (s.mapPort p fun r =>
        r.asks (cutTo (s.cfg p).cap (tget s.store.coldStart p)) (overCap r.config.cap (tget s.store.coldStart p))
          .profile) := if_neg asks
  rw [waits, enterWaiting, key]
  simp only [State.mapPort, State.setPort, State.port, tget_tput_self, tput_tput]
  rfl

theorem coldStartPort_port (p q : Port) (s : State) :
    (coldStartPort p s).port q =
      if q = p ∧ min (tget s.store.coldStart p) (s.cfg p).cap ≠ 0 then (s.port p).coldWaiting (tget s.store.coldStart p)
      else s.port q := by
  by_cases none : min (tget s.store.coldStart p) (s.cfg p).cap = 0
  · rw [coldStartPort_none none, if_neg fun h => h.2 none]
  · rw [coldStartPort_waits none, State.mapEngine_port, State.mapPort_port]
    simp only [none, ne_eq, not_false_eq_true, and_true]

theorem coldStartPort_cfg (p q : Port) (s : State) : (coldStartPort p s).cfg q = s.cfg q := by
  rw [State.cfg, coldStartPort_port]
  split
  · next own => rw [own.1]; rfl
  · rfl

theorem coldStartPort_engine (p : Port) (s : State) :
    (coldStartPort p s).engine = s.engine ∨
      (coldStartPort p s).engine = { s.engine with queue := insertAfter s.key p s.engine.queue } := by
  by_cases none : min (tget s.store.coldStart p) (s.cfg p).cap = 0
  · exact .inl (by rw [coldStartPort_none none])
  · exact .inr (by rw [coldStartPort_waits none]; rfl)

/-- The queue holds the ports already started, by key and then by port number. -/
structure ColdQueue (key : Port → Nat) (e : Engine) (l : List Port) (s : State) : Prop where
  sorted : l.Pairwise (· < ·)
  before : ∀ x ∈ s.engine.queue, ∀ y ∈ l, x < y
  queue : s.engine.queue.Pairwise (KeyThen key (· < ·))
  key_eq : s.key = key
  engine : s.engine = { e with queue := s.engine.queue }

theorem ColdQueue.coldStart {key : Port → Nat} {e : Engine} {p : Port} {l : List Port} {s : State}
    (h : ColdQueue key e (p :: l) s) : ColdQueue key e l (coldStartPort p s) := by
  obtain ⟨first, sorted⟩ := List.pairwise_cons.1 h.sorted
  have key_eq := (key_of_cfg fun q => coldStartPort_cfg p q s).trans h.key_eq
  rcases coldStartPort_engine p s with same | entered
  · refine ⟨sorted, fun x mem y later => ?_, by rw [same]; exact h.queue, key_eq, by rw [same]; exact h.engine⟩
    rw [same] at mem
    exact h.before x mem y (List.mem_cons_of_mem p later)
  · refine ⟨sorted, fun x mem y later => ?_, ?_, key_eq, ?_⟩
    · rw [entered] at mem
      rcases mem_insertAfter.1 mem with rfl | mem
      · exact first y later
      · exact h.before x mem y (List.mem_cons_of_mem p later)
    · rw [entered, ← h.key_eq]
      exact insertAfter_pairwise (h.key_eq ▸ h.queue) fun x mem => h.before x mem p List.mem_cons_self
    · rw [entered, h.engine]

/-- What the engine has prepared for the end of INIT. -/
structure Prepared (s t : State) : Prop where
  frame : EngineFrame s t
  port : ∀ p, t.port p =
    if min (tget s.store.coldStart p) (s.cfg p).cap ≠ 0 then (s.port p).coldWaiting (tget s.store.coldStart p)
    else s.port p
  granted : t.engine.granted = []
  queue : t.engine.queue.Pairwise (KeyThen t.key (· < ·))
  reserve : t.engine.bodyReserve = s.engine.bodyReserve
  margin : t.engine.restoreMargin = s.engine.restoreMargin
  holdTime : t.engine.restoreHoldTime = s.engine.restoreHoldTime
  held : s.sel.changeover.isSome = true → t.engine.held = true ∧ t.engine.envelope = s.engine.envelope
  envelope : s.sel.changeover = none → t.engine.envelope = s.newEnvelope

/-- R89: each port takes its own cold start. -/
theorem coldStarts_port (s : State) (p : Port) : (forEach allPorts coldStartPort s).port p = (coldStartPort p s).port p := by
  have store := fun y u => (coldStartPort_frame y u).store
  have own := forEach_own (V := fun u => (u.port p, u.store)) (f := coldStartPort) (p := p)
    (fun y u ne => by rw [coldStartPort_port, if_neg fun h => ne h.1.symm, store])
    (fun u v same => by
      obtain ⟨port, kept⟩ := Prod.mk.inj same
      rw [coldStartPort_port, coldStartPort_port, State.cfg, State.cfg, port, store, store, kept])
    (by decide) (mem_allPorts p) s
  exact (Prod.mk.inj own).1

theorem prepareEngine_prepared {s : State} (queue : s.engine.queue = []) (granted : s.engine.granted = []) :
    Prepared s (prepareEngine s) := by
  have first := firstEnvelope_parts granted
  have stored := firstEnvelope_frame s
  have started := coldStarts_port (firstEnvelope s)
  have empty := first.queue.trans queue
  have cold := forEach_consumes (I := ColdQueue (firstEnvelope s).key (firstEnvelope s).engine) (f := coldStartPort)
    (fun _ _ _ h => h.coldStart)
    (⟨by decide, by rw [empty]; nofun, by rw [empty]; exact .nil, rfl, rfl⟩ :
      ColdQueue (firstEnvelope s).key (firstEnvelope s).engine allPorts (firstEnvelope s))
  have noted : NoticeFrame (forEach allPorts coldStartPort (firstEnvelope s)) (prepareEngine s) :=
    forEach_rel .refl .trans (fun p u => by
      split
      · exact postNotice_frame _ u
      · exact .refl u) _ _
  have frame := prepareEngine_frame s
  generalize prepareEngine s = t at noted frame ⊢
  generalize firstEnvelope s = u at first stored started empty cold noted
  generalize forEach allPorts coldStartPort u = v at started cold noted
  have engine : t.engine = { u.engine with queue := v.engine.queue } := noted.engine.trans cold.engine
  have port : ∀ p, t.port p = v.port p := fun p => congrArg (tget · p) noted.ports
  have key : t.key = u.key := (key_of_cfg fun q => by rw [State.cfg, port]; rfl).trans cold.key_eq
  exact {
    frame := frame
    port := fun p => by
      rw [port, started, coldStartPort_port, State.cfg, first.port, stored.store]
      simp only [true_and]
      rfl
    granted := by rw [engine]; exact first.granted.trans granted
    queue := by rw [key, engine]; exact cold.queue
    reserve := by rw [engine]; exact first.reserve
    margin := by rw [engine]; exact first.margin
    holdTime := by rw [engine]; exact first.holdTime
    held := by rw [engine]; exact first.held
    envelope := by rw [engine]; exact first.envelope }

end Sys2Proof.Machine
end

section
/-! The end of INIT (O7), fourth part: the mode leaves INIT, the lines come up, and the first pass runs (R75, R113, R115,
R134). -/

namespace Sys2Proof.Machine

/-! ## The lines that the rails bring up (R115, R134) -/

theorem queueStateRecord_line_ne {p q : Port} (h : q ≠ p) (s : State) : (queueStateRecord p s).line q = s.line q := by
  unfold queueStateRecord
  split
  · exact State.setLine_line_ne _ _ h
  · rfl

theorem turnOnLine_line_ne {p q : Port} (h : q ≠ p) (s : State) : (turnOnLine p s).line q = s.line q := by
  unfold turnOnLine
  split
  · rfl
  · rw [queueStateRecord_line_ne h, State.setLine_line_ne _ _ h]

theorem LineRec.queueState_rate (r : StateRecord) (l : LineRec) : (l.queueState r).rate = l.rate := by
  unfold queueState
  repeat' split
  all_goals rfl

theorem queueStateRecord_rate (p q : Port) (s : State) : ((queueStateRecord p s).line q).rate = (s.line q).rate := by
  unfold queueStateRecord
  split
  · rw [State.setLine_line]
    split
    · next own => rw [LineRec.queueState_rate, own]
    · rfl
  · rfl

theorem turnOnLine_rate (p q : Port) (s : State) : ((turnOnLine p s).line q).rate = (s.line q).rate := by
  unfold turnOnLine
  split
  · rfl
  · rw [queueStateRecord_rate, State.setLine_line]
    split
    · next own => rw [own]; rfl
    · rfl

/-- R134: a line that is turned on drives a break. -/
theorem turnOnLine_tx (p q : Port) (s : State) :
    ((turnOnLine p s).line q).tx = if q = p ∧ (s.line q).tx = .off then .breaking else (s.line q).tx := by
  by_cases own : q = p
  · subst own
    by_cases off : (s.line q).tx = .off
    · rw [if_pos ⟨rfl, off⟩, turnOnLine, if_neg (by simp [LineRec.isOn_of_off off]), queueStateRecord_tx,
        State.setLine_line_self]
      rfl
    · rw [if_neg fun h => off h.2, turnOnLine_on off]
  · rw [if_neg fun h => own h.1, turnOnLine_line_ne own]

theorem turnOnLine_cfg (p q : Port) (s : State) : (turnOnLine p s).cfg q = s.cfg q :=
  congrArg (fun v => (tget v q).config) (turnOnLine_frame p s).ports

/-- R115: the rails and the lines are on. -/
theorem turnRailsOn_marks (s : State) : (turnRailsOn s).rails = true ∧ (turnRailsOn s).linesOn = true := by
  refine forEach_keeps (I := fun u => u.rails = true ∧ u.linesOn = true) (fun p u ⟨rails, linesOn⟩ => ?_) allPorts
    ⟨rfl, rfl⟩
  split
  · exact ⟨(turnOnLine_frame p u).rails.trans rails, (turnOnLine_frame p u).linesOn.trans linesOn⟩
  · exact ⟨rails, linesOn⟩

theorem turnRailsOn_rate (q : Port) (s : State) : ((turnRailsOn s).line q).rate = (s.line q).rate := by
  refine forEach_keeps (I := fun u => (u.line q).rate = (s.line q).rate) (fun p u same => ?_) allPorts rfl
  split
  · exact (turnOnLine_rate p q u).trans same
  · exact same

/-- R115: the line of each enabled port drives a break, and no other line is on. -/
theorem turnRailsOn_tx {p : Port} {s : State} (off : (s.line p).tx = .off) :
    ((turnRailsOn s).line p).tx = if (s.cfg p).lineEnable = true then .breaking else .off := by
  have turned := forEach_own (V := fun u => ((u.line p).tx, u.cfg p)) (p := p)
    (f := fun q u => if (u.cfg q).lineEnable then turnOnLine q u else u)
    (fun q u ne => by
      split
      · rw [turnOnLine_line_ne ne.symm, turnOnLine_cfg]
      · rfl)
    (fun u v same => by
      obtain ⟨tx, cfg⟩ := Prod.mk.inj same
      rw [cfg]
      split
      · simp only [turnOnLine_tx, turnOnLine_cfg, tx, cfg]
      · exact same)
    (by decide) (mem_allPorts p) { s with rails := true, linesOn := true }
  refine (Prod.mk.inj turned).1.trans ?_
  change ((if (s.cfg p).lineEnable = true then turnOnLine p { s with rails := true, linesOn := true } else
    { s with rails := true, linesOn := true }).line p).tx = _
  split
  · rw [turnOnLine_tx]
    exact if_pos ⟨rfl, off⟩
  · exact off

/-! ## The mode leaves INIT (R113) -/

theorem raised_frame (s : State) : FinishFrame { s with mode := s.targetMode, initByLink := false } (raised s) := by
  unfold raised
  dsimp only
  split
  · exact (turnRailsOn_frame _).trans (opportunity_frame _).toFinishFrame
  · exact .refl _

theorem leaveInit_frame (s : State) : FinishFrame { s with mode := s.targetMode, initByLink := false } (leaveInit s) := by
  rw [leaveInit_eq]
  exact (raised_frame s).trans (postNotice_frame _ _).toSwitchFrame.toShedFrame.toFinishFrame

/-- R113: only the mark of an opportunity is new to the engine. -/
theorem leaveInit_engine (s : State) :
    (leaveInit s).engine = { s.engine with opportunity := (leaveInit s).engine.opportunity } := by
  have rails := (turnRailsOn_untouched { s with mode := s.targetMode, initByLink := false }).engine
  rw [leaveInit_eq, (postNotice_frame _ _).engine]
  unfold raised
  dsimp only
  generalize turnRailsOn { s with mode := s.targetMode, initByLink := false } = u at rails ⊢
  split
  · rw [opportunity, State.mapEngine_engine, rails]
  · rfl

/-- R113, R115: to STANDBY the rails and the lines stay as they are. -/
theorem leaveInit_standby {s : State} (standby : s.targetMode = .standby) :
    (leaveInit s).rails = s.rails ∧ (leaveInit s).linesOn = s.linesOn ∧ (leaveInit s).lines = s.lines := by
  have noted := postNotice_frame (.mode (raised s).mode (raised s).rails .resetEnd) (raised s)
  have raised : raised s = { s with mode := s.targetMode, initByLink := false } := by
    rw [Machine.raised]
    exact if_neg (by rw [standby]; nofun)
  rw [leaveInit_eq, noted.rails, noted.linesOn, noted.lines, raised]
  exact ⟨rfl, rfl, rfl⟩

/-- R113, R115: to RUN the rails and the lines of the enabled ports come up. -/
theorem leaveInit_run {s : State} (run : s.targetMode = .run) :
    (leaveInit s).rails = true ∧ (leaveInit s).linesOn = true ∧
      ∀ p, ((leaveInit s).line p).rate = (s.line p).rate ∧
        ((s.line p).tx = .off → ((leaveInit s).line p).tx = if (s.cfg p).lineEnable = true then .breaking else .off) := by
  have noted := postNotice_frame (.mode (raised s).mode (raised s).rails .resetEnd) (raised s)
  have raised : raised s = opportunity (turnRailsOn { s with mode := s.targetMode, initByLink := false }) := by
    rw [Machine.raised]
    exact if_pos run
  have marks := turnRailsOn_marks { s with mode := s.targetMode, initByLink := false }
  have lines := fun p => And.intro (turnRailsOn_rate p { s with mode := s.targetMode, initByLink := false })
    (turnRailsOn_tx (p := p) (s := { s with mode := s.targetMode, initByLink := false }))
  rw [leaveInit_eq]
  simp only [State.line, raised]
  generalize turnRailsOn { s with mode := s.targetMode, initByLink := false } = u at marks lines ⊢
  exact ⟨marks.1, marks.2, lines⟩

/-! ## The end of the handling (R64, R109, R116) -/

theorem announceChanges_line (s0 s : State) (p : Port) :
    ((announceChanges s0 s).line p).tx = (s.line p).tx ∧ ((announceChanges s0 s).line p).rate = (s.line p).rate := by
  refine forEach_keeps (I := fun u => (u.line p).tx = (s.line p).tx ∧ (u.line p).rate = (s.line p).rate)
    (fun q u h => ?_) _ ⟨rfl, rfl⟩
  split
  · rw [announcePort, queueStateRecord_tx, queueStateRecord_rate]
    exact h
  · exact h

/-- R109: without a wind-down the end of a handling leaves the rails, and of each line its transmitter and its rate. -/
theorem finish_lines_kept (s0 : State) {s : State} (none : ¬(s.mode = .standby ∧ s.rails = true)) :
    (finish s0 s).rails = s.rails ∧ (finish s0 s).linesOn = s.linesOn ∧
      ∀ p, ((finish s0 s).line p).tx = (s.line p).tx ∧ ((finish s0 s).line p).rate = (s.line p).rate := by
  have kept := beforeWindDown_powerKept s0 s
  have passed := ((runOpportunity_frame s).trans (updateOvercommit_frame _)).lines
  have line := announceChanges_line s0 (updateOvercommit (runOpportunity s))
  rw [finish_of_no_windDown s0 none]
  refine ⟨kept.rails, kept.linesOn, fun p => ?_⟩
  have same : (updateOvercommit (runOpportunity s)).line p = s.line p := congrArg (tget · p) passed
  rw [← same]
  exact line p

/-! ## The first pass (R75 to R77) -/

/-- R77: no port of a key below the candidate's is in the granted list. -/
theorem bump_of_no_lower {cand : Port} {s : State} (higher : ∀ q ∈ s.engine.granted, s.key q ≤ s.key cand) :
    bump cand s = s := by
  have none : s.bumpPool cand = [] := List.filter_eq_nil_iff.2 fun q listed => by
    simp [Nat.not_lt.2 (higher q listed)]
  unfold bump
  repeat' split
  · rfl
  · exact takeVictims_idle (.inr none) 8
  · rfl

theorem admitPort_key (p : Port) (s : State) : (admitPort p s).key = s.key := key_of_cfg (admitPort_frame p s).config

/-- R75, R76: a pass that finds in the granted list no key below the queue's admits ports and sheds none. -/
theorem passWalk_admits (l : List Port) :
    ∀ {s : State}, InKeyOrder s.key l → (∀ q ∈ s.engine.granted, ∀ x ∈ l, s.key q ≤ s.key x) →
      ∀ q, (passWalk l s).alloc q = s.alloc q ∨ (passWalk l s).alloc q = .starting := by
  induction l with
  | nil => exact fun _ _ _ => .inl rfl
  | cons p l ih =>
    intro s sorted higher q
    obtain ⟨first, rest⟩ := List.pairwise_cons.1 sorted
    have later : ∀ q ∈ s.engine.granted, ∀ x ∈ l, s.key q ≤ s.key x := fun q listed x mem =>
      higher q listed x (List.mem_cons_of_mem p mem)
    unfold passWalk
    repeat' split
    · exact ih rest later q
    · have admitted : (admitPort p s).alloc q = s.alloc q ∨ (admitPort p s).alloc q = .starting := by
        rw [State.alloc, admitPort_port]
        split
        · exact .inr rfl
        · exact .inl rfl
      have walked := ih (s := admitPort p s) (by rw [admitPort_key]; exact rest) (fun y listed x mem => by
        rw [(admitPort_lists p s).2, List.mem_append, List.mem_singleton] at listed
        rw [admitPort_key]
        rcases listed with old | rfl
        · exact later y old x mem
        · exact first x mem) q
      rcases walked with same | starting
      · rw [same]; exact admitted
      · exact .inr starting
    · rw [bump_of_no_lower fun q listed => higher q listed p List.mem_cons_self]
      exact .inl rfl
    · exact .inl rfl

theorem runOpportunity_admits {s : State} (sorted : InKeyOrder s.key s.engine.queue) (empty : s.engine.granted = [])
    (q : Port) :
    (runOpportunity s).alloc q = s.alloc q ∨ (runOpportunity s).alloc q = .starting := by
  unfold runOpportunity
  repeat' split
  · exact .inl rfl
  · exact passWalk_admits _ sorted (by rw [empty]; nofun) q
  · exact .inl rfl

end Sys2Proof.Machine
end

section
/-! The end of INIT (O7), last part: LOADING_COMPLETE as one handling. -/

namespace Sys2Proof.Machine

/-- R112, R126: in INIT every line is OFF. -/
theorem RailsAndLines.quiet {s : State} (h : RailsAndLines s) (init : s.mode = .init) :
    s.rails = false ∧ s.linesOn = false ∧ ∀ p, (s.line p).tx = .off := by
  obtain ⟨lines, mode⟩ := (railsAndLines_iff s).1 h
  have dark := mode.init init
  have unlit : s.linesOn = false := lines.together.symm.trans dark
  exact ⟨dark, unlit, fun p => (lines.off p).resolve_left (by simp [unlit])⟩

/-- The request a port has from its slot at the end of INIT, cut to its cap (R102, R158). -/
def State.coldRequest (s : State) (p : Port) : Nat :=
  min (loadedColdStart (tget s.store.slots (portSlot p))) (s.loadedCfg p).cap

/-- The port as the profiles leave it, before the engine prepares itself. -/
theorem Loaded.asks {s t : State} (h : Loaded s t) (p : Port) :
    tget t.store.coldStart p = loadedColdStart (tget s.store.slots (portSlot p)) ∧
      (t.cfg p).cap = (s.loadedCfg p).cap := by
  rw [h.store, State.cfg, h.port]
  exact ⟨by simp [loadedColdStarts, tget], rfl⟩

/-- R57, R108: the configuration is that of the slot, but for the parent of the first port of a cycle. -/
theorem Loaded.cfg {s t : State} (h : Loaded s t) (p : Port) :
    (FirstOfCycle s.loadedParent p → t.cfg p = { s.loadedCfg p with parent := none }) ∧
      (¬FirstOfCycle s.loadedParent p → t.cfg p = s.loadedCfg p) := by
  have cfg : t.cfg p = { s.loadedCfg p with parent := t.parentOf p } := congrArg PortRec.config (h.port p)
  refine ⟨fun first => ?_, fun other => ?_⟩
  · rw [cfg, h.cut p first]
  · rw [cfg, h.kept p other]
    rfl

/-- The state at the end of INIT, before the mode leaves it: `v` has the profiles loaded, `u` has the engine prepared. -/
structure Readied (s v u : State) : Prop where
  loaded : Loaded s v
  prepared : Prepared v u
  off : AllOff s
  dark : s.rails = false
  unlit : s.linesOn = false
  table : Table (leaveInit u)

theorem readied {s : State} (init : s.mode = .init) (consistent : AllocationConsistent s) (agree : RailsAndLines s) :
    Readied s (profilesLoaded s) (applyProfiles s) := by
  obtain ⟨table, off⟩ := (tableConsistent_iff s).1 consistent.1
  obtain ⟨dark, unlit, quiet⟩ := agree.quiet init
  have idle := table.allOff (off init)
  have loaded := profilesLoaded_loaded quiet
  have engine := loaded.engine
  have prepared : Prepared (profilesLoaded s) (prepareEngine (profilesLoaded s)) :=
    prepareEngine_prepared (by rw [engine]; exact idle.queue) (by rw [engine]; exact idle.granted)
  exact ⟨loaded, applyProfiles_eq s ▸ prepared, idle, dark, unlit, (table.applyProfiles (off init)).leaveInit⟩

/-! ## Before the mode leaves INIT -/

/-- R113 step 2: the target mode goes by the reset before and by the loaded power-up mode. -/
theorem Readied.targetMode {s v u : State} (h : Readied s v u) :
    (s.initByLink = true → u.targetMode = .standby) ∧
      (s.initByLink = false → (u.targetMode = .run ↔ s.loadedProfile.powerUp = .run)) := by
  have byLink : u.initByLink = s.initByLink := h.prepared.frame.initByLink.trans h.loaded.initByLink
  have powerUp : u.powerUp = s.loadedProfile.powerUp := h.prepared.frame.powerUp.trans h.loaded.powerUp
  unfold State.targetMode
  rw [byLink, powerUp]
  refine ⟨fun link => if_pos link, fun cold => ?_⟩
  rw [cold, if_neg Bool.false_ne_true]
  cases s.loadedProfile.powerUp <;> simp

theorem Readied.quiet {s v u : State} (h : Readied s v u) : u.rails = false ∧ u.linesOn = false ∧
    ∀ p, (u.line p).tx = .off ∧ (u.line p).rate = (s.loadedCfg p).lineRate := by
  have frame := h.prepared.frame
  refine ⟨frame.rails.trans (h.loaded.rails.trans h.dark), frame.linesOn.trans (h.loaded.linesOn.trans h.unlit),
    fun p => ?_⟩
  rw [State.line, frame.lines]
  exact h.loaded.line p

theorem Readied.cfg {s v u : State} (h : Readied s v u) (p : Port) : u.cfg p = v.cfg p := by
  rw [State.cfg, h.prepared.port]
  split <;> rfl

/-- R113: before the pass a port waits with its request, or is OFF as it was. -/
theorem Readied.port {s v u : State} (h : Readied s v u) (p : Port) :
    (leaveInit u).port p =
      if s.coldRequest p ≠ 0 then (v.port p).coldWaiting (loadedColdStart (tget s.store.slots (portSlot p)))
      else v.port p := by
  obtain ⟨coldStart, cap⟩ := h.loaded.asks p
  have port := h.prepared.port p
  rw [coldStart, cap] at port
  have same : (leaveInit u).port p = u.port p := congrArg (tget · p) (leaveInit_ports u)
  exact same.trans port

theorem Readied.off_port {s v u : State} (h : Readied s v u) (p : Port) : (v.port p).alloc = .off := by
  rw [h.loaded.port]
  exact h.off.off p

/-- R89: the ports with a cold-start request are the queue. -/
theorem Readied.mem_queue {s v u : State} (h : Readied s v u) (p : Port) :
    p ∈ (leaveInit u).engine.queue ↔ s.coldRequest p ≠ 0 := by
  rw [h.table.mem_queue, State.alloc, h.port]
  split
  · next asks => exact iff_of_true rfl asks
  · next none => exact iff_of_false (by rw [h.off_port]; nofun) none

theorem Readied.leaveInit_empty {s v u : State} (h : Readied s v u) : (leaveInit u).engine.granted = [] := by
  rw [leaveInit_engine]
  exact h.prepared.granted

theorem Readied.leaveInit_sorted {s v u : State} (h : Readied s v u) :
    (leaveInit u).engine.queue.Pairwise (KeyThen (leaveInit u).key (· < ·)) := by
  have key : (leaveInit u).key = u.key := key_of_cfg (leaveInit_frame u).config
  rw [key, leaveInit_engine]
  exact h.prepared.queue

/-! ## After it -/

theorem endInit_frame (s0 u : State) :
    FinishFrame { u with mode := u.targetMode, initByLink := false } (finish s0 (leaveInit u)) :=
  (leaveInit_frame u).trans (finish_frame s0 _)

/-- R66, R89, R113: the numbers of the engine and the held mark are as the engine prepared them. -/
theorem endInit_engine (s0 u : State) :
    (finish s0 (leaveInit u)).engine.numbers = u.engine.numbers ∧
      (finish s0 (leaveInit u)).engine.held = u.engine.held := by
  have engine := leaveInit_engine u
  generalize leaveInit u = w at engine ⊢
  rw [finish_numbers, finish_held, engine]
  exact ⟨rfl, rfl⟩

theorem finish_cfg (s0 s : State) (p : Port) : (finish s0 s).cfg p = s.cfg p := (finish_frame s0 s).config p

theorem finish_alloc (s0 s : State) (p : Port) : (finish s0 s).alloc p = (runOpportunity s).alloc p :=
  congrArg (fun v => (tget v p).alloc) (finish_ports s0 s).1

/-- R115: to RUN the rails and the lines of the enabled ports are on. -/
theorem Readied.run {s v u : State} (h : Readied s v u) (run : u.targetMode = .run) :
    (finish s (leaveInit u)).rails = true ∧ (finish s (leaveInit u)).linesOn = true ∧
      ∀ p, ((finish s (leaveInit u)).line p).rate = (s.loadedCfg p).lineRate ∧
        ((finish s (leaveInit u)).line p).tx =
          if ((finish s (leaveInit u)).cfg p).lineEnable = true then .breaking else .off := by
  obtain ⟨-, -, quiet⟩ := h.quiet
  have mode := leaveInit_mode u
  have left := leaveInit_run run
  have config : ∀ p, (leaveInit u).cfg p = u.cfg p := (leaveInit_frame u).config
  generalize leaveInit u = w at mode left config ⊢
  obtain ⟨rails, linesOn, line⟩ := left
  obtain ⟨keptRails, keptLines, kept⟩ := finish_lines_kept s (s := w) fun standby => by
    rw [mode, run] at standby
    exact absurd standby.1 nofun
  refine ⟨keptRails.trans rails, keptLines.trans linesOn, fun p => ?_⟩
  obtain ⟨tx, rate⟩ := kept p
  obtain ⟨off, slot⟩ := quiet p
  obtain ⟨sameRate, breaks⟩ := line p
  rw [finish_cfg, config]
  exact ⟨rate.trans (sameRate.trans slot), tx.trans (breaks off)⟩

/-- R115: to STANDBY the rails and every line stay off. -/
theorem Readied.standby {s v u : State} (h : Readied s v u) (standby : u.targetMode = .standby) :
    (finish s (leaveInit u)).rails = false ∧ (finish s (leaveInit u)).linesOn = false ∧
      ∀ p, ((finish s (leaveInit u)).line p).rate = (s.loadedCfg p).lineRate ∧
        ((finish s (leaveInit u)).line p).tx = .off := by
  obtain ⟨dark, unlit, quiet⟩ := h.quiet
  have left := leaveInit_standby standby
  generalize leaveInit u = w at left ⊢
  obtain ⟨rails, linesOn, lines⟩ := left
  obtain ⟨keptRails, keptLines, kept⟩ := finish_lines_kept s (s := w) fun standby => by
    rw [rails, dark] at standby
    exact absurd standby.2 nofun
  refine ⟨keptRails.trans (rails.trans dark), keptLines.trans (linesOn.trans unlit), fun p => ?_⟩
  obtain ⟨tx, rate⟩ := kept p
  obtain ⟨off, slot⟩ := quiet p
  have same : w.line p = u.line p := congrArg (tget · p) lines
  rw [same] at tx rate
  exact ⟨rate.trans slot, tx.trans off⟩

/-- R75, R89: a port with a cold-start request waits, or the first pass has started it. -/
theorem Readied.waits {s v u : State} (h : Readied s v u) {p : Port} (asks : s.coldRequest p ≠ 0) :
    ((finish s (leaveInit u)).port p).request = s.coldRequest p ∧
      ((finish s (leaveInit u)).port p).origin = some .profile ∧
      ((finish s (leaveInit u)).port p).clamped =
        decide ((s.loadedCfg p).cap < loadedColdStart (tget s.store.slots (portSlot p))) ∧
      ((finish s (leaveInit u)).alloc p = .waiting ∨ (finish s (leaveInit u)).alloc p = .starting) := by
  have cap : (v.port p).config.cap = (s.loadedCfg p).cap := (h.loaded.asks p).2
  have port := h.port p
  rw [if_pos asks] at port
  have empty := h.leaveInit_empty
  have sorted : InKeyOrder (leaveInit u).key (leaveInit u).engine.queue := h.leaveInit_sorted.imp fun order => order.le
  generalize leaveInit u = w at port empty sorted ⊢
  have kept := finish_frame s w
  have request : ((finish s w).port p).request = s.coldRequest p := by
    refine (kept.request p).trans ?_
    rw [port, State.coldRequest, ← cap]
    rfl
  have waiting : w.alloc p = .waiting := by
    rw [State.alloc, port]
    rfl
  refine ⟨request, ?_, (kept.clamped p).trans ?_, ?_⟩
  · refine (kept.origin p).elim (fun same => same.trans ?_) fun none => absurd (request.symm.trans none.1) asks
    rw [port]
    rfl
  · rw [port, ← cap]
    rfl
  · rw [finish_alloc, ← waiting]
    exact runOpportunity_admits sorted empty p

/-- R89, R102: a port without a request is OFF as it was, with its loaded configuration. -/
theorem Readied.rests {s v u : State} (h : Readied s v u) {p : Port} (none : s.coldRequest p = 0) :
    (finish s (leaveInit u)).port p = { s.port p with config := (finish s (leaveInit u)).cfg p } := by
  have port := h.port p
  rw [if_neg (not_not.2 none), h.loaded.port] at port
  have outside : p ∉ (leaveInit u).engine.queue := fun mem => (h.mem_queue p).1 mem none
  have off : (s.port p).alloc = .off := h.off.off p
  generalize leaveInit u = w at port outside ⊢
  have kept := finish_port_of_outside s port (by rw [PortRec.withParent, off]; rfl) outside
  rw [State.cfg, kept]
  rfl

/-- R74, R75, R102: in STANDBY, while held is yes, and without power the first pass starts nothing. -/
theorem Readied.quiet_pass {s v u : State} (h : Readied s v u)
    (quiet : u.targetMode = .standby ∨ u.engine.held = true ∨ u.engine.envelope = 0) :
    runOpportunity (leaveInit u) = (leaveInit u).mapEngine fun e => { e with opportunity := false } := by
  have table := h.table
  have mode := leaveInit_mode u
  have engine := leaveInit_engine u
  have empty := h.leaveInit_empty
  generalize leaveInit u = w at table mode engine empty ⊢
  rcases quiet with standby | held | zero
  · have skipped : admissionPass w = w :=
      admissionPass_skipped fun q _ => skips_of_forbidden (by rw [mode, standby]; rfl)
    cases arisen : w.engine.opportunity with
    | false => exact runOpportunity_idle w (.inr (.inr arisen))
    | true => rw [runOpportunity, if_pos arisen, skipped, ite_self]
  · exact runOpportunity_idle w (.inl (by rw [engine]; exact held))
  · exact table.runOpportunity_without_power empty (by rw [engine]; exact zero)

/-! ## What the end of INIT leaves, clause by clause -/

theorem Readied.mode_eq {s v u : State} (_ : Readied s v u) : (finish s (leaveInit u)).mode = u.targetMode :=
  (endInit_frame s u).mode

theorem Readied.initByLink_eq {s v u : State} (_ : Readied s v u) : (finish s (leaveInit u)).initByLink = false :=
  (endInit_frame s u).initByLink

theorem Readied.powerUp_eq {s v u : State} (h : Readied s v u) :
    (finish s (leaveInit u)).powerUp = s.loadedProfile.powerUp :=
  (endInit_frame s u).powerUp.trans (h.prepared.frame.powerUp.trans h.loaded.powerUp)

theorem Readied.sel_eq {s v u : State} (h : Readied s v u) : (finish s (leaveInit u)).sel = v.sel :=
  (endInit_frame s u).sel.trans h.prepared.frame.sel

theorem Readied.store_eq {s v u : State} (h : Readied s v u) :
    (finish s (leaveInit u)).store = { s.store with coldStart := loadedColdStarts s } :=
  (endInit_frame s u).store.trans (h.prepared.frame.store.trans h.loaded.store)

theorem Readied.cfg_eq {s v u : State} (h : Readied s v u) (p : Port) : (finish s (leaveInit u)).cfg p = v.cfg p :=
  ((endInit_frame s u).config p).trans (h.cfg p)

theorem Readied.coldStart_eq {s v u : State} (h : Readied s v u) (p : Port) :
    tget (finish s (leaveInit u)).store.coldStart p = loadedColdStart (tget s.store.slots (portSlot p)) := by
  have asked := (h.loaded.asks p).1
  rw [h.loaded.store] at asked
  rw [h.store_eq]
  exact asked

theorem Readied.line_rate {s v u : State} (h : Readied s v u) (p : Port) :
    ((finish s (leaveInit u)).line p).rate = (s.loadedCfg p).lineRate := by
  rcases u.targetMode_cases with run | standby
  · obtain ⟨-, -, line⟩ := h.run run
    exact (line p).1
  · obtain ⟨-, -, line⟩ := h.standby standby
    exact (line p).1

/-- R57, R89: the settings of the engine are those of slot 8. -/
theorem Readied.settings {s v u : State} (h : Readied s v u) :
    (finish s (leaveInit u)).engine.bodyReserve = s.loadedProfile.bodyReserve ∧
      (finish s (leaveInit u)).engine.restoreMargin = s.loadedProfile.restoreMargin ∧
      (finish s (leaveInit u)).engine.restoreHoldTime = s.loadedProfile.restoreHoldTime := by
  obtain ⟨-, reserve, margin, holdTime⟩ : _ ∧ _ ∧ _ ∧ _ := by
    simpa only [Engine.numbers, Prod.mk.injEq] using (endInit_engine s u).1
  rw [reserve, margin, holdTime, h.prepared.reserve, h.prepared.margin, h.prepared.holdTime, h.loaded.engine]
  exact ⟨rfl, rfl, rfl⟩

/-- R66, R67: a changeover holds the engine with its envelope; else the envelope is the new one. -/
theorem Readied.envelope {s v u : State} (h : Readied s v u) :
    ((finish s (leaveInit u)).sel.changeover.isSome = true →
      (finish s (leaveInit u)).engine.held = true ∧ (finish s (leaveInit u)).engine.envelope = s.engine.envelope) ∧
    ((finish s (leaveInit u)).sel.changeover = none →
      (finish s (leaveInit u)).engine.envelope = (finish s (leaveInit u)).newEnvelope) := by
  obtain ⟨numbers, held⟩ := endInit_engine s u
  obtain ⟨envelope, reserve, -⟩ : _ ∧ _ ∧ _ ∧ _ := by simpa only [Engine.numbers, Prod.mk.injEq] using numbers
  have sense := (endInit_frame s u).sense.trans h.prepared.frame.sense
  rw [held, envelope, newEnvelope_congr h.sel_eq sense (reserve.trans h.prepared.reserve), h.sel_eq]
  refine ⟨fun changing => ?_, h.prepared.envelope⟩
  obtain ⟨held, same⟩ := h.prepared.held changing
  rw [same, h.loaded.engine]
  exact ⟨held, rfl⟩

theorem newEnvelope_of_no_source {s : State} (none : s.sel.active = none) : s.newEnvelope = 0 := by
  rw [State.newEnvelope, none]

/-- R60, R89: where the first pass starts nothing, the queue is the ports with a request, by key and port number. -/
theorem Readied.lists {s v u : State} (h : Readied s v u)
    (quiet : (finish s (leaveInit u)).mode = .standby ∨ (finish s (leaveInit u)).engine.held = true ∨
      (finish s (leaveInit u)).sel.active = none) :
    (finish s (leaveInit u)).engine.granted = [] ∧
      (∀ p, p ∈ (finish s (leaveInit u)).engine.queue ↔ s.coldRequest p ≠ 0) ∧
      (finish s (leaveInit u)).engine.queue.Pairwise (KeyThen (finish s (leaveInit u)).key (· < ·)) := by
  have idle : u.targetMode = .standby ∨ u.engine.held = true ∨ u.engine.envelope = 0 := by
    rw [h.mode_eq, (endInit_engine s u).2, h.sel_eq] at quiet
    rcases quiet with standby | held | none
    · exact .inl standby
    · exact .inr (.inl held)
    · cases changing : v.sel.changeover with
      | none => exact .inr (.inr ((h.prepared.envelope changing).trans (newEnvelope_of_no_source none)))
      | some _ => exact .inr (.inl (h.prepared.held (by rw [changing]; rfl)).1)
  have passed := h.quiet_pass idle
  have members := h.mem_queue
  have sorted := h.leaveInit_sorted
  have empty := h.leaveInit_empty
  generalize leaveInit u = w at passed members sorted empty ⊢
  obtain ⟨queue, granted, -⟩ := finish_lists s w
  have key : (finish s w).key = w.key := key_of_cfg (finish_cfg s w)
  rw [passed] at queue granted
  rw [granted, queue, key]
  exact ⟨empty, members, sorted⟩

/-- The chain of parents that the obligation follows is the model's own, and so is the first port of a cycle. -/
theorem firstOfCycle_iff (s : State) (p : Port) :
    ((∃ n : Nat, (fun o : Option Port => o.bind fun r => (s.loadedCfg r).parent)^[n + 1] (some p) = some p) ∧
      ∀ (m : Nat) (q : Port), (fun o : Option Port => o.bind fun r => (s.loadedCfg r).parent)^[m] (some p) = some q →
        p ≤ q) ↔ FirstOfCycle s.loadedParent p := by
  have up := fun n => iterate_parent s.loadedParent n p
  unfold FirstOfCycle
  simp only [← up]
  rfl

theorem exec_loadingComplete {s : State} (init : s.mode = .init) (notHeld : s.resetHeld = false) :
    exec .loadingComplete s = .next (finish s (leaveInit (applyProfiles s))) := by
  have loads : execLoadingComplete s = .next (endInit s) := by rw [execLoadingComplete, if_pos ⟨init, notHeld⟩]
  rw [endInit] at loads
  exact loads

end Sys2Proof.Machine

open Sys2Proof Sys2Proof.Machine

/-- Settles O7: the profiles are loaded with every line OFF and no port in a list, the engine queues the cold starts, the
mode leaves INIT, and the first pass has no port to shed. -/
theorem loadingCompleteEndsInit : Obligations.LoadingCompleteEndsInit := by
  intro s init notHeld consistent agree
  have ready := readied init consistent agree
  refine ⟨finish s (leaveInit (applyProfiles s)), exec_loadingComplete init notHeld, ?_⟩
  generalize applyProfiles s = u at ready ⊢
  generalize profilesLoaded s = v at ready
  obtain ⟨byLink, cold⟩ := ready.targetMode
  obtain ⟨reserve, margin, holdTime⟩ := ready.settings
  obtain ⟨changing, settled⟩ := ready.envelope
  have mode := ready.mode_eq
  have link := ready.initByLink_eq
  have powerUp := ready.powerUp_eq
  have run := ready.run
  have standby := ready.standby
  have waits := fun p => ready.waits (p := p)
  have rests := fun p => ready.rests (p := p)
  have lists := ready.lists
  have cfg := ready.cfg_eq
  have rate := ready.line_rate
  have asked := ready.coldStart_eq
  have store := ready.store_eq
  have sel := ready.sel_eq
  generalize finish s (leaveInit u) = t at *
  refine ⟨fun reset => mode.trans (byLink reset), fun power => ?_, fun on => ?_, fun off => ?_, link, ?_, powerUp, ?_,
    reserve, margin, holdTime, fun p => ⟨fun first => ?_, fun other => ?_, rate p, asked p⟩, ?_, fun x _ => ?_,
    changing, settled, fun p => ?_, ?_⟩
  · rw [mode]
    exact ⟨u.targetMode_cases.symm, cold power⟩
  · obtain ⟨rails, linesOn, line⟩ := run (mode.symm.trans on)
    exact ⟨rails, linesOn, fun p => (line p).2⟩
  · obtain ⟨rails, linesOn, line⟩ := standby (mode.symm.trans off)
    exact ⟨rails, linesOn, fun p => (line p).2⟩
  · rw [sel]
    exact ready.loaded.loaded
  · rw [sel]
    exact ready.loaded.settings
  · rw [cfg]
    exact (ready.loaded.cfg p).1 ((firstOfCycle_iff s p).1 first)
  · rw [cfg]
    exact (ready.loaded.cfg p).2 fun first => other ((firstOfCycle_iff s p).2 first)
  · rw [store]
  · rw [source_of_sel sel, ready.loaded.config]
    cases x <;> rfl
  · dsimp only
    rw [asked]
    exact ⟨rests p, waits p⟩
  · simp only [asked]
    exact lists

end

section
/-! The accessory lines, first part: the timers of a microsecond (O3), and the events of a line's receiver and the timers of
its transmitter (O32). -/

namespace Sys2Proof.Machine

/-! ## A receiver that listens (R126, R130) -/

theorem LineTx.deaf_eq_false_iff (t : LineTx) : t.deaf = false ↔ t ≠ .sending ∧ t ≠ .breaking := by
  cases t <;> simp [deaf]

theorem LineRec.listens_iff (l : LineRec) :
    l.listens = true ↔ l.rx ≠ .off ∧ l.tx ≠ .sending ∧ l.tx ≠ .breaking := by
  simp [listens, LineTx.deaf_eq_false_iff]

/-! ## The idle time at the end of an event (R130) -/

/-- R130: an event that leaves line `p` as `l`, with the line low behind it. -/
theorem holdLow_setLine (p : Port) (l : LineRec) (s : State) :
    holdLow p (s.setLine p l) =
      { s with
        choices := s.choices + 1
        lines := tput s.lines p { l with idle := 0, low := Config.lowTime s.choices } } := by
  rw [holdLow, State.setLine_setLine, State.setLine_line_self]
  rfl

/-- R130: an event that leaves line `p` as `l`, with the line high behind it. -/
theorem countIdle_setLine (p : Port) (bound : Nat) (l : LineRec) (s : State) :
    countIdle p bound (s.setLine p l) =
      { s with
        choices := s.choices + 1
        lines := tput s.lines p { l with idle := min bound (Config.idleSeen s.choices), low := 0 } } := by
  rw [countIdle, State.setLine_setLine, State.setLine_line_self]
  rfl

/-! ## A microsecond -/

theorem tick_of_held {s : State} (held : s.resetHeld = true) : tick s = s := if_pos held

theorem tick_channel {s : State} (running : s.resetHeld = false) (c : SendNo) :
    (tick s).channel c = (s.channel c).map tickSend := by
  simp [tick, running, State.channel]

/-- A microsecond writes the records that hold a timer, and the counter of the free values. -/
theorem tick_only {s : State} (running : s.resetHeld = false) :
    tick s =
      { s with
        sel :=
          { s.sel with
            sa := (tick s).sel.sa
            sb := (tick s).sel.sb
            sd := (tick s).sel.sd
            changeover := s.sel.changeover.map (fun c => { c with remaining := c.remaining - 1 }) }
        switches := (tick s).switches
        ports := (tick s).ports
        engine := { s.engine with restoreHold := s.engine.restoreHold.map (fun n => n - 1) }
        lines := (tick s).lines
        channels := (tick s).channels
        link := { s.link with gap := s.link.gap.map (fun n => n - 720 / s.link.rxDivisor.value) }
        choices := s.choices + 1 } := by
  simp only [tick, running, Bool.false_eq_true, if_false]
  rfl

/-- R36, R40, R47 to R49: the time a switch counts, state by state. -/
theorem tickSwitch_eq (w : SwitchRec) :
    tickSwitch w =
      { w with
        filter := w.filter.map (fun n => min (n + 1) 64)
        state :=
          match w.state with
          | .opened => .opened
          | .ramping r e => .ramping r (min (e + 1) (2 * r.millis * 1000))
          | .paused r e => .paused r e
          | .closed n => .closed (min (n + 1) 1000000)
          | .cooling (.wait n) len => .cooling (.wait (n - 1)) len
          | .cooling .due len => .cooling .due len
          | .cooling (.reclose n) len => .cooling (.reclose (n - 1)) len } := by
  rcases w with ⟨_ | _ | _ | _ | ⟨_ | _ | _, _⟩, _⟩ <;> rfl

/-- R148: only the wait of a channel runs. -/
theorem tickSend_eq (x : Send) :
    tickSend x =
      { x with
        stage :=
          match x.stage with
          | .waiting n => .waiting (n - 1)
          | .onLine => .onLine } := by
  rcases x with ⟨_, _, _, _, _ | _, _⟩ <;> rfl

/-- R130: the idle time runs on a line that is listened to, with no character in progress, and high. -/
theorem LineRec.idles_iff (l : LineRec) :
    l.idles = true ↔
      l.rx ≠ .off ∧ l.tx ≠ .sending ∧ l.tx ≠ .breaking ∧ l.charInProgress = false ∧ l.low = 0 := by
  simp [idles, listens_iff, and_assoc]

/-- R128, R133, R134: the timers of a line but for its idle time. -/
theorem tickLine_timers (edge : Option Nat) (l : LineRec) :
    tickLine edge l =
      { l with
        gap := l.gap.map (fun n => n - lineUnits l.rate)
        breakRemaining := l.breakRemaining.map (fun n => n - lineUnits l.rate)
        backoff := l.backoff.map (fun n => n - lineUnits l.rate)
        idle := (tickLine edge l).idle
        low := (tickLine edge l).low } := by
  unfold tickLine
  dsimp only
  split
  · cases edge <;> rfl
  · rfl

/-- R130: the idle time of a line that is high runs to 2 character times, or restarts at an edge. -/
theorem tickLine_of_idles {edge : Option Nat} {l : LineRec} (idles : l.idles = true) (high : l.low = 0) :
    ((tickLine edge l).idle = min (l.idle + lineUnits l.rate) (2 * 6875) ∧ (tickLine edge l).low = 0) ∨
      (tickLine edge l).idle = 0 := by
  rw [tickLine, if_pos idles]
  cases edge with
  | none => exact .inl ⟨rfl, high⟩
  | some n => exact .inr rfl

theorem tickLine_of_not_idles {edge : Option Nat} {l : LineRec} (still : ¬l.idles = true) :
    (tickLine edge l).idle = l.idle ∧ (tickLine edge l).low = l.low - lineUnits l.rate := by
  rw [tickLine, if_neg still]
  exact ⟨rfl, rfl⟩

end Sys2Proof.Machine

open Sys2Proof Sys2Proof.Machine

/-- Settles O3, timer by timer. -/
theorem idleStepMovesOnlyTimers : Obligations.IdleStepMovesOnlyTimers := by
  intro s empty
  have ticks : step s = .next (tick s) := by rw [step, empty]
  refine ⟨fun held => by rw [ticks, tick_of_held held], fun running => ⟨tick s, ticks, tick_only running, ?_⟩⟩
  obtain ⟨port, switch, -⟩ := tick_parts running
  refine ⟨fun x _ => tick_source s running x, port, fun p => (switch p).trans (tickSwitch_eq _), fun p => ?_,
    fun c => ?_⟩
  · rw [tick_line p s running]
    exact ⟨tickLine_timers _ _,
      fun counts => tickLine_of_idles ((LineRec.idles_iff _).2 counts) counts.2.2.2.2,
      fun still => tickLine_of_not_idles (mt (LineRec.idles_iff _).1 still)⟩
  · exact (tick_channel running c).trans (congrArg (fun f => (s.channel c).map f) (funext tickSend_eq))

namespace Sys2Proof.Machine

/-! ## The receiver's events (R123 to R125, R128) -/

theorem exec_lineValidStart_of_listens {p : Port} {s : State} (h : (s.line p).listens = true) :
    exec (.lineValidStart p) s =
      .next (s.setLine p { s.line p with charInProgress := true, gap := none, idle := 0, low := 0 }) :=
  congrArg Host.Outcome.next (if_pos h)

theorem exec_lineBreak_of_listens {p : Port} {s : State} (h : (s.line p).listens = true) :
    exec (.lineBreak p) s =
      .next (holdLow p (s.setLine p { ((s.line p).hunt.note .breakSeen) with charInProgress := false })) :=
  congrArg Host.Outcome.next (if_pos h)

theorem exec_pendingRateInForce {p : Port} {r : LineRate} {s : State} (pending : (s.line p).pendingRate = some r)
    (hunt : (s.line p).rx = .hunt) (quiet : (s.line p).charInProgress = false) (silent : (s.line p).tx.deaf = false) :
    exec (.pendingRateInForce p) s =
      .next
        (s.setLine p
          { s.line p with
            rate := r
            pendingRate := none
            idle := 0
            backoff := (s.line p).backoff.map (fun _ => backoffTime p) }) := by
  simp only [exec, execPendingRateInForce, pending]
  rw [if_pos ⟨hunt, quiet, silent⟩]

/-! ## The transmitter's timers (R130, R133, R134) -/

theorem exec_breakEnd {p : Port} {s : State} (breaking : (s.line p).tx = .breaking)
    (ended : (s.line p).breakRemaining = some 0) :
    exec (.breakEnd p) s = .next (holdLow p (s.setLine p { s.line p with tx := .idle, breakRemaining := none })) :=
  congrArg Host.Outcome.next (if_pos ⟨breaking, ended⟩)

theorem exec_backoffStart {p : Port} {s : State} (backoff : (s.line p).tx = .backoff)
    (absent : (s.line p).backoff = none) (idle : Config.lineIdle ≤ (s.line p).idle) :
    exec (.backoffStart p) s = .next (s.setLine p { s.line p with backoff := some (backoffTime p) }) :=
  congrArg Host.Outcome.next (if_pos ⟨backoff, absent, idle⟩)

theorem exec_backoffStart_early {p : Port} {s : State}
    (early : ¬((s.line p).tx = .backoff ∧ (s.line p).backoff = none ∧ Config.lineIdle ≤ (s.line p).idle)) :
    exec (.backoffStart p) s = .next s := congrArg Host.Outcome.next (if_neg early)

theorem exec_backoffExpiry {p : Port} {s : State} (backoff : (s.line p).tx = .backoff)
    (ended : (s.line p).backoff = some 0) :
    exec (.backoffExpiry p) s = .next (s.setLine p { s.line p with tx := .idle, backoff := none }) :=
  congrArg Host.Outcome.next (if_pos ⟨backoff, ended⟩)

end Sys2Proof.Machine

/-- Settles O32, event by event: each as its row says where the event can occur, and nothing elsewhere. -/
theorem lineEventsMoveTheLineAlone : Obligations.LineEventsMoveTheLineAlone := by
  intro p s l becomes listens
  have heard : l.listens = true ↔ listens := LineRec.listens_iff l
  refine ⟨fun on => exec_lineValidStart_of_listens (heard.2 on), fun on => ?_, fun off => ?_, fun ended => ?_,
    fun early => ?_, fun r pending hunt quiet notSending notBreaking => ?_, fun absent => ?_, fun breaking ended => ?_,
    fun backoff absent => ⟨fun idle => exec_backoffStart backoff absent idle, fun busy => ?_⟩, fun backoff running => ?_,
    fun backoff ended => exec_backoffExpiry backoff ended, fun early => ?_, fun other => ?_, fun early => ?_⟩
  · exact ⟨_, by rw [exec_lineBreak_of_listens (heard.2 on), holdLow_setLine]; rfl⟩
  · have deaf : ¬l.listens = true := mt heard.1 off
    exact ⟨congrArg Host.Outcome.next (if_neg deaf), congrArg Host.Outcome.next (if_neg deaf)⟩
  · exact congrArg Host.Outcome.next (if_pos ended)
  · exact congrArg Host.Outcome.next (if_neg early)
  · have silent := (LineTx.deaf_eq_false_iff l.tx).2 ⟨notSending, notBreaking⟩
    have full : l.backoff.map (fun _ => backoffTime p) =
        if l.backoff.isSome = true then some ((4 + 2 * p.val) * 6875) else none := by cases l.backoff <;> rfl
    show exec _ s = _
    rw [exec_pendingRateInForce pending hunt quiet silent, full]
    rfl
  · have idle : execPendingRateInForce p s = .next s := by rw [execPendingRateInForce, absent]
    exact idle
  · exact ⟨_, by rw [exec_breakEnd breaking ended, holdLow_setLine]⟩
  · exact exec_backoffStart_early fun ⟨_, _, idle⟩ => absurd idle (Nat.not_le.2 busy)
  · exact exec_backoffStart_early fun ⟨_, absent, _⟩ => by rw [absent] at running; cases running
  · exact congrArg Host.Outcome.next (if_neg fun ⟨breaking, ended⟩ => early.elim (· breaking) (· ended))
  · exact exec_backoffStart_early fun ⟨backoff, _⟩ => other backoff
  · exact congrArg Host.Outcome.next (if_neg fun ⟨backoff, ended⟩ => early.elim (· backoff) (· ended))

end

section
/-! The accessory lines, second part: the start of a record, the item it sends and its bits on AL (O33), and the end of an
attempt (O34). -/

namespace Sys2Proof.Machine

/-! ## The item to send (R130, R131) -/

theorem LineRec.mayStart_iff (l : LineRec) :
    l.mayStart = true ↔
      (l.tx = .idle ∧ l.rx = .hunt ∧ l.charInProgress = false ∧ 13750 ≤ l.idle) ∧ l.hasItem = true := by
  have idle : Config.lineIdle = 13750 := rfl
  simp only [mayStart, Bool.and_eq_true, beq_iff_eq, decide_eq_true_eq, Bool.not_eq_true', idle]
  tauto

theorem LineRec.hasItem_iff (l : LineRec) :
    l.hasItem = false ↔
      l.current = none ∧ l.pendingInternal = none ∧ l.setAside = none ∧ l.waitList = [] := by
  simp [hasItem, and_assoc]

theorem LineRec.hasItem_of {l : LineRec}
    (item : ¬(l.current = none ∧ l.pendingInternal = none ∧ l.setAside = none ∧ l.waitList = [])) : l.hasItem = true :=
  Bool.eq_true_of_not_eq_false (mt (hasItem_iff l).1 item)

theorem LineRec.choose_internal {l : LineRec} {r : StateRecord} (current : l.current = some (.internal r)) :
    l.choose = (l, none) := by simp only [choose, current]

theorem LineRec.choose_channel {l : LineRec} {c : SendNo} (current : l.current = some (.channel c))
    (pending : l.pendingInternal = none) : l.choose = (l, none) := by simp only [choose, current, pending]

theorem LineRec.choose_gives_way {l : LineRec} {c : SendNo} {r : StateRecord} (current : l.current = some (.channel c))
    (pending : l.pendingInternal = some r) :
    l.choose = ({ (l.chooseInternal r) with setAside := some ⟨c, l.collisions⟩ }, none) := by
  simp only [choose, current, pending]

theorem LineRec.choose_pending {l : LineRec} {r : StateRecord} (current : l.current = none)
    (pending : l.pendingInternal = some r) : l.choose = (l.chooseInternal r, none) := by
  simp only [choose, current, pending]

theorem LineRec.choose_setAside {l : LineRec} {a : SetAside} (current : l.current = none)
    (pending : l.pendingInternal = none) (kept : l.setAside = some a) :
    l.choose =
      ({ l with current := some (.channel a.channel), collisions := a.collisions, setAside := none }, none) := by
  simp only [choose, current, pending, kept]

theorem LineRec.choose_waiting {l : LineRec} {c : SendNo} {rest : List SendNo} (current : l.current = none)
    (pending : l.pendingInternal = none) (kept : l.setAside = none) (waits : l.waitList = c :: rest) :
    l.choose = ({ l with current := some (.channel c), collisions := 0, waitList := rest }, some c) := by
  simp only [choose, current, pending, kept, waits]

/-- R130: a record starts with the item that is chosen. -/
theorem exec_recordStart {p : Port} {s : State} {m : LineRec} {told : Option SendNo}
    (may : (s.line p).mayStart = true) (chosen : (s.line p).choose = (m, told)) :
    exec (.recordStart p) s =
      .next
        (tellStarted told (s.setLine p { m with tx := .sending, record := s.itemChars m.current, idle := 0 })) := by
  have starts : exec (.recordStart p) s = .next (startRecord p s) := congrArg Host.Outcome.next (if_pos may)
  rw [starts, startRecord, chosen]

theorem exec_recordStart_of_not {p : Port} {s : State} (may : ¬(s.line p).mayStart = true) :
    exec (.recordStart p) s = .next s := congrArg Host.Outcome.next (if_neg may)

/-! ## The bits of a record (R123, R130) -/

theorem lineCharBits_length (mark : Bool) (b : Byte) : (lineCharBits mark b).length = 11 := rfl

/-- R130: without a gap between them, the bits of character `i` stand from place `11 * i`. -/
theorem flatMap_lineCharBits_getElem? {mark : Bool} {l : List Byte} {i : Nat} {b : Byte} (place : l[i]? = some b)
    {j : Nat} (hj : j < 11) : (l.flatMap (lineCharBits mark))[11 * i + j]? = (lineCharBits mark b)[j]? := by
  induction l generalizing i with
  | nil => cases place
  | cons x l ih =>
    rw [List.flatMap_cons]
    cases i with
    | zero =>
      obtain rfl : x = b := Option.some.inj place
      rw [Nat.mul_zero, Nat.zero_add, List.getElem?_append_left (by rw [lineCharBits_length]; exact hj)]
    | succ i =>
      rw [List.getElem?_append_right (by rw [lineCharBits_length]; omega), lineCharBits_length, ← ih place]
      congr 1
      omega

theorem recordBits_getElem? {l : List Byte} {i : Nat} {b : Byte} (place : l[i]? = some b) {j : Nat} (hj : j < 11) :
    (recordBits l)[11 * i + j]? = (lineCharBits (decide (i = 0)) b)[j]? := by
  cases l with
  | nil => cases place
  | cons kind l =>
    rw [recordBits]
    cases i with
    | zero =>
      obtain rfl : kind = b := Option.some.inj place
      rw [Nat.mul_zero, Nat.zero_add, List.getElem?_append_left (by rw [lineCharBits_length]; exact hj)]
      rfl
    | succ i =>
      rw [List.getElem?_append_right (by rw [lineCharBits_length]; omega), lineCharBits_length,
        show 11 * (i + 1) + j - 11 = 11 * i + j by omega, flatMap_lineCharBits_getElem? (l := l) place hj]
      rfl

theorem recordBits_length (l : List Byte) : (recordBits l).length = 11 * l.length := by
  cases l with
  | nil => rfl
  | cons kind l =>
    simp only [recordBits, List.length_append, lineCharBits_length, List.length_flatMap, List.map_const',
      List.sum_replicate, List.length_cons, smul_eq_mul]
    omega

theorem LineRec.released_of_sending {l : LineRec} (sending : l.tx = .sending) (n : Nat) :
    l.released n = (recordBits l.record)[n]?.getD true := by
  rw [released, sending]
  exact List.getD_eq_getElem?_getD

/-- R123: the bits of a character of the record being sent. -/
theorem LineRec.released_char {l : LineRec} (sending : l.tx = .sending) {i : Nat} {b : Byte}
    (place : l.record[i]? = some b) {j : Nat} (hj : j < 11) :
    l.released (11 * i + j) = (lineCharBits (decide (i = 0)) b)[j]?.getD true := by
  rw [released_of_sending sending, recordBits_getElem? place hj]

theorem lineCharBits_data (mark : Bool) (b : Byte) {k : Nat} (hk : k < 8) :
    (lineCharBits mark b)[1 + k]?.getD true = b.getLsbD k := by
  interval_cases k <;> rfl

end Sys2Proof.Machine

open Sys2Proof Sys2Proof.Machine

/-- Settles O33, by where the item comes from; the bits on AL character by character. -/
theorem recordStartChoosesTheItem : Obligations.RecordStartChoosesTheItem := by
  intro p s l ready sends
  have may : ready → ¬(l.current = none ∧ l.pendingInternal = none ∧ l.setAside = none ∧ l.waitList = []) →
      l.mayStart = true := fun idle item => (LineRec.mayStart_iff l).2 ⟨idle, LineRec.hasItem_of item⟩
  have byCurrent : ∀ i, ready → l.current = some i → l.mayStart = true := fun i idle current =>
    may idle fun ⟨absent, _⟩ => by rw [absent] at current; cases current
  refine ⟨fun r idle current => ?_, fun c idle current pending => ?_, fun c r idle current pending => ?_,
    fun r idle current pending => ?_, fun a idle current pending kept => ?_,
    fun c rest x idle current pending kept waits busy => ?_, fun still => ?_, fun sending i b place => ?_,
    fun sending n after => ?_, fun n => ⟨fun breaking => ?_, fun notBreaking notSending => ?_⟩⟩
  · show exec _ s = _
    rw [exec_recordStart (byCurrent _ idle current) (LineRec.choose_internal current), current]
    rfl
  · show exec _ s = _
    rw [exec_recordStart (byCurrent _ idle current) (LineRec.choose_channel current pending), current]
    rfl
  · exact exec_recordStart (byCurrent _ idle current) (LineRec.choose_gives_way current pending)
  · exact exec_recordStart (may idle (by simp [pending])) (LineRec.choose_pending current pending)
  · exact exec_recordStart (may idle (by simp [kept])) (LineRec.choose_setAside current pending kept)
  · have body : s.sendBody c = x.body := by rw [State.sendBody, busy]
    rw [exec_recordStart (may idle (by simp [waits])) (LineRec.choose_waiting current pending kept waits)]
    simp only [tellStarted, sendStarted, State.setLine_channel, busy, State.itemChars, body]
    rfl
  · refine exec_recordStart_of_not fun starts => ?_
    obtain ⟨idle, item⟩ := (LineRec.mayStart_iff _).1 starts
    rcases still with busy | empty
    · exact busy idle
    · rw [(LineRec.hasItem_iff _).2 empty] at item
      cases item
  · refine ⟨LineRec.released_char sending place (j := 0) (by omega), fun k hk => ?_,
      LineRec.released_char sending place (j := 9) (by omega), LineRec.released_char sending place (j := 10) (by omega)⟩
    rw [Nat.add_assoc, LineRec.released_char sending place (by omega), lineCharBits_data _ b hk]
  · rw [LineRec.released_of_sending sending, List.getElem?_eq_none (by rw [recordBits_length]; exact after)]
    rfl
  · rw [LineRec.released, breaking]
  · show l.released n = true
    unfold LineRec.released
    split
    · next breaking => exact absurd breaking notBreaking
    · next sending => exact absurd sending notSending
    all_goals rfl

namespace Sys2Proof.Machine

/-! ## The end of an attempt (R130, R133) -/

/-- R130: a record has been sent. -/
theorem exec_recordSent {p : Port} {s : State} (sending : (s.line p).tx = .sending) :
    exec (.recordSent p) s =
      .next
        (reportItem (s.line p).current .delivered
          { s with
            choices := s.choices + 1
            lines :=
              tput s.lines p { (s.line p).itemDone with idle := min 625 (Config.idleSeen s.choices), low := 0 } }) := by
  rw [← show Config.bitUnit = 625 from rfl, ← countIdle_setLine]
  exact congrArg Host.Outcome.next (if_pos sending)

/-- R133: the fourth collision of an item. -/
theorem exec_collision_last {p : Port} {s : State} (sending : (s.line p).tx = .sending)
    (last : (s.line p).collisions + 1 = 4) :
    exec (.collision p) s =
      .next
        (reportItem (s.line p).current .collided
          { s with
            choices := s.choices + 1
            lines :=
              tput s.lines p
                { ((s.line p).itemDone.note .collisionFail) with idle := 0, low := Config.lowTime s.choices } }) := by
  have collides : exec (.collision p) s = .next (collide p s) := congrArg Host.Outcome.next (if_pos sending)
  rw [collides, ← holdLow_setLine]
  exact congrArg Host.Outcome.next (if_pos last)

/-- R133: a collision before the fourth. -/
theorem exec_collision_early {p : Port} {s : State} (sending : (s.line p).tx = .sending)
    (early : (s.line p).collisions + 1 ≠ 4) :
    exec (.collision p) s =
      .next
        { s with
          choices := s.choices + 1
          lines := tput s.lines p { (s.line p).backOff with idle := 0, low := Config.lowTime s.choices } } := by
  have collides : exec (.collision p) s = .next (collide p s) := congrArg Host.Outcome.next (if_pos sending)
  rw [collides, ← holdLow_setLine]
  exact congrArg Host.Outcome.next (if_neg early)

end Sys2Proof.Machine

/-- Settles O34, by the item: only a channel is told how its attempt ended. -/
theorem attemptsEndInDeliveryOrCollision : Obligations.AttemptsEndInDeliveryOrCollision := by
  intro p s sending l done sent failed
  have within : min 625 (Config.idleSeen s.choices) ≤ 625 := Nat.min_le_left _ _
  refine ⟨fun r current => ⟨⟨_, within, ?_⟩, fun last => ⟨Config.lowTime s.choices, ?_⟩⟩,
    fun c current => ⟨⟨_, within, ?_⟩, fun last => ⟨Config.lowTime s.choices, ?_⟩⟩,
    fun early => ⟨_, exec_collision_early sending early⟩⟩
  · rw [exec_recordSent sending, current]
    rfl
  · rw [exec_collision_last sending last, current]
    rfl
  · rw [exec_recordSent sending, current]
    rfl
  · rw [exec_collision_last sending last, current]
    rfl

end

section
/-! The accessory lines, third part: what the receiver does with each character, and the reception of a whole record (O35;
R123, R124, R126 to R129). -/

namespace Sys2Proof.Machine

/-! ## The data byte of a character (R123, R124) -/

theorem testBit_foldr_votes (l : List Vote) (k : Nat) :
    (l.foldr (fun v n => (voteLevel v).toNat + 2 * n) 0).testBit k = (l[k]?.map voteLevel).getD false := by
  induction l generalizing k with
  | nil => exact Nat.zero_testBit k
  | cons v l ih =>
    have bits : ∀ n, (voteLevel v).toNat + 2 * n = Nat.bit (voteLevel v) n := fun n => by
      rw [Nat.bit_val, Nat.add_comm]
    rw [List.foldr_cons, bits]
    cases k with
    | zero => exact Nat.testBit_bit_zero _ _
    | succ k => exact (Nat.testBit_bit_succ _ _ _).trans (ih k)

theorem dataByte_getLsbD (v : Vector Vote 8) (k : Fin 8) : (dataByte v).getLsbD k.val = voteLevel (v.get k) := by
  have place : v.toList[k.val]? = some (v.get k) := by
    rw [List.getElem?_eq_getElem (by simp)]
    rfl
  rw [dataByte, byte, BitVec.getLsbD_ofNat, testBit_foldr_votes, place]
  simp

/-- R123: the data byte is the byte whose bits are the votes. -/
theorem dataByte_eq {v : Vector Vote 8} {d : Byte} (bits : ∀ k : Fin 8, d.getLsbD k.val = voteLevel (v.get k)) :
    dataByte v = d :=
  BitVec.eq_of_getLsbD_eq fun k hk => (dataByte_getLsbD v ⟨k, hk⟩).trans (bits ⟨k, hk⟩).symm

theorem voteLevel_clean (b : Bool) : voteLevel (cleanVote b) = b := by cases b <;> rfl

theorem voteNoisy_clean (b : Bool) : voteNoisy (cleanVote b) = false := by cases b <;> rfl

theorem dataByte_clean (b : Byte) : dataByte (cleanData b) = b := dataByte_eq fun k => by
  have place : (cleanData b).get k = cleanVote (b.getLsbD k.val) := by fin_cases k <;> rfl
  rw [place, voteLevel_clean]

theorem charNoise_clean (b : Byte) (mark : Bool) : charNoise (cleanChar b mark) = false := by
  simp [charNoise, cleanChar, dataNoisy, cleanData, voteNoisy_clean]

/-! ## The numbers of a record (R185) -/

theorem leBytes_length (n x : Nat) : (leBytes n x).length = n := by
  induction n generalizing x with
  | zero => rfl
  | succ n ih => rw [leBytes, List.length_cons, ih]

theorem leNat_leBytes (n x : Nat) : leNat (leBytes n x) = x % 256 ^ n := by
  induction n generalizing x with
  | zero => rw [Nat.pow_zero, Nat.mod_one]; rfl
  | succ n ih =>
    rw [leBytes, leNat, ih, BitVec.toNat_ofNat, show 256 ^ (n + 1) = 256 * 256 ^ n from Nat.pow_succ']
    exact (Nat.mod_mul (x := x) (a := 256) (b := 256 ^ n)).symm

theorem ofNat_leNat_leBytes_two (power : BitVec 16) : BitVec.ofNat 16 (leNat (leBytes 2 power.toNat)) = power := by
  have small : power.toNat < 256 ^ 2 := power.isLt
  rw [leNat_leBytes, Nat.mod_eq_of_lt small, BitVec.ofNat_toNat, BitVec.setWidth_eq]

theorem identityOf_append {l : List Byte} (three : l.length = 3) (ident : Vector Byte 8) :
    identityOf (l ++ ident.toList) = ident := by
  have entry : ∀ k : Fin 8, (identityOf (l ++ ident.toList))[k] = (l ++ ident.toList).getD (3 + k) 0 := fun k => by
    fin_cases k <;> rfl
  refine Vector.ext fun k hk => ?_
  refine (entry ⟨k, hk⟩).trans ?_
  rw [List.getD_append_right _ _ _ _ (by simp [three])]
  simp [three, hk]

/-! ## The dispatch of a record (R129) -/

theorem dispatchRecord_data (body : List Byte) (noise : Bool) :
    dispatchRecord 3 body noise = some (.deposit body noise) := rfl

theorem dispatchRecord_request (power : BitVec 16) (noise : Bool) :
    dispatchRecord 2 (leBytes 2 power.toNat) noise = some (.handOver (.request power)) := by
  have field : fieldAt (leBytes 2 power.toNat) 0 2 = leNat (leBytes 2 power.toNat) := rfl
  rw [dispatchRecord, if_neg (fun h => absurd h.1 (by decide)), if_pos ⟨rfl, leBytes_length 2 _⟩, field,
    ofNat_leNat_leBytes_two]

theorem dispatchRecord_announce (code : Byte) (power : BitVec 16) (ident : Vector Byte 8) (noise : Bool) :
    dispatchRecord 1 ([code] ++ leBytes 2 power.toNat ++ ident.toList) noise =
      some (.handOver (.announce code power ident)) := by
  have field : fieldAt ([code] ++ leBytes 2 power.toNat ++ ident.toList) 1 2 = leNat (leBytes 2 power.toNat) := rfl
  rw [dispatchRecord, if_pos ⟨rfl, by simp [leBytes_length]⟩, field, ofNat_leNat_leBytes_two,
    identityOf_append (by simp [leBytes_length])]
  rfl

theorem dispatchRecord_unknown {kind : Byte} {body : List Byte} (noise : Bool) (announce : kind ≠ 1 ∨ body.length ≠ 11)
    (request : kind ≠ 2 ∨ body.length ≠ 2) (data : kind ≠ 3) : dispatchRecord kind body noise = none := by
  rw [dispatchRecord, if_neg (fun h => announce.elim (· h.1) (· h.2)), if_neg (fun h => request.elim (· h.1) (· h.2)),
    if_neg data]

/-! ## A character in each state of the receiver (R126 to R129) -/

namespace LineRec

section Hunt

variable {l : LineRec} (d : Byte) (noise : Bool) (hunt : l.rx = .hunt)
include hunt

theorem take_hunt_framing (mark : Bool) :
    l.take d mark false noise = ({ l with rx := .hunt, lastEvent := .framing }, .none) := by
  have taken : l.take d mark false noise = (l.note .framing, .none) := by simp [take, hunt]
  rw [taken, note, ← hunt]

theorem take_hunt_unmarked : l.take d false true noise = ({ l with rx := .hunt }, .none) := by
  have taken : l.take d false true noise = (l, .none) := by simp [take, hunt]
  rw [taken, ← hunt]

theorem take_hunt_marked : l.take d true true noise = (l.collect ⟨d, none, [], noise⟩, .none) := by simp [take, hunt]

end Hunt

section Record

variable {l : LineRec} {b : Assembly} {d : Byte} {noise : Bool} (record : l.rx = .record b)
include record

theorem take_record_framing (mark : Bool) : l.take d mark false noise = (l.hunt.note .framing, .none) := by
  simp [take, record]

theorem take_record_marked :
    l.take d true true noise = ((l.note .framing).collect ⟨d, none, [], noise⟩, .none) := by
  simp [take, record]

theorem take_record_length (awaited : b.length = none) (fits : d.toNat ≤ 60) :
    l.take d false true noise = (l.collect ⟨b.kind, some d.toNat, b.body, b.noise || noise⟩, .none) := by
  simp [take, record, extend, awaited, fits]

theorem take_record_long (awaited : b.length = none) (long : 60 < d.toNat) :
    l.take d false true noise = (l.hunt.note .framing, .none) := by
  simp [take, record, extend, awaited, Nat.not_le.2 long]

theorem take_record_body {n : Nat} (length : b.length = some n) (room : b.body.length < n) :
    l.take d false true noise = (l.collect ⟨b.kind, some n, b.body ++ [d], b.noise || noise⟩, .none) := by
  simp [take, record, extend, length, room]

section Check

variable (full : b.length = some b.body.length)
include full

theorem take_record_check :
    l.take d false true noise = l.completeRecord { b with noise := b.noise || noise } d := by
  simp [take, record, extend, full]

theorem take_record_badCheck (bad : d ≠ crc8 (b.kind :: byte b.body.length :: b.body)) :
    l.take d false true noise = (l.hunt.note .badCheck, .none) := by
  rw [take_record_check record full, completeRecord, if_neg (Ne.symm bad)]

theorem take_record_unknown (good : d = crc8 (b.kind :: byte b.body.length :: b.body))
    (unknown : dispatchRecord b.kind b.body (b.noise || noise) = none) :
    l.take d false true noise = (l.hunt.note .unknown, .none) := by
  rw [take_record_check record full, completeRecord, if_pos good.symm]
  simp only [unknown]

theorem take_record_dispatched (good : d = crc8 (b.kind :: byte b.body.length :: b.body)) {e : LineEffect}
    (known : dispatchRecord b.kind b.body (b.noise || noise) = some e) : l.take d false true noise = (l.hunt, e) := by
  rw [take_record_check record full, completeRecord, if_pos good.symm]
  simp only [known]

end Check

end Record

/-- R124, R126: the line at the stop decision of a character, before the receiver's state takes it. -/
def decided (noise : Bool) (l : LineRec) : LineRec :=
  { l with charInProgress := false, noiseSeen := l.noiseSeen || noise }

theorem receive_eq (x : LineSamples) (l : LineRec) :
    l.receive x =
      (l.decided (charNoise x)).take (dataByte x.data) (voteLevel x.mark) (voteLevel x.stop) (charNoise x) := rfl

end LineRec

/-! ## The row of a character (R124, R126) -/

theorem exec_characterReceived_of_deaf {p : Port} {x : LineSamples} {s : State}
    (deaf : ¬((s.line p).rx ≠ .off ∧ (s.line p).tx ≠ .sending ∧ (s.line p).tx ≠ .breaking ∧
      (s.line p).charInProgress = true)) : exec (.characterReceived p x) s = .next s :=
  congrArg Host.Outcome.next (if_neg fun heard => by
    obtain ⟨listens, inProgress⟩ := Bool.and_eq_true_iff.1 heard
    obtain ⟨on, notSending, notBreaking⟩ := (LineRec.listens_iff _).1 listens
    exact deaf ⟨on, notSending, notBreaking, inProgress⟩)

/-- R130: the end of a character leaves an idle time and a low time that the row does not fix. -/
theorem idleAfterChar_setLine (p : Port) (x : LineSamples) (l : LineRec) (s : State) :
    ∃ idle low : Nat,
      idleAfterChar p x (s.setLine p l) =
        { s with choices := s.choices + 1, lines := tput s.lines p { l with idle := idle, low := low } } := by
  unfold idleAfterChar
  split
  · exact ⟨_, _, countIdle_setLine p _ l s⟩
  · exact ⟨_, _, holdLow_setLine p l s⟩

/-- R124, R126: a character that a line hears, from what its receiver makes of it. -/
theorem exec_characterReceived {p : Port} {x : LineSamples} {s : State} {m : LineRec} {e : LineEffect}
    (listens : (s.line p).listens = true) (inProgress : (s.line p).charInProgress = true)
    (received : (s.line p).receive x = (m, e)) :
    ∃ idle low : Nat,
      exec (.characterReceived p x) s =
        .next (applyLineEffect p e
          { s with choices := s.choices + 1, lines := tput s.lines p { m with idle := idle, low := low } }) := by
  have heard : exec (.characterReceived p x) s = .next (receiveChar p x s) :=
    congrArg Host.Outcome.next (if_pos (Bool.and_eq_true_iff.2 ⟨listens, inProgress⟩))
  obtain ⟨idle, low, ended⟩ := idleAfterChar_setLine p x m s
  exact ⟨idle, low, by rw [heard, receiveChar, received, ended]⟩

/-! ## Clean characters (R123, R126 to R129) -/

/-- What the reception of clean characters on line `p` has come to: a receiver in state `rx`, its line with its status as it
was, and nothing handed on yet. -/
structure Heard (p : Port) (rx : LineRx) (s t : State) : Prop where
  rx : (t.line p).rx = rx
  tx : (t.line p).tx = (s.line p).tx
  lastEvent : (t.line p).lastEvent = (s.line p).lastEvent
  noiseSeen : (t.line p).noiseSeen = (s.line p).noiseSeen
  pool : t.pool = s.pool
  records : t.records = s.records

theorem Heard.trans {p : Port} {rx rx' : LineRx} {s t u : State} (h : Heard p rx s t) (k : Heard p rx' t u) :
    Heard p rx' s u :=
  ⟨k.rx, k.tx.trans h.tx, k.lastEvent.trans h.lastEvent, k.noiseSeen.trans h.noiseSeen, k.pool.trans h.pool,
    k.records.trans h.records⟩

theorem execAll_next {i : Instr} {s t : State} (h : exec i s = .next t) (rest : List Instr) :
    execAll (i :: rest) s = execAll rest t := by rw [execAll, h]

/-- R126: a clean character that a receiver takes in state `rx` and that leaves it in state `rx'`. -/
theorem cleanChar_heard {p : Port} {s : State} {rx rx' : LineRx} {gap : Option Nat} {d : Byte} {mark : Bool} {e : LineEffect}
    (state : (s.line p).rx = rx) (on : rx ≠ .off) (silent : (s.line p).tx.deaf = false)
    (took : ∀ l : LineRec, l.rx = rx → l.take d mark true false = ({ l with rx := rx', gap := gap }, e)) :
    ∃ t, Heard p rx' s t ∧
      ∀ rest, execAll (lineCharEvents p mark d ++ rest) s = execAll rest (applyLineEffect p e t) := by
  have listens : (s.line p).listens = true := by simp [LineRec.listens, silent, state, on]
  set l : LineRec := { s.line p with charInProgress := true, gap := none, idle := 0, low := 0 } with started
  have line : (s.setLine p l).line p = l := State.setLine_line_self _ _ _
  have received : ((s.setLine p l).line p).receive (cleanChar d mark) =
      ({ l.decided false with rx := rx', gap := gap }, e) := by
    rw [line, LineRec.receive_eq, charNoise_clean]
    simp only [cleanChar, dataByte_clean, voteLevel_clean]
    exact took _ state
  obtain ⟨idle, low, row⟩ :=
    exec_characterReceived (by rw [line]; exact listens) (by rw [line]) received
  refine ⟨_, ?_, fun rest => (execAll_next (exec_lineValidStart_of_listens listens) _).trans (execAll_next row rest)⟩
  constructor
  case pool => rfl
  case records => rfl
  all_goals simp only [State.line, tget_tput_self, started, LineRec.decided, Bool.or_false]

theorem handRecord_recordsOf (p : Port) (r : AccRecord) (s : State) :
    (handRecord p r s).recordsOf p = s.recordsOf p ++ [r] := tget_tput_self _ _ _

section Record

variable {p : Port} {s : State} (silent : (s.line p).tx.deaf = false)
include silent

/-- R126: the kind begins a record. -/
theorem kind_heard (hunt : (s.line p).rx = .hunt) (kind : Byte) :
    ∃ t, Heard p (.record ⟨kind, none, [], false⟩) s t ∧
      ∀ rest, execAll (lineCharEvents p true kind ++ rest) s = execAll rest t :=
  cleanChar_heard hunt nofun silent fun _ state => LineRec.take_hunt_marked _ _ state

/-- R127: the length of a record. -/
theorem length_heard {kind : Byte} (state : (s.line p).rx = .record ⟨kind, none, [], false⟩) {n : Nat} (fits : n ≤ 60) :
    ∃ t, Heard p (.record ⟨kind, some n, [], false⟩) s t ∧
      ∀ rest, execAll (lineCharEvents p false (byte n) ++ rest) s = execAll rest t := by
  have value : (byte n).toNat = n := by rw [byte, BitVec.toNat_ofNat]; omega
  refine cleanChar_heard (gap := some Config.lineGap) (e := .none) state nofun silent fun l state => ?_
  rw [LineRec.take_record_length state rfl (by rw [value]; exact fits), value]
  rfl

/-- R127: the bytes of a body, each behind those before it. -/
theorem body_heard {kind : Byte} {n : Nat} (tail : List Byte) :
    ∀ before : List Byte, (s.line p).rx = .record ⟨kind, some n, before, false⟩ →
      before.length + tail.length ≤ n →
      ∃ t, Heard p (.record ⟨kind, some n, before ++ tail, false⟩) s t ∧
        ∀ rest, execAll (tail.flatMap (lineCharEvents p false) ++ rest) s = execAll rest t := by
  induction tail generalizing s with
  | nil =>
    intro before state _
    exact ⟨s, ⟨by rw [state, List.append_nil], rfl, rfl, rfl, rfl, rfl⟩, fun _ => rfl⟩
  | cons d tail ih =>
    intro before state room
    rw [List.length_cons] at room
    obtain ⟨t, first, ran⟩ := cleanChar_heard (rx' := .record ⟨kind, some n, before ++ [d], false⟩) state nofun silent
      fun l state => LineRec.take_record_body state rfl (by show before.length < n; omega)
    obtain ⟨u, later, runs⟩ := ih (by rw [first.tx]; exact silent) (before ++ [d]) first.rx (by
      rw [List.length_append, List.length_singleton]
      omega)
    rw [List.append_assoc, List.singleton_append] at later
    refine ⟨u, first.trans later, fun rest => ?_⟩
    rw [List.flatMap_cons, List.append_assoc, ran]
    exact runs rest

/-- R129: the check of a record whose body is whole. -/
theorem check_heard {kind : Byte} {body : List Byte} {e : LineEffect}
    (state : (s.line p).rx = .record ⟨kind, some body.length, body, false⟩)
    (known : dispatchRecord kind body false = some e) :
    ∃ t, Heard p .hunt s t ∧
      ∀ rest, execAll (lineCharEvents p false (crc8 (kind :: byte body.length :: body)) ++ rest) s =
        execAll rest (applyLineEffect p e t) :=
  cleanChar_heard state nofun silent fun _ state => LineRec.take_record_dispatched state rfl rfl known

/-- R126 to R129: a record of clean characters is received whole, and dispatched. -/
theorem record_heard (hunt : (s.line p).rx = .hunt) {kind : Byte} {body : List Byte} {e : LineEffect}
    (fits : body.length ≤ 60) (known : dispatchRecord kind body false = some e) :
    ∃ t, Heard p .hunt s t ∧ execAll (recordEvents p (recordChars kind body)) s = .next (applyLineEffect p e t) := by
  obtain ⟨s₁, kindHeard, ran₁⟩ := kind_heard silent hunt kind
  have silent₁ : (s₁.line p).tx.deaf = false := by rw [kindHeard.tx]; exact silent
  obtain ⟨s₂, lengthHeard, ran₂⟩ := length_heard silent₁ kindHeard.rx fits
  have silent₂ : (s₂.line p).tx.deaf = false := by rw [lengthHeard.tx]; exact silent₁
  obtain ⟨s₃, bodyHeard, ran₃⟩ := body_heard silent₂ body [] lengthHeard.rx (by simp)
  have silent₃ : (s₃.line p).tx.deaf = false := by rw [bodyHeard.tx]; exact silent₂
  obtain ⟨s₄, checkHeard, ran₄⟩ := check_heard silent₃ bodyHeard.rx known
  refine ⟨s₄, ((kindHeard.trans lengthHeard).trans bodyHeard).trans checkHeard, ?_⟩
  have events : recordEvents p (recordChars kind body) =
      lineCharEvents p true kind ++ (lineCharEvents p false (byte body.length) ++
        (body.flatMap (lineCharEvents p false) ++
          (lineCharEvents p false (crc8 (kind :: byte body.length :: body)) ++ []))) := by
    simp [recordChars, recordEvents]
  rw [events, ran₁, ran₂, ran₃, ran₄]
  rfl

/-- R129: a whole REQUEST or ANNOUNCE joins the records that wait for the engine. -/
theorem record_handedOver (hunt : (s.line p).rx = .hunt) {kind : Byte} {body : List Byte} {r : AccRecord}
    (fits : body.length ≤ 60) (known : dispatchRecord kind body false = some (.handOver r)) :
    ∃ t, execAll (recordEvents p (recordChars kind body)) s = .next t ∧ t.recordsOf p = s.recordsOf p ++ [r] ∧
      (t.line p).rx = .hunt ∧ (t.line p).lastEvent = (s.line p).lastEvent := by
  obtain ⟨t, heard, ran⟩ := record_heard silent hunt fits known
  refine ⟨_, ran, ?_, heard.rx, heard.lastEvent⟩
  rw [applyLineEffect, handRecord_recordsOf, State.recordsOf, heard.records]
  rfl

end Record

/-- R140: an arrival at the pool touches no line. -/
theorem poolArrive_line (p q : Port) (body : List Byte) (noise : Bool) (s : State) :
    (poolArrive p body noise s).line q = s.line q := by
  unfold poolArrive
  repeat' split
  all_goals rfl

/-- R139, R140: what an arrival makes of the pool rests on the pool alone. -/
theorem poolArrive_pool_congr {s t : State} (same : t.pool = s.pool) (p : Port) (body : List Byte) (noise : Bool) :
    (poolArrive p body noise t).pool = (poolArrive p body noise s).pool := by
  simp only [poolArrive, same]
  split
  · split
    · exact same
    · rfl
  · split <;> rfl

end Sys2Proof.Machine

open Sys2Proof Sys2Proof.Machine

/-- Settles O35, by the receiver's state and the part of a record that the character is; whole records by their kind. -/
theorem cleanRecordsAreReceivedWhole : Obligations.CleanRecordsAreReceivedWhole := by
  constructor
  · intro p x d s bits l mark stop disagree noise row listens heard begun
    have data : dataByte x.data = d := dataByte_eq bits
    have row_of : ∀ {rx : LineRx} {gap : Option Nat} {event : LineEvent} (e : LineEffect), listens →
        (l.decided noise).take d mark stop noise =
          ({ l.decided noise with rx := rx, gap := gap, lastEvent := event }, e) →
        heard rx gap event (applyLineEffect p e) := by
      rintro rx gap event e ⟨on, notSending, notBreaking, inProgress⟩ took
      have received : l.receive x = ({ l.decided noise with rx := rx, gap := gap, lastEvent := event }, e) := by
        rw [LineRec.receive_eq, data]
        exact took
      exact exec_characterReceived ((LineRec.listens_iff l).2 ⟨on, notSending, notBreaking⟩) inProgress received
    refine ⟨exec_characterReceived_of_deaf, fun hears hunt => ?_, fun b hears record => ?_⟩
    · replace hunt : (l.decided noise).rx = .hunt := hunt
      refine ⟨fun low => row_of .none hears ?_, fun high unmarked => row_of .none hears ?_,
        fun high marked => row_of .none hears ?_⟩
      · rw [low]
        exact LineRec.take_hunt_framing d noise hunt mark
      · rw [high, unmarked]
        exact LineRec.take_hunt_unmarked d noise hunt
      · rw [high, marked]
        exact LineRec.take_hunt_marked d noise hunt
    · replace record : (l.decided noise).rx = .record b := record
      refine ⟨fun low => row_of .none hears ?_, fun high marked => row_of .none hears ?_,
        fun high unmarked awaited => ⟨fun fits => row_of .none hears ?_, fun long => row_of .none hears ?_⟩,
        fun n high unmarked length room => row_of .none hears ?_, fun high unmarked full => ?_⟩
      · rw [low]
        exact LineRec.take_record_framing record mark
      · rw [high, marked]
        exact LineRec.take_record_marked record
      · rw [high, unmarked]
        exact LineRec.take_record_length record awaited fits
      · rw [high, unmarked]
        exact LineRec.take_record_long record awaited long
      · rw [high, unmarked]
        exact LineRec.take_record_body record length room
      · intro check handed
        have dispatched : ∀ {e : LineEffect}, d = check → dispatchRecord b.kind b.body (b.noise || noise) = some e →
            (l.decided noise).take d mark stop noise =
              ({ l.decided noise with rx := .hunt, gap := none, lastEvent := l.lastEvent }, e) := fun good known => by
          rw [high, unmarked]
          exact LineRec.take_record_dispatched record full good known
        refine ⟨fun bad => row_of .none hears ?_, fun good announce request data => row_of .none hears ?_,
          fun good kind => row_of (.deposit b.body (b.noise || noise)) hears (dispatched good ?_),
          fun power good kind body => row_of (.handOver (.request power)) hears (dispatched good ?_),
          fun code power ident good kind body =>
            row_of (.handOver (.announce code power ident)) hears (dispatched good ?_)⟩
        · rw [high, unmarked]
          exact LineRec.take_record_badCheck record full bad
        · rw [high, unmarked]
          exact LineRec.take_record_unknown record full good (dispatchRecord_unknown _ announce request data)
        · rw [kind]
          exact dispatchRecord_data _ _
        · rw [kind, body]
          exact dispatchRecord_request power _
        · rw [kind, body]
          exact dispatchRecord_announce code power ident _
  · intro p s hunt idle
    have silent : (s.line p).tx.deaf = false := by
      rcases idle with idle | backoff
      · rw [idle]; rfl
      · rw [backoff]; rfl
    refine ⟨fun body fits => ?_, fun power => ?_, fun code power ident => ?_⟩
    · obtain ⟨t, heard, ran⟩ := record_heard silent hunt fits (dispatchRecord_data body false)
      refine ⟨_, ran, poolArrive_pool_congr heard.pool p body false, ?_⟩
      simp only [applyLineEffect, poolArrive_line]
      exact ⟨heard.rx, heard.lastEvent, heard.noiseSeen⟩
    · exact record_handedOver silent hunt (by simp [leBytes_length]) (dispatchRecord_request power false)
    · exact record_handedOver silent hunt (by simp [leBytes_length]) (dispatchRecord_announce code power ident false)

end
